-- ==== Sys2Proof/Word.lean ====
section
/-!
DEFINITION. The word types of the model: 32-bit registers, bytes, and the widths the spec names.
-/
namespace Sys2Proof

/-- A register word: all registers are 32 bits wide (00, "Registers"). -/
abbrev Word := BitVec 32

/-- One byte. -/
abbrev Byte := BitVec 8

/-- A 40-bit STMP timestamp (R122). -/
abbrev Stmp := BitVec 40

/-- A 128-bit block or key. -/
abbrev Block := BitVec 128

end Sys2Proof
end

