-- ==== Sys2Proof/Syntax.lean ====
section
/-!
DEFINITION. The commands of the block: one constructor per row of spec/opcode_table.json, with the operands that the
row's rule takes from outside the state (who asks, which slot, a captured timestamp, received bytes, a measured level).
-/
namespace Sys2Proof

/-- Who makes a register or memory access: the host, with or without a valid HAUTH tag (R5), or engine n (R310). -/
inductive Src where
  | host (tagged : Bool)
  | engine (n : Fin 8)
deriving DecidableEq, Repr

/-- A host request as it arrives (R375, R388): tag bit, fix bit, count field, address, data words, the tag sent and the
SPI CRC sent. -/
structure HostReq where
  tagBit : Bool
  fix : Bool
  cnt : BitVec 4
  addr : BitVec 24
  data : List Word
  tag : Word
  crc : BitVec 16
deriving DecidableEq, Repr

/-- How an HAUTH computation ended (R400): with a result, or without one. -/
inductive HauthEnd where
  | result
  | noResult
deriving DecidableEq, Repr

/-- The word of a register write and the bits that hardware changes in the same cycle (R5). -/
structure RegData where
  data : Word
  hw : Word
deriving DecidableEq, Repr

/-- The bits of a CAN FD frame beside its identifier and data field (R392): FDF, IDE and res. -/
structure CanBits where
  fd : Bool
  ext : Bool
  res : Bool
deriving DecidableEq, Repr

/-- A UHF placement (R52, R64). -/
inductive Placement where
  | ack (s : Fin 8)
  | poll (p : Fin 4)
  | report (s : Fin 8)
  | response (s : Fin 8)
deriving DecidableEq, Repr

/-- What one UHF receiver measured of a placement (R99, R102, R104, R107): the RSSI code averaged over preamble and sync word,
and the RSSI codes of its bit times in order. -/
structure RssiIn where
  avg : BitVec 8
  bits : List (BitVec 8)
deriving DecidableEq, Repr

/-- What the current sense measured on one aerial over a unit (R89, R92): driven, amplitude, phase, and the path
resistance where at least 200 mA peak flowed. -/
structure AerMeas where
  driven : Bool
  amp : BitVec 8
  phase : BitVec 10
  ron : Option (BitVec 12)
deriving DecidableEq, Repr

/-- What one UWB port heard of a frame (R134, R135): the capture of tap 0, the magnitudes of the two channel estimates,
the tap offset that maps the preamble estimate onto the STS time axis, the STS quality, the two powers, the PSDU of an SP1 frame
(R121), and the complex first-path value (R137). -/
structure PortRx where
  heard : Bool
  tap0 : Stmp
  hSts : List Nat
  hPre : List Nat
  preShift : Int
  q : BitVec 8
  fp : BitVec 8
  pk : BitVec 8
  psdu : List Byte
  fpRe : BitVec 16
  fpIm : BitVec 16
deriving DecidableEq, Repr

/-- What the current sense measured by T_HP (R89, R96): the aerials over HP_REQ, and the mean amplitude of its last 64 carrier
periods. -/
structure HpMeas where
  aerials : List AerMeas
  mean : BitVec 16
deriving DecidableEq, Repr

/-- What an interpolator calibration found (R125): the span of the interpolator, and the correction tables by channel. -/
structure TscalOut where
  span : BitVec 8
  tables : List (List (BitVec 5))
deriving DecidableEq, Repr

/-- A collection of the noise source (R271, R272): its raw bits, first bit most significant, and whether the expander's datapath
check fails in the Instantiate or Reseed that takes the seed at once. -/
structure SeedRaw where
  raw : BitVec 1152
  mismatch : Bool
deriving DecidableEq, Repr

/-- Consumers of expander requests (R277). -/
inductive RngUser where
  | keyTree
  | pools
  | uwbCheck
  | hostPort
  | enginePort (n : Fin 8)
deriving DecidableEq, Repr

/-- A bank of drivers (R70). -/
inductive Bank where
  | lfa
  | lfb
deriving DecidableEq, Repr

/-- What a word read through SECDED ECC showed (R311). -/
inductive Ecc where
  | clean
  | single
  | double
deriving DecidableEq, Repr

/-- What recall met in the copy being recalled (R293): nothing, corrected single-bit errors, or double-bit errors in the
words at the listed offsets. -/
inductive RecallEcc where
  | clean
  | single
  | double (words : List Nat)
deriving DecidableEq, Repr

/-- A wake event of STANDBY or BURST (R236). -/
inductive WakeSrc where
  | touch (n : Fin 8)
  | door (n : Fin 8) (opened : Bool)
  | host
  | presence
  | tamper
deriving DecidableEq, Repr

/-- A supply rail with a brown-out detector (R466). -/
inductive Rail where
  | vdd33
  | vdd18
deriving DecidableEq, Repr

/-- The commands. Constructor order is the table's order. The default of `startupTestPass` only lets the row be written without its
raw bits; the row runs on the bits it is given. -/
inductive Instr where
  | registerWrite (src : Src) (addr : BitVec 24) (data : RegData)
  | hostStatus (r : HostReq)
  | hostRead (r : HostReq)
  | hostWrite (r : HostReq)
  | hostOpReserved (r : HostReq)
  | bindRequest (tag : Word) (crc : BitVec 16)
  | hostBindUnbind (data tag : Word) (crc : BitVec 16)
  | hostTagCheckDone (e : HauthEnd)
  | nonceDraw
  | spiFrameStart (sckHigh : Bool)
  | spiFrameEnd (whole : Bool)
  | canRequestFrame (bits : CanBits) (ident : BitVec 29) (payload : List Byte)
  | canNotify
  | canTxDrop
  | canBusOffRecovery
  | irqReassert
  | hostReset (key : Word) (tagged : Bool)
  | hostResetAct
  | txnStart (kind sweep : BitVec 2)
  | wakeStart (vdrv : BitVec 8)
  | wakeEnd (ts : Stmp) (meas : List AerMeas)
  | patternLatch (ts : Stmp) (vdrv : BitVec 8)
  | patternGap (meas : List AerMeas)
  | ackPhaseEnd
  | challengePreface (vdrv : BitVec 8)
  | tCb (ts : Stmp)
  | tEnd (ts : Stmp) (env : BitVec 16) (meas : List AerMeas)
  | lfChalWrite (n : Fin 4) (data : Word)
  | synEnWrite (v : Bool)
  | bankEnWrite (b : Bank) (v : Bool)
  | lfAbort (atCompletion : Bool)
  | calStart
  | calStepEnd (amp : BitVec 8) (phase : BitVec 10) (env : BitVec 16)
  | hpStart (tagged : Bool)
  | hpCarrierStart (vdrv : BitVec 8)
  | hpReqStart
  | tHp (ts : Stmp) (meas : HpMeas)
  | hpReplyStart (amps : List (BitVec 16))
  | hpReplyEnd (halves : List (BitVec 16 × BitVec 16))
  | hpTimeout
  | lfFaultClear (data : Word)
  | overCurrent (n : Fin 12)
  | bankWarm (b : Bank) (temp : BitVec 8)
  | bankHot (b : Bank) (temp : BitVec 8)
  | bankCool (b : Bank) (temp : BitVec 8)
  | vdrvLow (v : BitVec 8)
  | vdrvHigh (v : BitVec 8)
  | trimPeriod (units : BitVec 10)
  | lfTrimRead
  | huntWindowOpen (p : Placement)
  | huntWindowClose (p : Placement) (rssi : RssiIn × RssiIn)
  | syncDetect (p : Placement)
  | frameTruncated (p : Placement) (u0 u1 : RssiIn) (bytes : List Byte) (ts : Stmp) (res : BitVec 11)
  | uhfFrameEnd (p : Placement) (u0 u1 : RssiIn) (bytes : List Byte) (foff : BitVec 16) (ts : Stmp) (res : BitVec 11)
  | uhfQchkWrite (e : Fin 8) (entry : BitVec 5) (pass : Bool)
  | uEnWrite (rx : Bool) (v : Bool)
  | uhfStatClr
  | pollLatchCopy
  | presenceCheckDone (pass : Bool)
  | rfEnWrite (v : Bool)
  | uwbAbort (atCompletion : Bool)
  | uwbCalStart
  | uwbCalDone (caps : List (Stmp × List Stmp))
  | tscalStart
  | tscalDone (dnl : BitVec 8) (found : TscalOut)
  | stmpLoRead
  | pollTx (slot : Fin 8) (ts : Stmp)
  | rr1ListenEnd (ports : List PortRx) (cfo : BitVec 16)
  | finalTx (ts : Stmp)
  | rr2ListenEnd (w0 w1 : PortRx) (w23 : PortRx × PortRx)
  | uwbWindowClose (slot : Fin 8)
  | precomputeDone (slot : Fin 8)
  | fixStart
  | fixIteration (parityErr : Bool)
  | fixDone (elapsed : BitVec 16)
  | fixDeadline (slot : Fin 8)
  | solvEnWrite (v : Bool)
  | solvAbort (atCompletion : Bool)
  | solvMdataAccess (src : Src) (write : Option Word)
  | verdictPublish (slot : Fin 8)
  | startSessionOpen (status : BitVec 4)
  | txnGapEnd
  | verdEnWrite (v : Bool)
  | verdAbort (forming : Option (Fin 8))
  | verdictPulseEnd
  | sessStartCmd (kind : BitVec 2) (tagged : Bool)
  | endEntry
  | endStart
  | sessEnWrite (v : Bool)
  | sessionTimeout (start : Bool)
  | slkBHalfPeriod
  | slkReadbackSample (a b : Bool)
  | slkFaultClear
  | burstDue
  | dwellExpiry
  | burstWakePStart (vdrv : BitVec 8)
  | burstListenStart (ts : Stmp) (meas : List AerMeas)
  | burstListenEnd
  | pollEnWrite (v : Bool)
  | sleep (tagged : Bool)
  | standbyEnter
  | hostWakeWrite
  | pollCntClr
  | hsScan (counts : List (BitVec 16))
  | dsSample (levels : BitVec 8)
  | hostWakePin
  | wakeEvent (w : WakeSrc)
  | coreDispatch
  | blockDone (core : Fin 4) (mismatch : Bool)
  | enc (e : Fin 8) (handle : BitVec 16)
  | dec (e : Fin 8) (handle : BitVec 16)
  | kstream (e : Fin 8) (handle : BitVec 16)
  | echOpReserved (e : Fin 8)
  | echAbort (e : Fin 8) (atCompletion : Bool)
  | deriveStart (e : Fin 8)
  | handleFree (e : Fin 8) (handle : BitVec 16)
  | handleRetire (slot : Fin 48)
  | keyRenew (c : Fin 3)
  | rootFillStep (torn : Bool)
  | goField (tagged : Bool)
  | goShop (tagged : Bool)
  | retire (confirm : BitVec 8) (tagged : Bool)
  | lcCmdRefused (cmd : BitVec 4) (tagged : Bool)
  | lcStateProgram
  | keysImpWrite (n : Fin 4) (data : Word) (tagged : Bool)
  | keysWrapStart (id : BitVec 5) (index : BitVec 4) (tagged : Bool)
  | keysWoutRead
  | keysClear (tagged : Bool)
  | healthTestFail (raw : List Bool)
  | startupTestPass (raw : BitVec 1024 := 0)
  | seedComplete (seed : SeedRaw)
  | rngRequest (u : RngUser) (mismatch : Bool)
  | queueRefill (mismatch : Bool)
  | portConsume (port : Option (Fin 8))
  | rngStretchRead
  | rngEnWrite (v : Bool)
  | forcedReseed
  | qflush
  | loftWindowWrite (src : Src) (off : BitVec 19) (data : Word)
  | commit (src : Src)
  | gatherTimeout
  | commitStart
  | commitEnd
  | gabort (src : Src) (atStart : Bool)
  | loftStore (src : Src)
  | storeStart
  | storeDone
  | droopMeasureEnd (mv : BitVec 12)
  | ringChange (src : Src) (r : Fin 16) (hi : Word)
  | ringSlotWriteDone (r : Fin 16)
  | sealTagDone (q : Fin 4)
  | recallStart
  | recallDone (ecc : RecallEcc)
  | pfTrip (vhold : BitVec 8)
  | vholdBelowCutoff (words : BitVec 11)
  | vholdStoreStop
  | add (e : Fin 8) (rd ra rb : BitVec 4)
  | sub (e : Fin 8) (rd ra rb : BitVec 4)
  | and (e : Fin 8) (rd ra rb : BitVec 4)
  | or (e : Fin 8) (rd ra rb : BitVec 4)
  | xor (e : Fin 8) (rd ra rb : BitVec 4)
  | shl (e : Fin 8) (rd ra rb : BitVec 4)
  | shr (e : Fin 8) (rd ra rb : BitVec 4)
  | sra (e : Fin 8) (rd ra rb : BitVec 4)
  | slt (e : Fin 8) (rd ra rb : BitVec 4)
  | sltu (e : Fin 8) (rd ra rb : BitVec 4)
  | mul (e : Fin 8) (rd ra rb : BitVec 4)
  | mulh (e : Fin 8) (rd ra rb : BitVec 4)
  | min (e : Fin 8) (rd ra rb : BitVec 4)
  | max (e : Fin 8) (rd ra rb : BitVec 4)
  | clz (e : Fin 8) (rd ra rb : BitVec 4)
  | qmul (e : Fin 8) (rd ra rb : BitVec 4)
  | qdiv (e : Fin 8) (rd ra rb : BitVec 4)
  | qsqrt (e : Fin 8) (rd ra rb : BitVec 4)
  | addi (e : Fin 8) (rd ra : BitVec 4) (imm : BitVec 18)
  | andi (e : Fin 8) (rd ra : BitVec 4) (imm : BitVec 18)
  | ori (e : Fin 8) (rd ra : BitVec 4) (imm : BitVec 18)
  | xori (e : Fin 8) (rd ra : BitVec 4) (imm : BitVec 18)
  | shli (e : Fin 8) (rd ra : BitVec 4) (imm : BitVec 18)
  | shri (e : Fin 8) (rd ra : BitVec 4) (imm : BitVec 18)
  | srai (e : Fin 8) (rd ra : BitVec 4) (imm : BitVec 18)
  | slti (e : Fin 8) (rd ra : BitVec 4) (imm : BitVec 18)
  | lui (e : Fin 8) (rd : BitVec 4) (imm : BitVec 22)
  | ldw (e : Fin 8) (rd ra : BitVec 4) (imm : BitVec 18) (ecc : Ecc)
  | ldh (e : Fin 8) (rd ra : BitVec 4) (imm : BitVec 18) (ecc : Ecc)
  | ldhu (e : Fin 8) (rd ra : BitVec 4) (imm : BitVec 18) (ecc : Ecc)
  | ldb (e : Fin 8) (rd ra : BitVec 4) (imm : BitVec 18) (ecc : Ecc)
  | ldbu (e : Fin 8) (rd ra : BitVec 4) (imm : BitVec 18) (ecc : Ecc)
  | stw (e : Fin 8) (rd ra : BitVec 4) (imm : BitVec 18)
  | sth (e : Fin 8) (rd ra : BitVec 4) (imm : BitVec 18)
  | stb (e : Fin 8) (rd ra : BitVec 4) (imm : BitVec 18)
  | swapw (e : Fin 8) (rd ra : BitVec 4) (imm : BitVec 18) (ecc : Ecc)
  | addw (e : Fin 8) (rd ra : BitVec 4) (imm : BitVec 18) (ecc : Ecc)
  | beq (e : Fin 8) (ra rb : BitVec 4) (off : BitVec 18)
  | bne (e : Fin 8) (ra rb : BitVec 4) (off : BitVec 18)
  | blt (e : Fin 8) (ra rb : BitVec 4) (off : BitVec 18)
  | bge (e : Fin 8) (ra rb : BitVec 4) (off : BitVec 18)
  | bltu (e : Fin 8) (ra rb : BitVec 4) (off : BitVec 18)
  | bgeu (e : Fin 8) (ra rb : BitVec 4) (off : BitVec 18)
  | jmp (e : Fin 8) (off : BitVec 26)
  | call (e : Fin 8) (off : BitVec 26)
  | jr (e : Fin 8) (rd ra rb : BitVec 4)
  | wait (e : Fin 8) (rd ra rb : BitVec 4)
  | iret (e : Fin 8)
  | csrr (e : Fin 8) (rd ra : BitVec 4) (imm : BitVec 18)
  | csrw (e : Fin 8) (rd ra : BitVec 4) (imm : BitVec 18)
  | illegalOpcode (e : Fin 8)
  | eventEdge (e : Fin 8) (line : Fin 16)
  | interruptTaken (e : Fin 8)
  | waitWake (e : Fin 8)
  | timerCompare (e : Fin 8)
  | watchdogExpiry (e : Fin 8)
  | restartClear (e : Fin 8)
  | groomDoorbell (e : Fin 8) (value : Word)
  | halt (e : Fin 8) (tagged : Bool)
  | resume (e : Fin 8) (tagged : Bool)
  | step (e : Fin 8) (tagged : Bool)
  | reload (e : Fin 8) (tagged : Bool)
  | move (e target : Fin 8) (tagged : Bool)
  | groomMdataAccess (e : Fin 8) (write : Option Word) (tagged : Bool)
  | stallRestart (e : Fin 8)
  | stallInstallDone (e : Fin 8) (status : BitVec 4)
  | begin (tagged : Bool)
  | pdataWrite (data : Word) (tagged : Bool)
  | apply (tagged : Bool)
  | cancel (tagged : Bool)
  | useLoft (tagged : Bool)
  | planLoadStart
  | planVerifyDone (status : BitVec 4)
  | planApply
  | overlayApply
  | tallyMatch (n : Fin 16)
  | tallyCapture (n : Fin 16)
  | tallySwcap (mask : BitVec 16)
  | tallyFreezeWrite (mask : BitVec 16)
  | tallyFreezeApply (n : Fin 16)
  | tallyCntWrite (n : Fin 16) (v : BitVec 16)
  | tallyCntRead (n : Fin 16)
  | tallyCapRead (n : Fin 16) (coincide : Bool)
  | tallyCmpWrite (n : Fin 16) (v : BitVec 16)
  | tallyCmpApply (n : Fin 16)
  | grantDeadline (r : Fin 5)
  | derateTick (tempA tempB : BitVec 8)
  | vdd33Sense (vdd33 vdrv : BitVec 10)
  | domainSwitchOn (d : Fin 10)
  | powerGood (d : Fin 10)
  | clockGood (c : Fin 12)
  | domainSwitchOff (d : Fin 10)
  | domainOffProceed (d : Fin 10)
  | autoHoldExpiry (d : Fin 10)
  | clockCheckWindow (c : Fin 12) (dev : BitVec 16)
  | por
  | bor33 (vhold : BitVec 8)
  | bor18
  | nrstAssert
  | nrstRelease
  | sysWdogExpiry
  | rstWdkick (v : Word)
  | rstCtrlWrite (v : Word) (tagged : Bool)
  | rstBlockWrite (src : Src) (mask : Word)
  | blockResetRelease (b : Fin 27)
  | strapDone (code : BitVec 4)
  | trimLoadDone (crcOk : Bool)
  | domainReleaseGap
  | clockGoodTimeout
  | aonClockTimeout
  | tamperHaltResume
  | farrierDue
  | farrStart (tagged : Bool)
  | farrierPassStart
  | farrierStepDone (slow : List (Option (BitVec 16)))
  | farrierTimeout
  | scrub (err : Option (Fin 5 × Bool))
  | tmpSample (levels : BitVec 4)
  | meshStep
  | meshSample (levels : BitVec 4)
  | voltageGlitch (lowSide : Bool)
  | clockGlitch
  | tempSample (tj : BitVec 16)
  | glitchLiveEnd (clock : Bool)
  | tmpLatchClear (data : Word) (tagged : Bool)
  | hlthTsRead
  | tapExtest (cells : BitVec 84)
  | tapSamplePreload (cells : BitVec 84)
  | tapIdcode
  | tapHighz
  | tapClamp
  | tapBypass
  | tapReserved (op : BitVec 4)
  | tapReset
  | brownOutRelease (r : Rail)
  | canBusError (tec rec : BitVec 9)
  | tallyEdge (n : Fin 16)
  | vdrvOk (v : BitVec 8)
deriving DecidableEq, Repr

end Sys2Proof
end

