-- ==== Sys2Proof/Config.lean ====
section
/-!
DEFINITION. The free values: what the spec leaves open. Each is an opaque constant without a body, so nothing can be
proved of its value; each is named in a log entry.
-/
namespace Sys2Proof

/-- A free bit: which of two neighbouring integers a value the spec does not round explicitly takes (log entry 8). -/
opaque Config.freeBit : Nat → Bool

/-- Which of the two neighbouring codes the trim of R89 gives an amplitude at `t` sixteenths: R75 rounds the pipeline and not
the trim (log entry 8). -/
opaque Config.trimBit : Nat → Nat → Bool

/-- How a bit of the hitching reply reads whose two half-bits have the same mean, by draw and bit (R96, log entry 155). -/
opaque Config.tieBit : Nat → Nat → Bool

/-- The error of the solver's log10 table in units of 1/65536 dB before clamping to the spec's bound of 0.01 dB
(R163, log entry 9). -/
opaque Config.logError : Nat → Int

/-- The 64-bit fingerprint function of a retirement record (R254 names its inputs and not the function, log entry 10). -/
opaque Config.fingerprint : List Byte → BitVec 64

/-- A free 16-bit value, for results the spec computes by a rule it does not state (log entry 11). -/
opaque Config.freeWord : Nat → BitVec 16

/-- The marked spot of the hitching post, by plan version and component (0 to 2 the coordinates, 3 the paddock): R68 names it
and no section of the plan holds it (log entry 12). -/
opaque Config.hpSpot : Word → Nat → BitVec 16

/-- Solver quantities whose formula has no value at a point (a distance of 0 in a denominator), by kind (log entry 13). -/
opaque Config.solvFree : Nat → Int

/-- What a format of R163 holds for a value outside its range, by quantity and exact value: the spec gives the formats and no
result there (log entry 76). -/
opaque Config.solvOver : Nat → Int → Int

/-- The design-centre trims applied after three failed loads, by register address (R432, log entry 14). -/
opaque Config.safeTrim : Nat → Word

end Sys2Proof
end

