-- ==== Sys2Proof/Machine/Bits.lean ====
section
/-!
DEFINITION. Bit-field, byte-order, sign and rounding helpers shared by every family.
-/
namespace Sys2Proof.Machine

/-- Bits `[lo + len - 1 : lo]` of a word, as a number. -/
def bitsOf (w : Word) (lo len : Nat) : Nat := w.toNat / 2 ^ lo % 2 ^ len

/-- The word with bits `[lo + len - 1 : lo]` replaced by the low `len` bits of `v`. -/
def putBits (w : Word) (lo len v : Nat) : Word :=
  BitVec.ofNat 32 (w.toNat - bitsOf w lo len * 2 ^ lo + v % 2 ^ len * 2 ^ lo)

/-- 1 for true, 0 for false. -/
def b2n (b : Bool) : Nat := if b then 1 else 0

/-- Bit `i` of a number. -/
def bit (n i : Nat) : Bool := n / 2 ^ i % 2 == 1

/-- The number with bit `i` set. -/
def setBit (n i : Nat) : Nat := if bit n i then n else n + 2 ^ i

/-- The number with bit `i` cleared. -/
def clrBit (n i : Nat) : Nat := if bit n i then n - 2 ^ i else n

/-- The two's complement value of the low `w` bits of `n`. -/
def sxt (w n : Nat) : Int :=
  let m := n % 2 ^ w
  if 2 ^ (w - 1) ≤ m then (m : Int) - 2 ^ w else m

/-- The low `w` bits of an integer. -/
def truncTo (w : Nat) (x : Int) : Nat := (x % (2 ^ w : Int)).toNat

/-- The signed value of the difference of two 40-bit timestamps (R122, R128). -/
def stmpDiff (a b : Stmp) : Int := (a - b).toInt

/-- `x` clamped to `lo` … `hi`. -/
def clampI (lo hi x : Int) : Int := if x < lo then lo else if hi < x then hi else x

/-- `x` counted up by one, stopping at `top`. -/
def satInc (top x : Nat) : Nat := if x < top then x + 1 else x

/-- The quotient `n / d` rounded to the nearest integer, halves away from zero. -/
def divRound (n : Int) (d : Nat) : Int :=
  if d = 0 then 0 else if 0 ≤ n then (2 * n + d) / (2 * d) else -((2 * (-n) + d) / (2 * d))

/-- A field whose value 0 is treated as a default. -/
def orDefault (v dflt : Nat) : Nat := if v = 0 then dflt else v

/-- The number of bits set among the low `n`. -/
def countOnes (x n : Nat) : Nat :=
  match n with
  | 0 => 0
  | k + 1 => countOnes x k + b2n (bit x k)

/-- The lowest bit set among the low `n`, if any. -/
def lowestSet (x n : Nat) : Option Nat := (List.range n).find? fun i => bit x i

/-- Bytes of a big-endian number, most significant first. -/
def bytesBe (n k : Nat) : List Byte :=
  match k with
  | 0 => []
  | j + 1 => BitVec.ofNat 8 (n / 256 ^ j) :: bytesBe n j

/-- The big-endian number of a byte string. -/
def natBe (l : List Byte) : Nat := l.foldl (fun a b => a * 256 + b.toNat) 0

/-- Bytes of a little-endian number, least significant first (R4). -/
def bytesLe (n k : Nat) : List Byte :=
  match k with
  | 0 => []
  | j + 1 => BitVec.ofNat 8 n :: bytesLe (n / 256) j

/-- The little-endian number of a byte string (R4). -/
def natLe (l : List Byte) : Nat :=
  match l with
  | [] => 0
  | b :: t => b.toNat + 256 * natLe t

/-- ASCII bytes of a label. -/
def ascii (t : String) : List Byte := t.toList.map fun c => BitVec.ofNat 8 c.toNat

/-- One step of the CRC-16 of R38: polynomial 0x1021, most significant bit first. -/
def crc16Byte (c : Nat) (b : Byte) : Nat :=
  (List.range 8).foldl
    (fun a i =>
      let top := bit a 15 != bit b.toNat (7 - i)
      let sh := a * 2 % 65536
      if top then sh ^^^ 0x1021 else sh) c

/-- The CRC-16 of R38: initial value 0xFFFF, no reflection, no final XOR. -/
def crc16 (l : List Byte) : Nat := l.foldl crc16Byte 0xFFFF

/-- One byte of the CRC-8 of R38: polynomial 0x07, most significant bit first. -/
def crc8Byte (c : Nat) (b : Byte) : Nat :=
  (List.range 8).foldl (fun a i => (a * 2 % 256) ^^^ (if bit a 7 != bit b.toNat (7 - i) then 0x07 else 0)) c

/-- The CRC-8 of R38: initial value 0. -/
def crc8 (l : List Byte) : Nat := l.foldl crc8Byte 0

/-- The low `n` bits of a number, most significant first. -/
def bitsBe (x n : Nat) : List Bool :=
  match n with
  | 0 => []
  | k + 1 => bit x k :: bitsBe x k

/-- The integer square root, by binary search over `k` bits. -/
def isqrtBits (n k acc : Nat) : Nat :=
  match k with
  | 0 => acc
  | j + 1 =>
    let t := acc + 2 ^ j
    if t * t ≤ n then isqrtBits n j t else isqrtBits n j acc

/-- The floor of the square root of numbers below 2 ^ 128. -/
def isqrt (n : Nat) : Nat := isqrtBits n 64 0

end Sys2Proof.Machine
end

