-- ==== Sys2Proof/Machine/Aes.lean ====
section
/-!
DEFINITION. The ciphers the spec takes from published standards (R9): AES-128 and AES-256 (FIPS 197), CMAC (SP 800-38B),
the counter-mode KDF of R247 and the CTR_DRBG of R272. Blocks and keys are numbers, first byte most significant.
-/
namespace Sys2Proof.Machine

/-- The S-box as one number, entry i at byte i. -/
def aesSboxTable : Nat := 0x16bb54b00f2d99416842e6bf0d89a18cdf2855cee9871e9b948ed9691198f8e19e1dc186b95735610ef6034866b53e708a8bbd4b1f74dde8c6b4a61c2e2578ba08ae7a65eaf4566ca94ed58d6d37c8e779e4959162acd3c25c2406490a3a32e0db0b5ede14b8ee4688902a22dc4f816073195d643d7ea7c41744975fec130ccdd2f3ff1021dab6bcf5389d928f40a351a89f3c507f02f94585334d43fbaaefd0cf584c4a39becb6a5bb1fc20ed00d153842fe329b3d63b52a05a6e1b1a2c830975b227ebe28012079a059618c323c7041531d871f1e5a534ccf73f362693fdb7c072a49cafa2d4adf04759fa7dc982ca76abd7fe2b670130c56f6bf27b777c63

/-- The inverse S-box as one number, entry i at byte i. -/
def aesInvTable : Nat := 0x7d0c2155631469e126d677ba7e042b17619953833cbbebc8b0f52aae4d3be0a0ef9cc9939f7ae52d0d4ab519a97f51605fec8027591012b131c7078833a8dd1ff45acd78fec0db9a2079d2c64b3e56fc1bbe18aa0e62b76f89c5291d711af1476edf751ce837f9e28535ade72274ac9673e6b4f0cecff297eadc674f4111913a6b8a130103bdafc1020f3fca8f1e2cd00645b3b80558e4f70ad3bc8c00abd890849d8da75746155edab9edfd5048706c92b6655dcc5ca4d41698688664f6f87225d18b6d49a25b76b224d92866a12e084ec3fa420b954cee3d23c2a632947b54cbe9dec444438e3487ff2f9b8239e37cfbd7f3819ea340bf38a53630d56a0952

/-- The S-box. -/
def aesSub (b : Nat) : Nat := aesSboxTable / 256 ^ b % 256

/-- The inverse S-box. -/
def aesInvSub (b : Nat) : Nat := aesInvTable / 256 ^ b % 256

/-- Multiplication by x in the AES field. -/
def aesX (b : Nat) : Nat := if b < 128 then 2 * b else (2 * b) ^^^ 0x11b

/-- The S-box on each byte of a 32-bit word. -/
def aesSubWord (w : Nat) : Nat :=
  aesSub (w / 2 ^ 24 % 256) * 2 ^ 24 + aesSub (w / 2 ^ 16 % 256) * 2 ^ 16 + aesSub (w / 2 ^ 8 % 256) * 2 ^ 8
    + aesSub (w % 256)

/-- A 32-bit word rotated left by one byte. -/
def aesRotWord (w : Nat) : Nat := w % 2 ^ 24 * 256 + w / 2 ^ 24

/-- Key expansion: `rev` holds the last words made, newest first; `i` is the next word's index. -/
def aesExpand (nk rcon i left : Nat) (rev : List Nat) : List Nat :=
  match left with
  | 0 => rev.reverse
  | n + 1 =>
    let prev := rev.headD 0
    let old := rev.getD (nk - 1) 0
    if i % nk = 0 then
      aesExpand nk (aesX rcon) (i + 1) n ((old ^^^ aesSubWord (aesRotWord prev) ^^^ (rcon * 2 ^ 24)) :: rev)
    else if nk = 8 ∧ i % nk = 4 then aesExpand nk rcon (i + 1) n ((old ^^^ aesSubWord prev) :: rev)
    else aesExpand nk rcon (i + 1) n ((old ^^^ prev) :: rev)

/-- The words of a number, most significant first. -/
def wordsBe (n k : Nat) : List Nat :=
  match k with
  | 0 => []
  | j + 1 => n / 2 ^ (32 * j) % 2 ^ 32 :: wordsBe n j

/-- Groups a word list into 128-bit round keys. -/
def aesRoundKeys (l : List Nat) : List Nat :=
  match l with
  | a :: b :: c :: d :: t => (a * 2 ^ 96 + b * 2 ^ 64 + c * 2 ^ 32 + d) :: aesRoundKeys t
  | _ => []

/-- The round keys of an AES-128 or AES-256 key. -/
def aesKeys (k256 : Bool) (key : Nat) : List Nat :=
  let nk := if k256 then 8 else 4
  let total := if k256 then 60 else 44
  aesRoundKeys (aesExpand nk 1 nk (total - nk) (wordsBe key nk).reverse)

/-- The state bytes of a block, first byte first. -/
def aesBytes (n k : Nat) : List Nat :=
  match k with
  | 0 => []
  | j + 1 => n / 256 ^ j % 256 :: aesBytes n j

/-- A byte list as one number. -/
def aesJoin (l : List Nat) : Nat := l.foldl (fun a b => a * 256 + b) 0

/-- ShiftRows: row r of the column-major state turns left by r. -/
def aesShift (l : List Nat) : List Nat :=
  [0, 5, 10, 15, 4, 9, 14, 3, 8, 13, 2, 7, 12, 1, 6, 11].map fun i => l.getD i 0

/-- Inverse ShiftRows. -/
def aesInvShift (l : List Nat) : List Nat :=
  [0, 13, 10, 7, 4, 1, 14, 11, 8, 5, 2, 15, 12, 9, 6, 3].map fun i => l.getD i 0

/-- MixColumns, column by column. -/
def aesMix (l : List Nat) : List Nat :=
  match l with
  | a :: b :: c :: d :: t =>
    let all := a ^^^ b ^^^ c ^^^ d
    (a ^^^ all ^^^ aesX (a ^^^ b)) :: (b ^^^ all ^^^ aesX (b ^^^ c)) :: (c ^^^ all ^^^ aesX (c ^^^ d))
      :: (d ^^^ all ^^^ aesX (d ^^^ a)) :: aesMix t
  | _ => []

/-- The half-step that turns MixColumns into its inverse. -/
def aesPreInv (l : List Nat) : List Nat :=
  match l with
  | a :: b :: c :: d :: t =>
    let u := aesX (aesX (a ^^^ c))
    let v := aesX (aesX (b ^^^ d))
    (a ^^^ u) :: (b ^^^ v) :: (c ^^^ u) :: (d ^^^ v) :: aesPreInv t
  | _ => []

/-- The encryption rounds after the first key addition; the last key takes no MixColumns. -/
def aesRounds (ks : List Nat) (st : Nat) : Nat :=
  match ks with
  | [] => st
  | k :: t =>
    let sub := aesShift ((aesBytes st 16).map aesSub)
    match t with
    | [] => aesJoin sub ^^^ k
    | _ => aesRounds t (aesJoin (aesMix sub) ^^^ k)

/-- The decryption rounds, keys newest first. -/
def aesInvRounds (ks : List Nat) (st : Nat) : Nat :=
  match ks with
  | [] => st
  | k :: t =>
    let sub := aesJoin ((aesInvShift (aesBytes st 16)).map aesInvSub) ^^^ k
    match t with
    | [] => sub
    | _ => aesInvRounds t (aesJoin (aesMix (aesPreInv (aesBytes sub 16))))

/-- AES encryption of one block (FIPS 197). -/
def aesEnc (k256 : Bool) (key blk : Nat) : Nat :=
  match aesKeys k256 key with
  | [] => 0
  | k :: t => aesRounds t (blk ^^^ k)

/-- AES decryption of one block (FIPS 197). -/
def aesDec (k256 : Bool) (key blk : Nat) : Nat :=
  match (aesKeys k256 key).reverse with
  | [] => 0
  | k :: t => aesInvRounds t (blk ^^^ k)

/-- Doubling in the CMAC field (R243, SP 800-38B). -/
def cmacDbl (x : Nat) : Nat := if x < 2 ^ 127 then 2 * x else (2 * x - 2 ^ 128) ^^^ 0x87

/-- The CMAC chain over the message bytes, `fuel` blocks at most. -/
def cmacChain (k256 : Bool) (key k1 k2 : Nat) (fuel x : Nat) (msg : List Byte) : Nat :=
  match fuel with
  | 0 => x
  | n + 1 =>
    if msg.length ≤ 16 then
      let last := if msg.length = 16 then natBe msg ^^^ k1
        else natBe (msg ++ [0x80#8] ++ List.replicate (15 - msg.length) 0#8) ^^^ k2
      aesEnc k256 key (x ^^^ last)
    else cmacChain k256 key k1 k2 n (aesEnc k256 key (x ^^^ natBe (msg.take 16))) (msg.drop 16)

/-- CMAC of a byte string (SP 800-38B, R243, R245). -/
def cmac (k256 : Bool) (key : Nat) (msg : List Byte) : Nat :=
  let k1 := cmacDbl (aesEnc k256 key 0)
  cmacChain k256 key k1 (cmacDbl k1) (msg.length / 16 + 1) 0 msg

/-- How many CMAC blocks a message takes (R243). -/
def cmacBlocks (len : Nat) : Nat := if len = 0 then 1 else (len + 15) / 16

/-- The PRF input of block `i` of a derivation (R247). -/
def kdfInput (i : Nat) (label ctx : List Byte) (l256 : Bool) : List Byte :=
  bytesBe i 4 ++ label ++ [0#8] ++ ctx ++ bytesBe (if l256 then 256 else 128) 4

/-- The counter-mode KDF of R247: a key of 128 or 256 bits from a parent of 128 or 256 bits. -/
def kdf (p256 : Bool) (parent : Nat) (label ctx : List Byte) (l256 : Bool) : Nat :=
  let a := cmac p256 parent (kdfInput 1 label ctx l256)
  if l256 then a * 2 ^ 128 + cmac p256 parent (kdfInput 2 label ctx l256) else a

/-- The state of the expander: key and counter block (R272). -/
structure DrbgState where
  key : Nat := 0
  v : Nat := 0
deriving DecidableEq, Repr

/-- V + 1 modulo 2 ^ 128. -/
def drbgNext (v : Nat) : Nat := (v + 1) % 2 ^ 128

/-- CTR_DRBG Update with AES-256 (SP 800-90A). -/
def drbgUpdate (d : DrbgState) (provided : Nat) : DrbgState :=
  let v1 := drbgNext d.v
  let v2 := drbgNext v1
  let v3 := drbgNext v2
  let t := (aesEnc true d.key v1 * 2 ^ 256 + aesEnc true d.key v2 * 2 ^ 128 + aesEnc true d.key v3) ^^^ provided
  { key := t / 2 ^ 128, v := t % 2 ^ 128 }

/-- CTR_DRBG Instantiate without a derivation function: seed and personalization string of 384 bits each. -/
def drbgInstantiate (seed pers : Nat) : DrbgState := drbgUpdate {} (seed ^^^ pers)

/-- CTR_DRBG Reseed without additional input. -/
def drbgReseed (d : DrbgState) (seed : Nat) : DrbgState := drbgUpdate d seed

/-- One request of R272: a Generate of 128 bits and its Update step. -/
def drbgGenerate (d : DrbgState) : Nat × DrbgState :=
  let v := drbgNext d.v
  (aesEnc true d.key v, drbgUpdate { d with v := v } 0)

end Sys2Proof.Machine
end

