-- ==== Sys2Proof/Machine/RegTypes.lean ====
section
/-!
DEFINITION. What a register table of the spec says: fields of words, their access types, reset values and scopes
(R5, R6, R7), and the arrays of words (R29).
-/
namespace Sys2Proof.Machine

/-- One field of one register word: the word's host byte address, the field's low bit and its width. -/
structure Fld where
  addr : Nat
  lo : Nat
  len : Nat
deriving DecidableEq, Repr

/-- A field lies within its word. -/
def Fld.fits (f : Fld) : Bool := decide (f.lo + f.len ≤ 32)

/-- Two fields share no bit. -/
def Fld.apart (f g : Fld) : Bool := decide (f.addr ≠ g.addr) || decide (g.lo + g.len ≤ f.lo) || decide (f.lo + f.len ≤ g.lo)

/-- Field access types (R5). -/
inductive FType where
  | rw | ro | w1c | w1s | wo | rwl
deriving DecidableEq, Repr

/-- Reset scopes (R7). -/
inductive Scope where
  | por | sys | blk
deriving DecidableEq, Repr

/-- Reset values (R7). -/
inductive RstVal where
  | num (v : Nat)
  | fuse
  | plan
  | keep
deriving DecidableEq, Repr

/-- One row of a register table. -/
structure FRow where
  lo : Nat
  len : Nat
  typ : FType
  priv : Bool := false
  scope : Scope
  rst : RstVal := .num 0
deriving DecidableEq, Repr

/-- One register, or one array of registers with its strides and counts (outermost first), and its field rows. Bits that
no row covers are reserved. -/
structure RegRow where
  base : Nat
  dims : List (Nat × Nat)
  fields : List FRow
deriving DecidableEq, Repr

/-- Whether offset `off` from a register's base is one of its words. -/
def dimsHit (dims : List (Nat × Nat)) (off : Nat) : Bool :=
  match dims with
  | [] => decide (off = 0)
  | (stride, count) :: ds => decide (off / stride < count) && dimsHit ds (off % stride)

/-- Whether the host address is one of the register's words. -/
def RegRow.hit (r : RegRow) (a : Nat) : Bool := decide (r.base ≤ a) && dimsHit r.dims (a - r.base)

end Sys2Proof.Machine
end

