-- ==== Sys2Proof/Machine/RegsA.lean ====
section
/-!
DEFINITION. The register words of SYS, RST, PWR, CLK, POLL, LF, UHF: one constant per field and one row per word, as the register tables of spec/ give
them (addresses by R29).
-/
namespace Sys2Proof.Machine

def F.SYS_ID.part : Fld := ⟨0x000000, 16, 16⟩
def F.SYS_ID.design : Fld := ⟨0x000000, 8, 8⟩
def F.SYS_ID.step : Fld := ⟨0x000000, 0, 8⟩

def F.SYS_GATE_STAT.verd_seq : Fld := ⟨0x000004, 0, 16⟩
def F.SYS_GATE_STAT.plan_apply : Fld := ⟨0x000004, 16, 1⟩
def F.SYS_GATE_STAT.budget_hold : Fld := ⟨0x000004, 17, 1⟩
def F.SYS_GATE_STAT.trim_act : Fld := ⟨0x000004, 18, 1⟩
def F.SYS_GATE_STAT.quiet : Fld := ⟨0x000004, 19, 1⟩

def F.SYS_SCRATCH.value : Fld := ⟨0x000008, 0, 32⟩

/-- Register words of SYS. -/
def rowsSys : List RegRow := [
  ⟨0x000000, [],
    [⟨16, 16, .ro, false, .sys, .num 0x7484⟩,
     ⟨8, 8, .ro, false, .sys, .num 0x0A⟩,
     ⟨0, 8, .ro, false, .sys, .num 0x01⟩]⟩,
  ⟨0x000004, [],
    [⟨0, 16, .ro, false, .sys, .num 0⟩,
     ⟨16, 1, .ro, false, .sys, .num 0⟩,
     ⟨17, 1, .ro, false, .sys, .num 0⟩,
     ⟨18, 1, .ro, false, .sys, .num 0⟩,
     ⟨19, 1, .ro, false, .sys, .num 0⟩]⟩,
  ⟨0x000008, [],
    [⟨0, 32, .rw, false, .sys, .num 0⟩]⟩]

def F.RST_CAUSE.por : Fld := ⟨0x010000, 0, 1⟩
def F.RST_CAUSE.bor33 : Fld := ⟨0x010000, 1, 1⟩
def F.RST_CAUSE.bor18 : Fld := ⟨0x010000, 2, 1⟩
def F.RST_CAUSE.pin : Fld := ⟨0x010000, 3, 1⟩
def F.RST_CAUSE.sys_wdog : Fld := ⟨0x010000, 4, 1⟩
def F.RST_CAUSE.eng_wdog : Fld := ⟨0x010000, 5, 1⟩
def F.RST_CAUSE.host : Fld := ⟨0x010000, 6, 1⟩
def F.RST_CAUSE.crit : Fld := ⟨0x010000, 7, 1⟩
def F.RST_CAUSE.tamper : Fld := ⟨0x010000, 8, 1⟩
def F.RST_CAUSE.clk_loss : Fld := ⟨0x010000, 9, 1⟩
def F.RST_CAUSE.plan_fail : Fld := ⟨0x010000, 10, 1⟩
def F.RST_CAUSE.trim_fail : Fld := ⟨0x010000, 11, 1⟩
def F.RST_CAUSE.sw : Fld := ⟨0x010000, 12, 1⟩

def F.RST_STAT.step : Fld := ⟨0x010004, 0, 4⟩
def F.RST_STAT.held : Fld := ⟨0x010004, 4, 10⟩
def F.RST_STAT.safe_trim : Fld := ⟨0x010004, 14, 1⟩
def F.RST_STAT.trim_tries : Fld := ⟨0x010004, 15, 2⟩
def F.RST_STAT.tamper_halt : Fld := ⟨0x010004, 17, 1⟩
def F.RST_STAT.aon_wait : Fld := ⟨0x010004, 18, 1⟩

def F.RST_BLOCK.lf : Fld := ⟨0x010008, 0, 1⟩
def F.RST_BLOCK.uhf : Fld := ⟨0x010008, 1, 1⟩
def F.RST_BLOCK.uwb : Fld := ⟨0x010008, 2, 1⟩
def F.RST_BLOCK.solv : Fld := ⟨0x010008, 3, 1⟩
def F.RST_BLOCK.verd : Fld := ⟨0x010008, 4, 1⟩
def F.RST_BLOCK.sess : Fld := ⟨0x010008, 5, 1⟩
def F.RST_BLOCK.tally : Fld := ⟨0x010008, 6, 1⟩
def F.RST_BLOCK.ciph : Fld := ⟨0x010008, 7, 1⟩
def F.RST_BLOCK.keys : Fld := ⟨0x010008, 8, 1⟩
def F.RST_BLOCK.rng : Fld := ⟨0x010008, 9, 1⟩
def F.RST_BLOCK.loft : Fld := ⟨0x010008, 10, 1⟩
def F.RST_BLOCK.host : Fld := ⟨0x010008, 11, 1⟩
def F.RST_BLOCK.poll : Fld := ⟨0x010008, 12, 1⟩
def F.RST_BLOCK.hlth : Fld := ⟨0x010008, 13, 1⟩
def F.RST_BLOCK.pins : Fld := ⟨0x010008, 14, 1⟩
def F.RST_BLOCK.yard : Fld := ⟨0x010008, 15, 1⟩
def F.RST_BLOCK.pwr : Fld := ⟨0x010008, 16, 1⟩
def F.RST_BLOCK.sys : Fld := ⟨0x010008, 17, 1⟩
def F.RST_BLOCK.clk : Fld := ⟨0x010008, 18, 1⟩
def F.RST_BLOCK.groom : Fld := ⟨0x010008, 19, 8⟩

def F.RST_CTRL.key : Fld := ⟨0x01000c, 0, 32⟩

def F.RST_WDOG.period : Fld := ⟨0x010010, 0, 16⟩
def F.RST_WDOG.left : Fld := ⟨0x010010, 16, 16⟩

def F.RST_WDKICK.kick : Fld := ⟨0x010014, 0, 32⟩

def F.RST_STRAP.code : Fld := ⟨0x010018, 0, 4⟩
def F.RST_STRAP.link : Fld := ⟨0x010018, 4, 1⟩
def F.RST_STRAP.src : Fld := ⟨0x010018, 5, 2⟩
def F.RST_STRAP.dbg : Fld := ⟨0x010018, 7, 1⟩
def F.RST_STRAP.gap : Fld := ⟨0x010018, 8, 2⟩

def F.RST_CRIT.region : Fld := ⟨0x01001c, 0, 3⟩
def F.RST_CRIT.ecc : Fld := ⟨0x01001c, 3, 1⟩

/-- Register words of RST. -/
def rowsRst : List RegRow := [
  ⟨0x010000, [],
    [⟨0, 1, .w1c, false, .por, .keep⟩,
     ⟨1, 1, .w1c, false, .por, .keep⟩,
     ⟨2, 1, .w1c, false, .por, .keep⟩,
     ⟨3, 1, .w1c, false, .por, .keep⟩,
     ⟨4, 1, .w1c, false, .por, .keep⟩,
     ⟨5, 1, .w1c, false, .por, .keep⟩,
     ⟨6, 1, .w1c, false, .por, .keep⟩,
     ⟨7, 1, .w1c, false, .por, .keep⟩,
     ⟨8, 1, .w1c, false, .por, .keep⟩,
     ⟨9, 1, .w1c, false, .por, .keep⟩,
     ⟨10, 1, .w1c, false, .por, .keep⟩,
     ⟨11, 1, .w1c, false, .por, .keep⟩,
     ⟨12, 1, .w1c, false, .por, .keep⟩]⟩,
  ⟨0x010004, [],
    [⟨0, 4, .ro, false, .sys, .num 0⟩,
     ⟨4, 10, .ro, false, .sys, .num 0⟩,
     ⟨14, 1, .ro, false, .por, .keep⟩,
     ⟨15, 2, .ro, false, .por, .keep⟩,
     ⟨17, 1, .ro, false, .sys, .num 0⟩,
     ⟨18, 1, .ro, false, .sys, .num 0⟩]⟩,
  ⟨0x010008, [],
    [⟨0, 1, .w1s, true, .sys, .num 0⟩,
     ⟨1, 1, .w1s, true, .sys, .num 0⟩,
     ⟨2, 1, .w1s, true, .sys, .num 0⟩,
     ⟨3, 1, .w1s, true, .sys, .num 0⟩,
     ⟨4, 1, .w1s, true, .sys, .num 0⟩,
     ⟨5, 1, .w1s, true, .sys, .num 0⟩,
     ⟨6, 1, .w1s, true, .sys, .num 0⟩,
     ⟨7, 1, .w1s, true, .sys, .num 0⟩,
     ⟨8, 1, .w1s, true, .sys, .num 0⟩,
     ⟨9, 1, .w1s, true, .sys, .num 0⟩,
     ⟨10, 1, .w1s, true, .sys, .num 0⟩,
     ⟨11, 1, .w1s, true, .sys, .num 0⟩,
     ⟨12, 1, .w1s, true, .sys, .num 0⟩,
     ⟨13, 1, .w1s, true, .sys, .num 0⟩,
     ⟨14, 1, .w1s, true, .sys, .num 0⟩,
     ⟨15, 1, .w1s, true, .sys, .num 0⟩,
     ⟨16, 1, .w1s, true, .sys, .num 0⟩,
     ⟨17, 1, .w1s, true, .sys, .num 0⟩,
     ⟨18, 1, .w1s, true, .sys, .num 0⟩,
     ⟨19, 8, .w1s, true, .sys, .num 0⟩]⟩,
  ⟨0x01000c, [],
    [⟨0, 32, .wo, true, .sys, .num 0⟩]⟩,
  ⟨0x010010, [],
    [⟨0, 16, .rwl, false, .sys, .plan⟩,
     ⟨16, 16, .ro, false, .sys, .num 0⟩]⟩,
  ⟨0x010014, [],
    [⟨0, 32, .wo, false, .sys, .num 0⟩]⟩,
  ⟨0x010018, [],
    [⟨0, 4, .ro, false, .por, .keep⟩,
     ⟨4, 1, .ro, false, .por, .keep⟩,
     ⟨5, 2, .ro, false, .por, .keep⟩,
     ⟨7, 1, .ro, false, .por, .keep⟩,
     ⟨8, 2, .ro, false, .por, .keep⟩]⟩,
  ⟨0x01001c, [],
    [⟨0, 3, .ro, false, .por, .keep⟩,
     ⟨3, 1, .ro, false, .por, .keep⟩]⟩]

def F.PWR_DOM_CFG.lfa : Fld := ⟨0x020000, 8, 2⟩
def F.PWR_DOM_CFG.lfb : Fld := ⟨0x020000, 10, 2⟩
def F.PWR_DOM_CFG.uhf : Fld := ⟨0x020000, 12, 2⟩
def F.PWR_DOM_CFG.uwb : Fld := ⟨0x020000, 14, 2⟩

def F.PWR_DOM_HOLD.hold : Fld := ⟨0x020004, 0, 16⟩

def F.PWR_DOM_STAT.pg : Fld := ⟨0x020008, 0, 10⟩
def F.PWR_DOM_STAT.run : Fld := ⟨0x020008, 16, 10⟩

def F.PWR_ISENSE.vdrv : Fld := ⟨0x02000c, 0, 10⟩
def F.PWR_ISENSE.vdd33 : Fld := ⟨0x02000c, 16, 10⟩

def F.PWR_BUD_VDRV.budget : Fld := ⟨0x020100, 0, 10⟩
def F.PWR_BUD_VDRV.reserve : Fld := ⟨0x020100, 16, 10⟩

def F.PWR_BUD_VDD33.budget : Fld := ⟨0x020104, 0, 10⟩
def F.PWR_BUD_VDD33.reserve : Fld := ⟨0x020104, 16, 10⟩

def F.PWR_STAND_POLL.vdrv : Fld := ⟨0x020108, 0, 10⟩
def F.PWR_STAND_POLL.vdd33 : Fld := ⟨0x020108, 16, 10⟩

def F.PWR_STAND_RF.uhf : Fld := ⟨0x02010c, 0, 10⟩
def F.PWR_STAND_RF.uwb : Fld := ⟨0x02010c, 16, 10⟩

def F.PWR_PART.part_min : Fld := ⟨0x020110, 0, 4⟩
def F.PWR_PART.derate_en : Fld := ⟨0x020110, 4, 1⟩

def F.PWR_MGR_STAT.vdrv_alloc : Fld := ⟨0x020180, 0, 10⟩
def F.PWR_MGR_STAT.derate : Fld := ⟨0x020180, 10, 5⟩
def F.PWR_MGR_STAT.vdd33_alloc : Fld := ⟨0x020180, 16, 10⟩
def F.PWR_MGR_STAT.queued : Fld := ⟨0x020180, 26, 3⟩
def F.PWR_MGR_STAT.alarm : Fld := ⟨0x020180, 29, 1⟩

def F.PWR_MGR_CNT.misses : Fld := ⟨0x020184, 0, 16⟩
def F.PWR_MGR_CNT.partial_ : Fld := ⟨0x020184, 16, 16⟩

def F.PWR_REQ.req (i : Nat) : Fld := ⟨0x020200 + 0x4 * i, 0, 10⟩
def F.PWR_REQ.grant (i : Nat) : Fld := ⟨0x020200 + 0x4 * i, 10, 10⟩
def F.PWR_REQ.state (i : Nat) : Fld := ⟨0x020200 + 0x4 * i, 20, 2⟩
def F.PWR_REQ.class_ (i : Nat) : Fld := ⟨0x020200 + 0x4 * i, 22, 2⟩
def F.PWR_REQ.rail (i : Nat) : Fld := ⟨0x020200 + 0x4 * i, 24, 1⟩

/-- Register words of PWR. -/
def rowsPwr : List RegRow := [
  ⟨0x020000, [],
    [⟨8, 2, .rwl, false, .sys, .plan⟩,
     ⟨10, 2, .rwl, false, .sys, .plan⟩,
     ⟨12, 2, .rwl, false, .sys, .plan⟩,
     ⟨14, 2, .rwl, false, .sys, .plan⟩]⟩,
  ⟨0x020004, [],
    [⟨0, 16, .rwl, false, .sys, .plan⟩]⟩,
  ⟨0x020008, [],
    [⟨0, 10, .ro, false, .sys, .num 0⟩,
     ⟨16, 10, .ro, false, .sys, .num 0⟩]⟩,
  ⟨0x02000c, [],
    [⟨0, 10, .ro, false, .blk, .num 0⟩,
     ⟨16, 10, .ro, false, .blk, .num 0⟩]⟩,
  ⟨0x020100, [],
    [⟨0, 10, .rwl, false, .sys, .plan⟩,
     ⟨16, 10, .rwl, false, .sys, .plan⟩]⟩,
  ⟨0x020104, [],
    [⟨0, 10, .rwl, false, .sys, .plan⟩,
     ⟨16, 10, .rwl, false, .sys, .plan⟩]⟩,
  ⟨0x020108, [],
    [⟨0, 10, .rwl, false, .sys, .plan⟩,
     ⟨16, 10, .rwl, false, .sys, .plan⟩]⟩,
  ⟨0x02010c, [],
    [⟨0, 10, .rwl, false, .sys, .plan⟩,
     ⟨16, 10, .rwl, false, .sys, .plan⟩]⟩,
  ⟨0x020110, [],
    [⟨0, 4, .rwl, false, .sys, .plan⟩,
     ⟨4, 1, .rwl, false, .sys, .plan⟩]⟩,
  ⟨0x020180, [],
    [⟨0, 10, .ro, false, .blk, .num 0⟩,
     ⟨10, 5, .ro, false, .blk, .num 16⟩,
     ⟨16, 10, .ro, false, .blk, .num 0⟩,
     ⟨26, 3, .ro, false, .blk, .num 0⟩,
     ⟨29, 1, .w1c, false, .blk, .num 0⟩]⟩,
  ⟨0x020184, [],
    [⟨0, 16, .ro, false, .blk, .num 0⟩,
     ⟨16, 16, .ro, false, .blk, .num 0⟩]⟩,
  ⟨0x020200, [(0x4, 5)],
    [⟨0, 10, .ro, false, .blk, .num 0⟩,
     ⟨10, 10, .ro, false, .blk, .num 0⟩,
     ⟨20, 2, .ro, false, .blk, .num 0⟩,
     ⟨22, 2, .ro, false, .blk, .num 0⟩,
     ⟨24, 1, .ro, false, .blk, .num 0⟩]⟩]

def F.CLK_STAT.good : Fld := ⟨0x030000, 0, 12⟩
def F.CLK_STAT.lock : Fld := ⟨0x030000, 12, 4⟩

def F.CLK_LOSS.domain : Fld := ⟨0x030004, 0, 4⟩
def F.CLK_LOSS.valid : Fld := ⟨0x030004, 4, 1⟩

def F.CLK_XTAL.ref_cap : Fld := ⟨0x030008, 0, 6⟩
def F.CLK_XTAL.aon_cap : Fld := ⟨0x030008, 6, 6⟩
def F.CLK_XTAL.ref_amp : Fld := ⟨0x030008, 12, 2⟩

def F.CLK_MARG0.sby : Fld := ⟨0x03000c, 0, 6⟩
def F.CLK_MARG0.ref : Fld := ⟨0x03000c, 6, 6⟩
def F.CLK_MARG0.core : Fld := ⟨0x03000c, 12, 6⟩
def F.CLK_MARG0.ciph : Fld := ⟨0x03000c, 18, 6⟩
def F.CLK_MARG0.lfs : Fld := ⟨0x03000c, 24, 6⟩

def F.CLK_MARG1.uhf : Fld := ⟨0x030010, 0, 6⟩
def F.CLK_MARG1.uwb : Fld := ⟨0x030010, 6, 6⟩
def F.CLK_MARG1.stmp : Fld := ⟨0x030010, 12, 6⟩
def F.CLK_MARG1.stor : Fld := ⟨0x030010, 18, 6⟩
def F.CLK_MARG1.aon : Fld := ⟨0x030010, 24, 6⟩

def F.CLK_PLL.nint (i : Nat) : Fld := ⟨0x030020 + 0x4 * i, 0, 8⟩
def F.CLK_PLL.nfrac (i : Nat) : Fld := ⟨0x030020 + 0x4 * i, 8, 4⟩
def F.CLK_PLL.nmod (i : Nat) : Fld := ⟨0x030020 + 0x4 * i, 12, 4⟩
def F.CLK_PLL.div0 (i : Nat) : Fld := ⟨0x030020 + 0x4 * i, 16, 8⟩
def F.CLK_PLL.div1 (i : Nat) : Fld := ⟨0x030020 + 0x4 * i, 24, 8⟩

/-- Register words of CLK. -/
def rowsClk : List RegRow := [
  ⟨0x030000, [],
    [⟨0, 12, .ro, false, .sys, .num 0⟩,
     ⟨12, 4, .ro, false, .sys, .num 0⟩]⟩,
  ⟨0x030004, [],
    [⟨0, 4, .ro, false, .por, .keep⟩,
     ⟨4, 1, .ro, false, .por, .keep⟩]⟩,
  ⟨0x030008, [],
    [⟨0, 6, .rwl, false, .sys, .plan⟩,
     ⟨6, 6, .rwl, false, .sys, .plan⟩,
     ⟨12, 2, .rwl, false, .sys, .plan⟩]⟩,
  ⟨0x03000c, [],
    [⟨0, 6, .rwl, false, .sys, .plan⟩,
     ⟨6, 6, .rwl, false, .sys, .plan⟩,
     ⟨12, 6, .rwl, false, .sys, .plan⟩,
     ⟨18, 6, .rwl, false, .sys, .plan⟩,
     ⟨24, 6, .rwl, false, .sys, .plan⟩]⟩,
  ⟨0x030010, [],
    [⟨0, 6, .rwl, false, .sys, .plan⟩,
     ⟨6, 6, .rwl, false, .sys, .plan⟩,
     ⟨12, 6, .rwl, false, .sys, .plan⟩,
     ⟨18, 6, .rwl, false, .sys, .plan⟩,
     ⟨24, 6, .rwl, false, .sys, .plan⟩]⟩,
  ⟨0x030020, [(0x4, 4)],
    [⟨0, 8, .ro, false, .sys, .fuse⟩,
     ⟨8, 4, .ro, false, .sys, .fuse⟩,
     ⟨12, 4, .ro, false, .sys, .fuse⟩,
     ⟨16, 8, .ro, false, .sys, .fuse⟩,
     ⟨24, 8, .ro, false, .sys, .fuse⟩]⟩]

def F.POLL_CTRL.en : Fld := ⟨0x040000, 0, 1⟩
def F.POLL_CTRL.sleep : Fld := ⟨0x040000, 1, 1⟩
def F.POLL_CTRL.host_wake : Fld := ⟨0x040000, 2, 1⟩
def F.POLL_CTRL.cnt_clr : Fld := ⟨0x040000, 3, 1⟩

def F.POLL_STAT.rung : Fld := ⟨0x040004, 0, 3⟩
def F.POLL_STAT.state : Fld := ⟨0x040004, 3, 3⟩
def F.POLL_STAT.sleep_refused : Fld := ⟨0x040004, 6, 1⟩
def F.POLL_STAT.group : Fld := ⟨0x040004, 7, 4⟩

def F.POLL_PER.period (i : Nat) : Fld := ⟨0x040010 + 0x4 * i, 0, 21⟩

def F.POLL_DWELL.dwell (i : Nat) : Fld := ⟨0x040030 + 0x4 * i, 0, 16⟩

def F.POLL_CFG.groups : Fld := ⟨0x040050, 0, 4⟩

def F.POLL_HS_CFG.hs_en : Fld := ⟨0x040054, 0, 8⟩
def F.POLL_HS_CFG.scan : Fld := ⟨0x040054, 8, 8⟩
def F.POLL_HS_CFG.thr : Fld := ⟨0x040054, 16, 8⟩
def F.POLL_HS_CFG.acc : Fld := ⟨0x040054, 24, 3⟩

def F.POLL_DS_CFG.ds_en : Fld := ⟨0x040058, 0, 8⟩
def F.POLL_DS_CFG.open_lvl : Fld := ⟨0x040058, 8, 8⟩
def F.POLL_DS_CFG.deb : Fld := ⟨0x040058, 16, 8⟩

def F.POLL_WAKE.hs : Fld := ⟨0x04005c, 0, 8⟩
def F.POLL_WAKE.ds : Fld := ⟨0x04005c, 8, 8⟩
def F.POLL_WAKE.host : Fld := ⟨0x04005c, 16, 1⟩
def F.POLL_WAKE.presence : Fld := ⟨0x04005c, 17, 1⟩
def F.POLL_WAKE.tamper : Fld := ⟨0x04005c, 18, 1⟩

def F.POLL_LVL.hs_touch : Fld := ⟨0x040060, 0, 8⟩
def F.POLL_LVL.ds_lvl : Fld := ⟨0x040060, 8, 8⟩
def F.POLL_LVL.dwell_left : Fld := ⟨0x040060, 16, 16⟩

def F.POLL_CNT.bursts : Fld := ⟨0x040064, 0, 16⟩
def F.POLL_CNT.skipped : Fld := ⟨0x040064, 16, 16⟩

def F.POLL_HS.base (i : Nat) : Fld := ⟨0x040080 + 0x4 * i, 0, 16⟩
def F.POLL_HS.count (i : Nat) : Fld := ⟨0x040080 + 0x4 * i, 16, 16⟩

def F.POLL_SHADOW.copy (i : Nat) : Fld := ⟨0x040100 + 0x4 * i, 0, 32⟩

/-- Register words of POLL. -/
def rowsPoll : List RegRow := [
  ⟨0x040000, [],
    [⟨0, 1, .rw, false, .sys, .plan⟩,
     ⟨1, 1, .wo, true, .blk, .num 0⟩,
     ⟨2, 1, .wo, false, .blk, .num 0⟩,
     ⟨3, 1, .wo, false, .blk, .num 0⟩]⟩,
  ⟨0x040004, [],
    [⟨0, 3, .ro, false, .sys, .num 0⟩,
     ⟨3, 3, .ro, false, .sys, .num 0⟩,
     ⟨6, 1, .w1c, false, .sys, .num 0⟩,
     ⟨7, 4, .ro, false, .sys, .num 0⟩]⟩,
  ⟨0x040010, [(0x4, 8)],
    [⟨0, 21, .rwl, false, .sys, .plan⟩]⟩,
  ⟨0x040030, [(0x4, 7)],
    [⟨0, 16, .rwl, false, .sys, .plan⟩]⟩,
  ⟨0x040050, [],
    [⟨0, 4, .rwl, false, .sys, .plan⟩]⟩,
  ⟨0x040054, [],
    [⟨0, 8, .rwl, false, .sys, .plan⟩,
     ⟨8, 8, .rwl, false, .sys, .plan⟩,
     ⟨16, 8, .rwl, false, .sys, .plan⟩,
     ⟨24, 3, .rwl, false, .sys, .plan⟩]⟩,
  ⟨0x040058, [],
    [⟨0, 8, .rwl, false, .sys, .plan⟩,
     ⟨8, 8, .rwl, false, .sys, .plan⟩,
     ⟨16, 8, .rwl, false, .sys, .plan⟩]⟩,
  ⟨0x04005c, [],
    [⟨0, 8, .w1c, false, .sys, .num 0⟩,
     ⟨8, 8, .w1c, false, .sys, .num 0⟩,
     ⟨16, 1, .w1c, false, .sys, .num 0⟩,
     ⟨17, 1, .w1c, false, .sys, .num 0⟩,
     ⟨18, 1, .w1c, false, .sys, .num 0⟩]⟩,
  ⟨0x040060, [],
    [⟨0, 8, .ro, false, .sys, .num 0⟩,
     ⟨8, 8, .ro, false, .sys, .num 0⟩,
     ⟨16, 16, .ro, false, .sys, .num 0⟩]⟩,
  ⟨0x040064, [],
    [⟨0, 16, .ro, false, .sys, .num 0⟩,
     ⟨16, 16, .ro, false, .sys, .num 0⟩]⟩,
  ⟨0x040080, [(0x4, 8)],
    [⟨0, 16, .ro, false, .sys, .num 0⟩,
     ⟨16, 16, .ro, false, .sys, .num 0⟩]⟩,
  ⟨0x040100, [(0x4, 40)],
    [⟨0, 32, .ro, false, .sys, .plan⟩]⟩]

def F.LF_CTRL.syn_en : Fld := ⟨0x050000, 0, 1⟩
def F.LF_CTRL.lfa_en : Fld := ⟨0x050000, 1, 1⟩
def F.LF_CTRL.lfb_en : Fld := ⟨0x050000, 2, 1⟩
def F.LF_CTRL.abort : Fld := ⟨0x050000, 3, 1⟩
def F.LF_CTRL.cal_start : Fld := ⟨0x050000, 4, 1⟩
def F.LF_CTRL.hp_start : Fld := ⟨0x050000, 5, 1⟩

def F.LF_STAT.owner : Fld := ⟨0x050004, 0, 4⟩
def F.LF_STAT.busy : Fld := ⟨0x050004, 4, 1⟩
def F.LF_STAT.txn_refused : Fld := ⟨0x050004, 5, 1⟩
def F.LF_STAT.hp_refused : Fld := ⟨0x050004, 6, 1⟩
def F.LF_STAT.cal_refused : Fld := ⟨0x050004, 7, 1⟩
def F.LF_STAT.fault : Fld := ⟨0x050004, 8, 1⟩
def F.LF_STAT.trim : Fld := ⟨0x050004, 9, 1⟩
def F.LF_STAT.vdrv_ok : Fld := ⟨0x050004, 10, 1⟩

def F.LF_FTW.ftw : Fld := ⟨0x050008, 0, 32⟩

def F.LF_KEY_CFG.quench : Fld := ⟨0x05000c, 0, 3⟩
def F.LF_KEY_CFG.vcomp : Fld := ⟨0x05000c, 3, 1⟩
def F.LF_KEY_CFG.vref : Fld := ⟨0x05000c, 4, 8⟩
def F.LF_KEY_CFG.cal_code : Fld := ⟨0x05000c, 12, 8⟩

def F.LF_TXN.kind : Fld := ⟨0x050010, 0, 2⟩
def F.LF_TXN.sweep_sel : Fld := ⟨0x050010, 2, 2⟩
def F.LF_TXN.start : Fld := ⟨0x050010, 4, 1⟩
def F.LF_TXN.lanes : Fld := ⟨0x050010, 8, 1⟩
def F.LF_TXN.rate : Fld := ⟨0x050010, 9, 1⟩
def F.LF_TXN.wake_code : Fld := ⟨0x050010, 12, 4⟩
def F.LF_TXN.seed : Fld := ⟨0x050010, 16, 2⟩

def F.LF_TXN_STAT.code : Fld := ⟨0x050014, 0, 4⟩
def F.LF_TXN_STAT.abort_late : Fld := ⟨0x050014, 4, 1⟩
def F.LF_TXN_STAT.j : Fld := ⟨0x050014, 5, 7⟩
def F.LF_TXN_STAT.k : Fld := ⟨0x050014, 12, 7⟩
def F.LF_TXN_STAT.chal_sent : Fld := ⟨0x050014, 19, 1⟩

def F.LF_CHAL.c0 (i : Nat) : Fld := ⟨0x050018 + 0x4 * i, 0, 8⟩
def F.LF_CHAL.c1 (i : Nat) : Fld := ⟨0x050018 + 0x4 * i, 8, 8⟩
def F.LF_CHAL.c2 (i : Nat) : Fld := ⟨0x050018 + 0x4 * i, 16, 8⟩
def F.LF_CHAL.c3 (i : Nat) : Fld := ⟨0x050018 + 0x4 * i, 24, 8⟩

def F.LF_FRAME_VEC.wake_vec : Fld := ⟨0x050028, 0, 6⟩
def F.LF_FRAME_VEC.chal_vec : Fld := ⟨0x050028, 8, 6⟩
def F.LF_FRAME_VEC.poll_vec : Fld := ⟨0x050028, 16, 6⟩

def F.LF_SWEEP_DEF.base (i : Nat) : Fld := ⟨0x050030 + 0x4 * i, 0, 6⟩
def F.LF_SWEEP_DEF.npat (i : Nat) : Fld := ⟨0x050030 + 0x4 * i, 8, 6⟩

def F.LF_GRANT.req : Fld := ⟨0x050040, 0, 10⟩
def F.LF_GRANT.grant : Fld := ⟨0x050040, 16, 10⟩
def F.LF_GRANT.waiting : Fld := ⟨0x050040, 26, 1⟩
def F.LF_GRANT.miss : Fld := ⟨0x050040, 27, 1⟩

def F.LF_TRIM.t : Fld := ⟨0x050044, 0, 5⟩
def F.LF_TRIM.t_min : Fld := ⟨0x050044, 8, 5⟩
def F.LF_TRIM.overdraw : Fld := ⟨0x050044, 13, 1⟩

def F.LF_FAULT.short : Fld := ⟨0x050048, 0, 12⟩
def F.LF_FAULT.open_ : Fld := ⟨0x050048, 16, 12⟩
def F.LF_FAULT.vdrv_uv : Fld := ⟨0x050048, 28, 1⟩
def F.LF_FAULT.vdrv_ov : Fld := ⟨0x050048, 29, 1⟩

def F.LF_TEMP.lfa_temp : Fld := ⟨0x05004c, 0, 8⟩
def F.LF_TEMP.lfb_temp : Fld := ⟨0x05004c, 8, 8⟩
def F.LF_TEMP.lfa_warm : Fld := ⟨0x05004c, 16, 1⟩
def F.LF_TEMP.lfb_warm : Fld := ⟨0x05004c, 17, 1⟩
def F.LF_TEMP.lfa_hot : Fld := ⟨0x05004c, 18, 1⟩
def F.LF_TEMP.lfb_hot : Fld := ⟨0x05004c, 19, 1⟩

def F.LF_VDRV.vdrv : Fld := ⟨0x050050, 0, 8⟩

def F.LF_HP_CFG.hp_aer : Fld := ⟨0x050054, 0, 4⟩
def F.LF_HP_CFG.hp_amp : Fld := ⟨0x050054, 4, 8⟩
def F.LF_HP_CFG.hp_cost : Fld := ⟨0x050054, 12, 10⟩
def F.LF_HP_CFG.hp_thr : Fld := ⟨0x050054, 22, 4⟩

def F.LF_HP_STAT.start_per : Fld := ⟨0x050058, 0, 16⟩
def F.LF_HP_STAT.done : Fld := ⟨0x050058, 16, 1⟩
def F.LF_HP_STAT.no_reply : Fld := ⟨0x050058, 17, 1⟩
def F.LF_HP_STAT.preamble_bad : Fld := ⟨0x050058, 18, 1⟩

def F.LF_CAL_CTRL.mask : Fld := ⟨0x05005c, 0, 12⟩
def F.LF_CAL_CTRL.cal_cost : Fld := ⟨0x05005c, 12, 10⟩
def F.LF_CAL_CTRL.cal_done : Fld := ⟨0x05005c, 22, 1⟩
def F.LF_CAL_CTRL.cal_cut : Fld := ⟨0x05005c, 23, 1⟩

def F.LF_TENV.chal_env : Fld := ⟨0x050060, 0, 16⟩

def F.LF_AER_CFG.gain (i : Nat) : Fld := ⟨0x050100 + 0x4 * i, 0, 8⟩
def F.LF_AER_CFG.trim (i : Nat) : Fld := ⟨0x050100 + 0x4 * i, 8, 10⟩
def F.LF_AER_CFG.installed (i : Nat) : Fld := ⟨0x050100 + 0x4 * i, 18, 1⟩

def F.LF_CAL_RES.i_amp (i : Nat) : Fld := ⟨0x050140 + 0x4 * i, 0, 8⟩
def F.LF_CAL_RES.i_phase (i : Nat) : Fld := ⟨0x050140 + 0x4 * i, 8, 10⟩
def F.LF_CAL_RES.valid (i : Nat) : Fld := ⟨0x050140 + 0x4 * i, 18, 1⟩

def F.LF_RON.ron (i : Nat) : Fld := ⟨0x050180 + 0x4 * i, 0, 12⟩
def F.LF_RON.valid (i : Nat) : Fld := ⟨0x050180 + 0x4 * i, 12, 1⟩

def F.LF_PAT_REC.aer_fault (i : Nat) : Fld := ⟨0x050400 + 0x4 * i, 0, 12⟩
def F.LF_PAT_REC.cut (i : Nat) : Fld := ⟨0x050400 + 0x4 * i, 12, 1⟩
def F.LF_PAT_REC.idle (i : Nat) : Fld := ⟨0x050400 + 0x4 * i, 13, 1⟩
def F.LF_PAT_REC.trimmed (i : Nat) : Fld := ⟨0x050400 + 0x4 * i, 14, 1⟩
def F.LF_PAT_REC.clipped (i : Nat) : Fld := ⟨0x050400 + 0x4 * i, 15, 1⟩
def F.LF_PAT_REC.atten (i : Nat) : Fld := ⟨0x050400 + 0x4 * i, 16, 8⟩

def F.LF_VEC.amp (i j : Nat) : Fld := ⟨0x051000 + 0x40 * i + 0x4 * j, 0, 8⟩
def F.LF_VEC.phase (i j : Nat) : Fld := ⟨0x051000 + 0x40 * i + 0x4 * j, 16, 10⟩

def F.LF_VCOST.cost (i : Nat) : Fld := ⟨0x051030 + 0x40 * i, 0, 10⟩

def F.LF_IMEAS.amp (i j : Nat) : Fld := ⟨0x052000 + 0x40 * i + 0x4 * j, 0, 8⟩
def F.LF_IMEAS.phase (i j : Nat) : Fld := ⟨0x052000 + 0x40 * i + 0x4 * j, 16, 10⟩
def F.LF_IMEAS.valid (i j : Nat) : Fld := ⟨0x052000 + 0x40 * i + 0x4 * j, 31, 1⟩

/-- Register words of LF, part 1. -/
def rowsLf1 : List RegRow := [
  ⟨0x050000, [],
    [⟨0, 1, .rw, false, .sys, .plan⟩,
     ⟨1, 1, .rw, false, .sys, .plan⟩,
     ⟨2, 1, .rw, false, .sys, .plan⟩,
     ⟨3, 1, .wo, false, .blk, .num 0⟩,
     ⟨4, 1, .wo, false, .blk, .num 0⟩,
     ⟨5, 1, .wo, true, .blk, .num 0⟩]⟩,
  ⟨0x050004, [],
    [⟨0, 4, .ro, false, .blk, .num 0⟩,
     ⟨4, 1, .ro, false, .blk, .num 0⟩,
     ⟨5, 1, .w1c, false, .blk, .num 0⟩,
     ⟨6, 1, .w1c, false, .blk, .num 0⟩,
     ⟨7, 1, .w1c, false, .blk, .num 0⟩,
     ⟨8, 1, .ro, false, .blk, .num 0⟩,
     ⟨9, 1, .ro, false, .blk, .num 0⟩,
     ⟨10, 1, .ro, false, .blk, .num 0⟩]⟩,
  ⟨0x050008, [],
    [⟨0, 32, .rwl, false, .sys, .plan⟩]⟩,
  ⟨0x05000c, [],
    [⟨0, 3, .rwl, false, .sys, .plan⟩,
     ⟨3, 1, .rwl, false, .sys, .plan⟩,
     ⟨4, 8, .rwl, false, .sys, .plan⟩,
     ⟨12, 8, .rwl, false, .sys, .plan⟩]⟩,
  ⟨0x050010, [],
    [⟨0, 2, .rw, false, .blk, .num 0⟩,
     ⟨2, 2, .rw, false, .blk, .num 0⟩,
     ⟨4, 1, .wo, false, .blk, .num 0⟩,
     ⟨8, 1, .rwl, false, .sys, .plan⟩,
     ⟨9, 1, .rwl, false, .sys, .plan⟩,
     ⟨12, 4, .rwl, false, .sys, .plan⟩,
     ⟨16, 2, .ro, false, .sys, .num 0⟩]⟩,
  ⟨0x050014, [],
    [⟨0, 4, .ro, false, .blk, .num 0⟩,
     ⟨4, 1, .ro, false, .blk, .num 0⟩,
     ⟨5, 7, .ro, false, .blk, .num 0⟩,
     ⟨12, 7, .ro, false, .blk, .num 0⟩,
     ⟨19, 1, .ro, false, .blk, .num 0⟩]⟩,
  ⟨0x050018, [(0x4, 4)],
    [⟨0, 8, .rw, false, .blk, .num 0⟩,
     ⟨8, 8, .rw, false, .blk, .num 0⟩,
     ⟨16, 8, .rw, false, .blk, .num 0⟩,
     ⟨24, 8, .rw, false, .blk, .num 0⟩]⟩,
  ⟨0x050028, [],
    [⟨0, 6, .rwl, false, .sys, .plan⟩,
     ⟨8, 6, .rwl, false, .sys, .plan⟩,
     ⟨16, 6, .rwl, false, .sys, .plan⟩]⟩,
  ⟨0x050030, [(0x4, 4)],
    [⟨0, 6, .rwl, false, .sys, .plan⟩,
     ⟨8, 6, .rwl, false, .sys, .plan⟩]⟩,
  ⟨0x050040, [],
    [⟨0, 10, .ro, false, .blk, .num 0⟩,
     ⟨16, 10, .ro, false, .blk, .num 0⟩,
     ⟨26, 1, .ro, false, .blk, .num 0⟩,
     ⟨27, 1, .w1c, false, .blk, .num 0⟩]⟩,
  ⟨0x050044, [],
    [⟨0, 5, .ro, false, .blk, .num 16⟩,
     ⟨8, 5, .ro, false, .blk, .num 16⟩,
     ⟨13, 1, .w1c, false, .blk, .num 0⟩]⟩,
  ⟨0x050048, [],
    [⟨0, 12, .w1c, false, .blk, .num 0⟩,
     ⟨16, 12, .w1c, false, .blk, .num 0⟩,
     ⟨28, 1, .w1c, false, .blk, .num 0⟩,
     ⟨29, 1, .w1c, false, .blk, .num 0⟩]⟩]

/-- Register words of LF, part 2. -/
def rowsLf2 : List RegRow := [
  ⟨0x05004c, [],
    [⟨0, 8, .ro, false, .blk, .num 0⟩,
     ⟨8, 8, .ro, false, .blk, .num 0⟩,
     ⟨16, 1, .ro, false, .blk, .num 0⟩,
     ⟨17, 1, .ro, false, .blk, .num 0⟩,
     ⟨18, 1, .w1c, false, .blk, .num 0⟩,
     ⟨19, 1, .w1c, false, .blk, .num 0⟩]⟩,
  ⟨0x050050, [],
    [⟨0, 8, .ro, false, .blk, .num 0⟩]⟩,
  ⟨0x050054, [],
    [⟨0, 4, .rwl, false, .sys, .plan⟩,
     ⟨4, 8, .rwl, false, .sys, .plan⟩,
     ⟨12, 10, .rwl, false, .sys, .plan⟩,
     ⟨22, 4, .rwl, false, .sys, .plan⟩]⟩,
  ⟨0x050058, [],
    [⟨0, 16, .ro, false, .blk, .num 0xFFFF⟩,
     ⟨16, 1, .ro, false, .blk, .num 0⟩,
     ⟨17, 1, .ro, false, .blk, .num 0⟩,
     ⟨18, 1, .ro, false, .blk, .num 0⟩]⟩,
  ⟨0x05005c, [],
    [⟨0, 12, .rw, false, .blk, .num 0x0FFF⟩,
     ⟨12, 10, .rwl, false, .sys, .plan⟩,
     ⟨22, 1, .ro, false, .blk, .num 0⟩,
     ⟨23, 1, .ro, false, .blk, .num 0⟩]⟩,
  ⟨0x050060, [],
    [⟨0, 16, .ro, false, .blk, .num 0xFFFF⟩]⟩,
  ⟨0x050100, [(0x4, 12)],
    [⟨0, 8, .rwl, false, .sys, .plan⟩,
     ⟨8, 10, .rwl, false, .sys, .plan⟩,
     ⟨18, 1, .rwl, false, .sys, .plan⟩]⟩,
  ⟨0x050140, [(0x4, 12)],
    [⟨0, 8, .ro, false, .blk, .num 0⟩,
     ⟨8, 10, .ro, false, .blk, .num 0⟩,
     ⟨18, 1, .ro, false, .blk, .num 0⟩]⟩,
  ⟨0x050180, [(0x4, 12)],
    [⟨0, 12, .ro, false, .blk, .num 0⟩,
     ⟨12, 1, .ro, false, .blk, .num 0⟩]⟩,
  ⟨0x050400, [(0x4, 32)],
    [⟨0, 12, .ro, false, .blk, .num 0⟩,
     ⟨12, 1, .ro, false, .blk, .num 0⟩,
     ⟨13, 1, .ro, false, .blk, .num 0⟩,
     ⟨14, 1, .ro, false, .blk, .num 0⟩,
     ⟨15, 1, .ro, false, .blk, .num 0⟩,
     ⟨16, 8, .ro, false, .blk, .num 0⟩]⟩,
  ⟨0x051000, [(0x40, 64), (0x4, 12)],
    [⟨0, 8, .rwl, false, .sys, .plan⟩,
     ⟨16, 10, .rwl, false, .sys, .plan⟩]⟩,
  ⟨0x051030, [(0x40, 64)],
    [⟨0, 10, .rwl, false, .sys, .plan⟩]⟩]

/-- Register words of LF, part 3. -/
def rowsLf3 : List RegRow := [
  ⟨0x052000, [(0x40, 32), (0x4, 12)],
    [⟨0, 8, .ro, false, .blk, .num 0⟩,
     ⟨16, 10, .ro, false, .blk, .num 0⟩,
     ⟨31, 1, .ro, false, .blk, .num 0⟩]⟩]

/-- Register words of LF. -/
def rowsLf : List RegRow := rowsLf1 ++ rowsLf2 ++ rowsLf3

def F.UHF_CTRL.u0_en : Fld := ⟨0x060000, 0, 1⟩
def F.UHF_CTRL.u1_en : Fld := ⟨0x060000, 1, 1⟩
def F.UHF_CTRL.stat_clr : Fld := ⟨0x060000, 2, 1⟩

def F.UHF_CFG.mode : Fld := ⟨0x060004, 0, 1⟩
def F.UHF_CFG.band0 : Fld := ⟨0x060004, 1, 2⟩
def F.UHF_CFG.band1 : Fld := ⟨0x060004, 3, 2⟩
def F.UHF_CFG.busy_thr : Fld := ⟨0x060004, 5, 8⟩
def F.UHF_CFG.floor : Fld := ⟨0x060004, 13, 8⟩

def F.UHF_CHAN.freq (i : Nat) : Fld := ⟨0x060008 + 0x4 * i, 0, 32⟩

def F.UHF_STAT.u0_state : Fld := ⟨0x060010, 0, 2⟩
def F.UHF_STAT.u1_state : Fld := ⟨0x060010, 2, 2⟩
def F.UHF_STAT.u0_lock : Fld := ⟨0x060010, 4, 1⟩
def F.UHF_STAT.u1_lock : Fld := ⟨0x060010, 5, 1⟩
def F.UHF_STAT.chk_late : Fld := ⟨0x060010, 6, 1⟩
def F.UHF_STAT.qchk_bad : Fld := ⟨0x060010, 7, 1⟩
def F.UHF_STAT.cut : Fld := ⟨0x060010, 8, 1⟩

def F.UHF_RSSI.rssi (i : Nat) : Fld := ⟨0x060014 + 0x4 * i, 0, 8⟩

def F.UHF_DLY.dly (i : Nat) : Fld := ⟨0x060020 + 0x4 * i, 0, 24⟩

def F.UHF_QCHK.entry : Fld := ⟨0x060030, 0, 5⟩
def F.UHF_QCHK.pass : Fld := ⟨0x060030, 5, 1⟩

def F.UHF_CNT0.ok : Fld := ⟨0x060040, 0, 16⟩
def F.UHF_CNT0.crc_bad : Fld := ⟨0x060040, 16, 16⟩

def F.UHF_CNT1.discard : Fld := ⟨0x060044, 0, 16⟩
def F.UHF_CNT1.collide : Fld := ⟨0x060044, 16, 16⟩

def F.UHF_CNT2.trunc : Fld := ⟨0x060048, 0, 16⟩
def F.UHF_CNT2.wiped : Fld := ⟨0x060048, 16, 16⟩

def F.UHF_REC_W0.status (i : Nat) : Fld := ⟨0x060400 + 0x10 * i, 0, 3⟩
def F.UHF_REC_W0.rx (i : Nat) : Fld := ⟨0x060400 + 0x10 * i, 3, 1⟩
def F.UHF_REC_W0.qstate (i : Nat) : Fld := ⟨0x060400 + 0x10 * i, 4, 3⟩
def F.UHF_REC_W0.rssi (i : Nat) : Fld := ⟨0x060400 + 0x10 * i, 8, 8⟩
def F.UHF_REC_W0.foff (i : Nat) : Fld := ⟨0x060400 + 0x10 * i, 16, 16⟩

def F.UHF_REC_W4.ts_lo (i : Nat) : Fld := ⟨0x060404 + 0x10 * i, 0, 32⟩

def F.UHF_REC_W8.ts_hi (i : Nat) : Fld := ⟨0x060408 + 0x10 * i, 0, 8⟩
def F.UHF_REC_W8.end_res (i : Nat) : Fld := ⟨0x060408 + 0x10 * i, 8, 11⟩
def F.UHF_REC_W8.rate (i : Nat) : Fld := ⟨0x060408 + 0x10 * i, 19, 1⟩

def F.UHF_REC_WC.len (i : Nat) : Fld := ⟨0x06040c + 0x10 * i, 0, 8⟩
def F.UHF_REC_WC.type_ (i : Nat) : Fld := ⟨0x06040c + 0x10 * i, 8, 4⟩

def F.UHF_Q.data (i j : Nat) : Fld := ⟨0x068000 + 0x80 * i + 0x4 * j, 0, 32⟩

/-- Register words of UHF, part 1. -/
def rowsUhf1 : List RegRow := [
  ⟨0x060000, [],
    [⟨0, 1, .rw, false, .sys, .plan⟩,
     ⟨1, 1, .rw, false, .sys, .plan⟩,
     ⟨2, 1, .wo, false, .blk, .num 0⟩]⟩,
  ⟨0x060004, [],
    [⟨0, 1, .rwl, false, .sys, .plan⟩,
     ⟨1, 2, .rwl, false, .sys, .plan⟩,
     ⟨3, 2, .rwl, false, .sys, .plan⟩,
     ⟨5, 8, .rwl, false, .sys, .plan⟩,
     ⟨13, 8, .rwl, false, .sys, .plan⟩]⟩,
  ⟨0x060008, [(0x4, 2)],
    [⟨0, 32, .rwl, false, .sys, .plan⟩]⟩,
  ⟨0x060010, [],
    [⟨0, 2, .ro, false, .blk, .num 0⟩,
     ⟨2, 2, .ro, false, .blk, .num 0⟩,
     ⟨4, 1, .ro, false, .blk, .num 0⟩,
     ⟨5, 1, .ro, false, .blk, .num 0⟩,
     ⟨6, 1, .w1c, false, .blk, .num 0⟩,
     ⟨7, 1, .w1c, false, .blk, .num 0⟩,
     ⟨8, 1, .w1c, false, .blk, .num 0⟩]⟩,
  ⟨0x060014, [(0x4, 2)],
    [⟨0, 8, .ro, false, .blk, .num 0⟩]⟩,
  ⟨0x060020, [(0x4, 4)],
    [⟨0, 24, .ro, false, .sys, .fuse⟩]⟩,
  ⟨0x060030, [],
    [⟨0, 5, .wo, false, .blk, .num 0⟩,
     ⟨5, 1, .wo, false, .blk, .num 0⟩]⟩,
  ⟨0x060040, [],
    [⟨0, 16, .ro, false, .blk, .num 0⟩,
     ⟨16, 16, .ro, false, .blk, .num 0⟩]⟩,
  ⟨0x060044, [],
    [⟨0, 16, .ro, false, .blk, .num 0⟩,
     ⟨16, 16, .ro, false, .blk, .num 0⟩]⟩,
  ⟨0x060048, [],
    [⟨0, 16, .ro, false, .blk, .num 0⟩,
     ⟨16, 16, .ro, false, .blk, .num 0⟩]⟩,
  ⟨0x060400, [(0x10, 24)],
    [⟨0, 3, .ro, false, .blk, .num 0⟩,
     ⟨3, 1, .ro, false, .blk, .num 0⟩,
     ⟨4, 3, .ro, false, .blk, .num 0⟩,
     ⟨8, 8, .ro, false, .blk, .num 0⟩,
     ⟨16, 16, .ro, false, .blk, .num 0⟩]⟩,
  ⟨0x060404, [(0x10, 24)],
    [⟨0, 32, .ro, false, .blk, .num 0⟩]⟩]

/-- Register words of UHF, part 2. -/
def rowsUhf2 : List RegRow := [
  ⟨0x060408, [(0x10, 24)],
    [⟨0, 8, .ro, false, .blk, .num 0⟩,
     ⟨8, 11, .ro, false, .blk, .num 0⟩,
     ⟨19, 1, .ro, false, .blk, .num 0⟩]⟩,
  ⟨0x06040c, [(0x10, 24)],
    [⟨0, 8, .ro, false, .blk, .num 0⟩,
     ⟨8, 4, .ro, false, .blk, .num 0⟩]⟩,
  ⟨0x068000, [(0x80, 24), (0x4, 32)],
    [⟨0, 32, .ro, false, .blk, .num 0⟩]⟩]

/-- Register words of UHF. -/
def rowsUhf : List RegRow := rowsUhf1 ++ rowsUhf2

end Sys2Proof.Machine
end

