-- ==== Sys2Proof/Machine/RegsB.lean ====
section
/-!
DEFINITION. The register words of UWB, SOLV, VERD, SESS: one constant per field and one row per word, as the register tables of spec/ give
them (addresses by R29).
-/
namespace Sys2Proof.Machine

def F.UWB_CTRL.rf_en : Fld := ⟨0x070000, 0, 1⟩
def F.UWB_CTRL.abort : Fld := ⟨0x070000, 1, 1⟩
def F.UWB_CTRL.cal_start : Fld := ⟨0x070000, 2, 1⟩
def F.UWB_CTRL.tscal_start : Fld := ⟨0x070000, 3, 1⟩

def F.UWB_CFG.profile : Fld := ⟨0x070004, 0, 6⟩
def F.UWB_CFG.mode : Fld := ⟨0x070004, 6, 2⟩
def F.UWB_CFG.ref_port : Fld := ⟨0x070004, 8, 2⟩
def F.UWB_CFG.port_en : Fld := ⟨0x070004, 10, 4⟩
def F.UWB_CFG.tx_att : Fld := ⟨0x070004, 14, 6⟩
def F.UWB_CFG.cal_att : Fld := ⟨0x070004, 20, 6⟩

def F.UWB_STAT.state : Fld := ⟨0x070008, 0, 3⟩
def F.UWB_STAT.ts_ready : Fld := ⟨0x070008, 3, 1⟩
def F.UWB_STAT.pll_lock : Fld := ⟨0x070008, 4, 1⟩
def F.UWB_STAT.ts_lost : Fld := ⟨0x070008, 5, 1⟩
def F.UWB_STAT.cut : Fld := ⟨0x070008, 6, 1⟩
def F.UWB_STAT.abort_late : Fld := ⟨0x070008, 7, 1⟩
def F.UWB_STAT.cal_done : Fld := ⟨0x070008, 8, 1⟩
def F.UWB_STAT.cal_cut : Fld := ⟨0x070008, 9, 1⟩

def F.UWB_FP_CFG.nmult : Fld := ⟨0x07000c, 0, 8⟩
def F.UWB_FP_CFG.pk_ratio : Fld := ⟨0x07000c, 8, 8⟩
def F.UWB_FP_CFG.back : Fld := ⟨0x07000c, 16, 8⟩
def F.UWB_FP_CFG.fp_agree : Fld := ⟨0x07000c, 24, 8⟩

def F.UWB_STS_CFG.q_min : Fld := ⟨0x070010, 0, 8⟩

def F.UWB_GRANT.req : Fld := ⟨0x070014, 0, 10⟩
def F.UWB_GRANT.grant : Fld := ⟨0x070014, 16, 10⟩
def F.UWB_GRANT.waiting : Fld := ⟨0x070014, 26, 1⟩
def F.UWB_GRANT.miss : Fld := ⟨0x070014, 27, 1⟩

def F.UWB_RNG_COST.cost : Fld := ⟨0x070018, 0, 10⟩
def F.UWB_RNG_COST.cal_cost : Fld := ⟨0x070018, 10, 10⟩

def F.UWB_STMP_LO.ts_lo : Fld := ⟨0x070020, 0, 32⟩

def F.UWB_STMP_HI.ts_hi : Fld := ⟨0x070024, 0, 8⟩

def F.UWB_TXDLY.dly : Fld := ⟨0x070028, 0, 16⟩

def F.UWB_TSCAL.dnl_max : Fld := ⟨0x07002c, 0, 8⟩
def F.UWB_TSCAL.span : Fld := ⟨0x07002c, 8, 8⟩
def F.UWB_TSCAL.valid : Fld := ⟨0x07002c, 16, 1⟩

def F.UWB_CHDLY.dly (i : Nat) : Fld := ⟨0x070030 + 0x4 * i, 0, 16⟩

def F.UWB_PORT.cable (i : Nat) : Fld := ⟨0x070040 + 0x4 * i, 0, 16⟩

def F.UWB_WTCABLE.cable : Fld := ⟨0x070050, 0, 16⟩

def F.UWB_PAIR.d (i : Nat) : Fld := ⟨0x070054 + 0x4 * i, 0, 12⟩
def F.UWB_PAIR.off (i : Nat) : Fld := ⟨0x070054 + 0x4 * i, 12, 12⟩

def F.UWB_POS_W0.x (i : Nat) : Fld := ⟨0x070060 + 0x8 * i, 0, 16⟩
def F.UWB_POS_W0.y (i : Nat) : Fld := ⟨0x070060 + 0x8 * i, 16, 16⟩

def F.UWB_POS_W4.z (i : Nat) : Fld := ⟨0x070064 + 0x8 * i, 0, 16⟩

def F.UWB_CALRES.meas (i : Nat) : Fld := ⟨0x070090 + 0x4 * i, 0, 16⟩
def F.UWB_CALRES.dev (i : Nat) : Fld := ⟨0x070090 + 0x4 * i, 16, 16⟩

def F.UWB_STRB_W0.ts_lo (i : Nat) : Fld := ⟨0x070100 + 0x8 * i, 0, 32⟩

def F.UWB_STRB_W4.ts_hi (i : Nat) : Fld := ⟨0x070104 + 0x8 * i, 0, 8⟩
def F.UWB_STRB_W4.valid (i : Nat) : Fld := ⟨0x070104 + 0x8 * i, 8, 1⟩

def F.UWB_REC_W0.rstat (i : Nat) : Fld := ⟨0x071000 + 0x80 * i, 0, 4⟩
def F.UWB_REC_W0.rr1_ok (i : Nat) : Fld := ⟨0x071000 + 0x80 * i, 4, 4⟩
def F.UWB_REC_W0.rr2_ok (i : Nat) : Fld := ⟨0x071000 + 0x80 * i, 8, 4⟩
def F.UWB_REC_W0.split (i : Nat) : Fld := ⟨0x071000 + 0x80 * i, 12, 4⟩
def F.UWB_REC_W0.val_a (i : Nat) : Fld := ⟨0x071000 + 0x80 * i, 16, 1⟩
def F.UWB_REC_W0.val_b (i : Nat) : Fld := ⟨0x071000 + 0x80 * i, 17, 1⟩
def F.UWB_REC_W0.clip_a (i : Nat) : Fld := ⟨0x071000 + 0x80 * i, 18, 1⟩
def F.UWB_REC_W0.clip_b (i : Nat) : Fld := ⟨0x071000 + 0x80 * i, 19, 1⟩

def F.UWB_REC_W4.poll_lo (i : Nat) : Fld := ⟨0x071004 + 0x80 * i, 0, 32⟩

def F.UWB_REC_W8.poll_hi (i : Nat) : Fld := ⟨0x071008 + 0x80 * i, 0, 8⟩

def F.UWB_REC_WC.fin_lo (i : Nat) : Fld := ⟨0x07100c + 0x80 * i, 0, 32⟩

def F.UWB_REC_W10.fin_hi (i : Nat) : Fld := ⟨0x071010 + 0x80 * i, 0, 8⟩

def F.UWB_REC_W14.dphi_a (i : Nat) : Fld := ⟨0x071014 + 0x80 * i, 0, 12⟩
def F.UWB_REC_W14.dphi_b (i : Nat) : Fld := ⟨0x071014 + 0x80 * i, 12, 12⟩

def F.UWB_REC_W18.sin_a (i : Nat) : Fld := ⟨0x071018 + 0x80 * i, 0, 16⟩
def F.UWB_REC_W18.sin_b (i : Nat) : Fld := ⟨0x071018 + 0x80 * i, 16, 16⟩

def F.UWB_REC_W1C.cfo (i : Nat) : Fld := ⟨0x07101c + 0x80 * i, 0, 16⟩

def F.UWB_REC_W20.r1_lo (i j : Nat) : Fld := ⟨0x071020 + 0x80 * i + 0x10 * j, 0, 32⟩

def F.UWB_REC_W24.r1_hi (i j : Nat) : Fld := ⟨0x071024 + 0x80 * i + 0x10 * j, 0, 8⟩
def F.UWB_REC_W24.r1_fp (i j : Nat) : Fld := ⟨0x071024 + 0x80 * i + 0x10 * j, 8, 8⟩
def F.UWB_REC_W24.r1_pk (i j : Nat) : Fld := ⟨0x071024 + 0x80 * i + 0x10 * j, 16, 8⟩
def F.UWB_REC_W24.r1_q (i j : Nat) : Fld := ⟨0x071024 + 0x80 * i + 0x10 * j, 24, 8⟩

def F.UWB_REC_W28.r2_lo (i j : Nat) : Fld := ⟨0x071028 + 0x80 * i + 0x10 * j, 0, 32⟩

def F.UWB_REC_W2C.r2_hi (i j : Nat) : Fld := ⟨0x07102c + 0x80 * i + 0x10 * j, 0, 8⟩
def F.UWB_REC_W2C.r2_fp (i j : Nat) : Fld := ⟨0x07102c + 0x80 * i + 0x10 * j, 8, 8⟩
def F.UWB_REC_W2C.r2_pk (i j : Nat) : Fld := ⟨0x07102c + 0x80 * i + 0x10 * j, 16, 8⟩
def F.UWB_REC_W2C.r2_q (i j : Nat) : Fld := ⟨0x07102c + 0x80 * i + 0x10 * j, 24, 8⟩

/-- Register words of UWB, part 1. -/
def rowsUwb1 : List RegRow := [
  ⟨0x070000, [],
    [⟨0, 1, .rw, false, .sys, .plan⟩,
     ⟨1, 1, .wo, false, .blk, .num 0⟩,
     ⟨2, 1, .wo, false, .blk, .num 0⟩,
     ⟨3, 1, .wo, false, .blk, .num 0⟩]⟩,
  ⟨0x070004, [],
    [⟨0, 6, .rwl, false, .sys, .plan⟩,
     ⟨6, 2, .rwl, false, .sys, .plan⟩,
     ⟨8, 2, .rwl, false, .sys, .plan⟩,
     ⟨10, 4, .rwl, false, .sys, .plan⟩,
     ⟨14, 6, .rwl, false, .sys, .plan⟩,
     ⟨20, 6, .rwl, false, .sys, .plan⟩]⟩,
  ⟨0x070008, [],
    [⟨0, 3, .ro, false, .blk, .num 0⟩,
     ⟨3, 1, .ro, false, .blk, .num 0⟩,
     ⟨4, 1, .ro, false, .blk, .num 0⟩,
     ⟨5, 1, .w1c, false, .blk, .num 0⟩,
     ⟨6, 1, .w1c, false, .blk, .num 0⟩,
     ⟨7, 1, .w1c, false, .blk, .num 0⟩,
     ⟨8, 1, .ro, false, .blk, .num 0⟩,
     ⟨9, 1, .ro, false, .blk, .num 0⟩]⟩,
  ⟨0x07000c, [],
    [⟨0, 8, .rwl, false, .sys, .plan⟩,
     ⟨8, 8, .rwl, false, .sys, .plan⟩,
     ⟨16, 8, .rwl, false, .sys, .plan⟩,
     ⟨24, 8, .rwl, false, .sys, .plan⟩]⟩,
  ⟨0x070010, [],
    [⟨0, 8, .rwl, false, .sys, .plan⟩]⟩,
  ⟨0x070014, [],
    [⟨0, 10, .ro, false, .blk, .num 0⟩,
     ⟨16, 10, .ro, false, .blk, .num 0⟩,
     ⟨26, 1, .ro, false, .blk, .num 0⟩,
     ⟨27, 1, .w1c, false, .blk, .num 0⟩]⟩,
  ⟨0x070018, [],
    [⟨0, 10, .rwl, false, .sys, .plan⟩,
     ⟨10, 10, .rwl, false, .sys, .plan⟩]⟩,
  ⟨0x070020, [],
    [⟨0, 32, .ro, false, .blk, .num 0⟩]⟩,
  ⟨0x070024, [],
    [⟨0, 8, .ro, false, .blk, .num 0⟩]⟩,
  ⟨0x070028, [],
    [⟨0, 16, .ro, false, .sys, .fuse⟩]⟩,
  ⟨0x07002c, [],
    [⟨0, 8, .ro, false, .blk, .num 0⟩,
     ⟨8, 8, .ro, false, .blk, .num 0⟩,
     ⟨16, 1, .ro, false, .blk, .num 0⟩]⟩,
  ⟨0x070030, [(0x4, 4)],
    [⟨0, 16, .ro, false, .sys, .fuse⟩]⟩]

/-- Register words of UWB, part 2. -/
def rowsUwb2 : List RegRow := [
  ⟨0x070040, [(0x4, 4)],
    [⟨0, 16, .rwl, false, .sys, .plan⟩]⟩,
  ⟨0x070050, [],
    [⟨0, 16, .rwl, false, .sys, .plan⟩]⟩,
  ⟨0x070054, [(0x4, 2)],
    [⟨0, 12, .rwl, false, .sys, .plan⟩,
     ⟨12, 12, .rwl, false, .sys, .plan⟩]⟩,
  ⟨0x070060, [(0x8, 5)],
    [⟨0, 16, .rwl, false, .sys, .plan⟩,
     ⟨16, 16, .rwl, false, .sys, .plan⟩]⟩,
  ⟨0x070064, [(0x8, 5)],
    [⟨0, 16, .rwl, false, .sys, .plan⟩]⟩,
  ⟨0x070090, [(0x4, 4)],
    [⟨0, 16, .ro, false, .blk, .num 0⟩,
     ⟨16, 16, .ro, false, .blk, .num 0⟩]⟩,
  ⟨0x070100, [(0x8, 5)],
    [⟨0, 32, .ro, false, .blk, .num 0⟩]⟩,
  ⟨0x070104, [(0x8, 5)],
    [⟨0, 8, .ro, false, .blk, .num 0⟩,
     ⟨8, 1, .ro, false, .blk, .num 0⟩]⟩,
  ⟨0x071000, [(0x80, 8)],
    [⟨0, 4, .ro, false, .blk, .num 0⟩,
     ⟨4, 4, .ro, false, .blk, .num 0⟩,
     ⟨8, 4, .ro, false, .blk, .num 0⟩,
     ⟨12, 4, .ro, false, .blk, .num 0⟩,
     ⟨16, 1, .ro, false, .blk, .num 0⟩,
     ⟨17, 1, .ro, false, .blk, .num 0⟩,
     ⟨18, 1, .ro, false, .blk, .num 0⟩,
     ⟨19, 1, .ro, false, .blk, .num 0⟩]⟩,
  ⟨0x071004, [(0x80, 8)],
    [⟨0, 32, .ro, false, .blk, .num 0⟩]⟩,
  ⟨0x071008, [(0x80, 8)],
    [⟨0, 8, .ro, false, .blk, .num 0⟩]⟩,
  ⟨0x07100c, [(0x80, 8)],
    [⟨0, 32, .ro, false, .blk, .num 0⟩]⟩]

/-- Register words of UWB, part 3. -/
def rowsUwb3 : List RegRow := [
  ⟨0x071010, [(0x80, 8)],
    [⟨0, 8, .ro, false, .blk, .num 0⟩]⟩,
  ⟨0x071014, [(0x80, 8)],
    [⟨0, 12, .ro, false, .blk, .num 0⟩,
     ⟨12, 12, .ro, false, .blk, .num 0⟩]⟩,
  ⟨0x071018, [(0x80, 8)],
    [⟨0, 16, .ro, false, .blk, .num 0⟩,
     ⟨16, 16, .ro, false, .blk, .num 0⟩]⟩,
  ⟨0x07101c, [(0x80, 8)],
    [⟨0, 16, .ro, false, .blk, .num 0⟩]⟩,
  ⟨0x071020, [(0x80, 8), (0x10, 4)],
    [⟨0, 32, .ro, false, .blk, .num 0⟩]⟩,
  ⟨0x071024, [(0x80, 8), (0x10, 4)],
    [⟨0, 8, .ro, false, .blk, .num 0⟩,
     ⟨8, 8, .ro, false, .blk, .num 0⟩,
     ⟨16, 8, .ro, false, .blk, .num 0⟩,
     ⟨24, 8, .ro, false, .blk, .num 0⟩]⟩,
  ⟨0x071028, [(0x80, 8), (0x10, 4)],
    [⟨0, 32, .ro, false, .blk, .num 0⟩]⟩,
  ⟨0x07102c, [(0x80, 8), (0x10, 4)],
    [⟨0, 8, .ro, false, .blk, .num 0⟩,
     ⟨8, 8, .ro, false, .blk, .num 0⟩,
     ⟨16, 8, .ro, false, .blk, .num 0⟩,
     ⟨24, 8, .ro, false, .blk, .num 0⟩]⟩]

/-- Register words of UWB. -/
def rowsUwb : List RegRow := rowsUwb1 ++ rowsUwb2 ++ rowsUwb3

def F.SOLV_CTRL.en : Fld := ⟨0x080000, 0, 1⟩
def F.SOLV_CTRL.abort : Fld := ⟨0x080000, 1, 1⟩

def F.SOLV_STAT.busy : Fld := ⟨0x080004, 0, 1⟩
def F.SOLV_STAT.queued : Fld := ⟨0x080004, 1, 4⟩
def F.SOLV_STAT.slot : Fld := ⟨0x080004, 5, 3⟩
def F.SOLV_STAT.model_ok : Fld := ⟨0x080004, 8, 1⟩
def F.SOLV_STAT.model_err : Fld := ⟨0x080004, 9, 1⟩
def F.SOLV_STAT.cut : Fld := ⟨0x080004, 10, 1⟩
def F.SOLV_STAT.abort_late : Fld := ⟨0x080004, 11, 1⟩

def F.SOLV_CFG.use_field : Fld := ⟨0x080008, 0, 1⟩
def F.SOLV_CFG.use_range : Fld := ⟨0x080008, 1, 1⟩
def F.SOLV_CFG.use_angle : Fld := ⟨0x080008, 2, 1⟩
def F.SOLV_CFG.two_start : Fld := ⟨0x080008, 3, 1⟩
def F.SOLV_CFG.it_max : Fld := ⟨0x080008, 4, 4⟩
def F.SOLV_CFG.b_max : Fld := ⟨0x080008, 8, 8⟩
def F.SOLV_CFG.e_clip : Fld := ⟨0x080008, 16, 8⟩

def F.SOLV_SIG.sig_f : Fld := ⟨0x08000c, 0, 8⟩
def F.SOLV_SIG.sig_r : Fld := ⟨0x08000c, 8, 12⟩
def F.SOLV_SIG.sig_a : Fld := ⟨0x08000c, 20, 10⟩

def F.SOLV_FIELD.floor : Fld := ⟨0x080010, 0, 8⟩
def F.SOLV_FIELD.min_pat : Fld := ⟨0x080010, 8, 6⟩
def F.SOLV_FIELD.h : Fld := ⟨0x080010, 16, 8⟩

def F.SOLV_LM.step_max : Fld := ⟨0x080014, 0, 12⟩
def F.SOLV_LM.conv_mm : Fld := ⟨0x080014, 12, 8⟩

def F.SOLV_CONF.cap_f : Fld := ⟨0x080018, 0, 8⟩
def F.SOLV_CONF.cap_u : Fld := ⟨0x080018, 8, 8⟩
def F.SOLV_CONF.cap_dl : Fld := ⟨0x080018, 16, 8⟩

def F.SOLV_GORG0.x0 : Fld := ⟨0x080020, 0, 16⟩
def F.SOLV_GORG0.y0 : Fld := ⟨0x080020, 16, 16⟩

def F.SOLV_GORG1.z0 : Fld := ⟨0x080024, 0, 16⟩

def F.SOLV_GSTEP0.sx : Fld := ⟨0x080028, 0, 16⟩
def F.SOLV_GSTEP0.sy : Fld := ⟨0x080028, 16, 16⟩

def F.SOLV_GSTEP1.sz : Fld := ⟨0x08002c, 0, 16⟩

def F.SOLV_GN.nx : Fld := ⟨0x080030, 0, 7⟩
def F.SOLV_GN.ny : Fld := ⟨0x080030, 8, 7⟩
def F.SOLV_GN.nz : Fld := ⟨0x080030, 16, 7⟩

def F.SOLV_MADDR.addr : Fld := ⟨0x080040, 0, 17⟩

def F.SOLV_MDATA.data : Fld := ⟨0x080044, 0, 32⟩

def F.SOLV_CNT.fixes : Fld := ⟨0x080048, 0, 16⟩
def F.SOLV_CNT.deadline : Fld := ⟨0x080048, 16, 16⟩

def F.SOLV_PAD_W0.nparts (i : Nat) : Fld := ⟨0x080400 + 0x40 * i, 0, 3⟩
def F.SOLV_PAD_W0.ptype (i : Nat) : Fld := ⟨0x080400 + 0x40 * i, 3, 4⟩
def F.SOLV_PAD_W0.prio (i : Nat) : Fld := ⟨0x080400 + 0x40 * i, 8, 4⟩

def F.SOLV_PAD_W4.lo_x (i j : Nat) : Fld := ⟨0x080404 + 0x40 * i + 0xc * j, 0, 16⟩
def F.SOLV_PAD_W4.hi_x (i j : Nat) : Fld := ⟨0x080404 + 0x40 * i + 0xc * j, 16, 16⟩

def F.SOLV_PAD_W8.lo_y (i j : Nat) : Fld := ⟨0x080408 + 0x40 * i + 0xc * j, 0, 16⟩
def F.SOLV_PAD_W8.hi_y (i j : Nat) : Fld := ⟨0x080408 + 0x40 * i + 0xc * j, 16, 16⟩

def F.SOLV_PAD_WC.lo_z (i j : Nat) : Fld := ⟨0x08040c + 0x40 * i + 0xc * j, 0, 16⟩
def F.SOLV_PAD_WC.hi_z (i j : Nat) : Fld := ⟨0x08040c + 0x40 * i + 0xc * j, 16, 16⟩

def F.SOLV_FIX_W0.fstat (i : Nat) : Fld := ⟨0x081000 + 0x20 * i, 0, 4⟩
def F.SOLV_FIX_W0.abort_late (i : Nat) : Fld := ⟨0x081000 + 0x20 * i, 4, 1⟩
def F.SOLV_FIX_W0.no_field (i : Nat) : Fld := ⟨0x081000 + 0x20 * i, 5, 1⟩
def F.SOLV_FIX_W0.no_uwb (i : Nat) : Fld := ⟨0x081000 + 0x20 * i, 6, 1⟩
def F.SOLV_FIX_W0.edge (i : Nat) : Fld := ⟨0x081000 + 0x20 * i, 7, 1⟩
def F.SOLV_FIX_W0.paddock (i : Nat) : Fld := ⟨0x081000 + 0x20 * i, 8, 8⟩
def F.SOLV_FIX_W0.conf (i : Nat) : Fld := ⟨0x081000 + 0x20 * i, 16, 8⟩
def F.SOLV_FIX_W0.iter (i : Nat) : Fld := ⟨0x081000 + 0x20 * i, 24, 5⟩
def F.SOLV_FIX_W0.stop (i : Nat) : Fld := ⟨0x081000 + 0x20 * i, 29, 3⟩

def F.SOLV_FIX_W4.x (i : Nat) : Fld := ⟨0x081004 + 0x20 * i, 0, 16⟩
def F.SOLV_FIX_W4.y (i : Nat) : Fld := ⟨0x081004 + 0x20 * i, 16, 16⟩

def F.SOLV_FIX_W8.z (i : Nat) : Fld := ⟨0x081008 + 0x20 * i, 0, 16⟩
def F.SOLV_FIX_W8.resid (i : Nat) : Fld := ⟨0x081008 + 0x20 * i, 16, 16⟩

def F.SOLV_FIX_WC.sigma_p (i : Nat) : Fld := ⟨0x08100c + 0x20 * i, 0, 16⟩
def F.SOLV_FIX_WC.margin (i : Nat) : Fld := ⟨0x08100c + 0x20 * i, 16, 16⟩

def F.SOLV_FIX_W10.b (i : Nat) : Fld := ⟨0x081010 + 0x20 * i, 0, 16⟩
def F.SOLV_FIX_W10.n_field (i : Nat) : Fld := ⟨0x081010 + 0x20 * i, 16, 6⟩
def F.SOLV_FIX_W10.n_range (i : Nat) : Fld := ⟨0x081010 + 0x20 * i, 22, 3⟩
def F.SOLV_FIX_W10.n_angle (i : Nat) : Fld := ⟨0x081010 + 0x20 * i, 25, 2⟩

def F.SOLV_FIX_W14.cost (i : Nat) : Fld := ⟨0x081014 + 0x20 * i, 0, 32⟩

def F.SOLV_FIX_W18.elapsed (i : Nat) : Fld := ⟨0x081018 + 0x20 * i, 0, 16⟩
def F.SOLV_FIX_W18.seed_pad (i : Nat) : Fld := ⟨0x081018 + 0x20 * i, 16, 8⟩

/-- Register words of SOLV, part 1. -/
def rowsSolv1 : List RegRow := [
  ⟨0x080000, [],
    [⟨0, 1, .rw, false, .sys, .plan⟩,
     ⟨1, 1, .wo, false, .blk, .num 0⟩]⟩,
  ⟨0x080004, [],
    [⟨0, 1, .ro, false, .blk, .num 0⟩,
     ⟨1, 4, .ro, false, .blk, .num 0⟩,
     ⟨5, 3, .ro, false, .blk, .num 0⟩,
     ⟨8, 1, .ro, false, .blk, .num 0⟩,
     ⟨9, 1, .w1c, false, .blk, .num 0⟩,
     ⟨10, 1, .w1c, false, .blk, .num 0⟩,
     ⟨11, 1, .w1c, false, .blk, .num 0⟩]⟩,
  ⟨0x080008, [],
    [⟨0, 1, .rwl, false, .sys, .plan⟩,
     ⟨1, 1, .rwl, false, .sys, .plan⟩,
     ⟨2, 1, .rwl, false, .sys, .plan⟩,
     ⟨3, 1, .rwl, false, .sys, .plan⟩,
     ⟨4, 4, .rwl, false, .sys, .plan⟩,
     ⟨8, 8, .rwl, false, .sys, .plan⟩,
     ⟨16, 8, .rwl, false, .sys, .plan⟩]⟩,
  ⟨0x08000c, [],
    [⟨0, 8, .rwl, false, .sys, .plan⟩,
     ⟨8, 12, .rwl, false, .sys, .plan⟩,
     ⟨20, 10, .rwl, false, .sys, .plan⟩]⟩,
  ⟨0x080010, [],
    [⟨0, 8, .rwl, false, .sys, .plan⟩,
     ⟨8, 6, .rwl, false, .sys, .plan⟩,
     ⟨16, 8, .rwl, false, .sys, .plan⟩]⟩,
  ⟨0x080014, [],
    [⟨0, 12, .rwl, false, .sys, .plan⟩,
     ⟨12, 8, .rwl, false, .sys, .plan⟩]⟩,
  ⟨0x080018, [],
    [⟨0, 8, .rwl, false, .sys, .plan⟩,
     ⟨8, 8, .rwl, false, .sys, .plan⟩,
     ⟨16, 8, .rwl, false, .sys, .plan⟩]⟩,
  ⟨0x080020, [],
    [⟨0, 16, .rwl, false, .sys, .plan⟩,
     ⟨16, 16, .rwl, false, .sys, .plan⟩]⟩,
  ⟨0x080024, [],
    [⟨0, 16, .rwl, false, .sys, .plan⟩]⟩,
  ⟨0x080028, [],
    [⟨0, 16, .rwl, false, .sys, .plan⟩,
     ⟨16, 16, .rwl, false, .sys, .plan⟩]⟩,
  ⟨0x08002c, [],
    [⟨0, 16, .rwl, false, .sys, .plan⟩]⟩,
  ⟨0x080030, [],
    [⟨0, 7, .rwl, false, .sys, .plan⟩,
     ⟨8, 7, .rwl, false, .sys, .plan⟩,
     ⟨16, 7, .rwl, false, .sys, .plan⟩]⟩]

/-- Register words of SOLV, part 2. -/
def rowsSolv2 : List RegRow := [
  ⟨0x080040, [],
    [⟨0, 17, .rw, false, .blk, .num 0⟩]⟩,
  ⟨0x080044, [],
    [⟨0, 32, .rwl, false, .sys, .num 0⟩]⟩,
  ⟨0x080048, [],
    [⟨0, 16, .ro, false, .blk, .num 0⟩,
     ⟨16, 16, .ro, false, .blk, .num 0⟩]⟩,
  ⟨0x080400, [(0x40, 24)],
    [⟨0, 3, .rwl, false, .sys, .plan⟩,
     ⟨3, 4, .rwl, false, .sys, .plan⟩,
     ⟨8, 4, .rwl, false, .sys, .plan⟩]⟩,
  ⟨0x080404, [(0x40, 24), (0xc, 4)],
    [⟨0, 16, .rwl, false, .sys, .plan⟩,
     ⟨16, 16, .rwl, false, .sys, .plan⟩]⟩,
  ⟨0x080408, [(0x40, 24), (0xc, 4)],
    [⟨0, 16, .rwl, false, .sys, .plan⟩,
     ⟨16, 16, .rwl, false, .sys, .plan⟩]⟩,
  ⟨0x08040c, [(0x40, 24), (0xc, 4)],
    [⟨0, 16, .rwl, false, .sys, .plan⟩,
     ⟨16, 16, .rwl, false, .sys, .plan⟩]⟩,
  ⟨0x081000, [(0x20, 8)],
    [⟨0, 4, .ro, false, .blk, .num 0⟩,
     ⟨4, 1, .ro, false, .blk, .num 0⟩,
     ⟨5, 1, .ro, false, .blk, .num 0⟩,
     ⟨6, 1, .ro, false, .blk, .num 0⟩,
     ⟨7, 1, .ro, false, .blk, .num 0⟩,
     ⟨8, 8, .ro, false, .blk, .num 0xFF⟩,
     ⟨16, 8, .ro, false, .blk, .num 0⟩,
     ⟨24, 5, .ro, false, .blk, .num 0⟩,
     ⟨29, 3, .ro, false, .blk, .num 0⟩]⟩,
  ⟨0x081004, [(0x20, 8)],
    [⟨0, 16, .ro, false, .blk, .num 0⟩,
     ⟨16, 16, .ro, false, .blk, .num 0⟩]⟩,
  ⟨0x081008, [(0x20, 8)],
    [⟨0, 16, .ro, false, .blk, .num 0⟩,
     ⟨16, 16, .ro, false, .blk, .num 0⟩]⟩,
  ⟨0x08100c, [(0x20, 8)],
    [⟨0, 16, .ro, false, .blk, .num 0⟩,
     ⟨16, 16, .ro, false, .blk, .num 0⟩]⟩,
  ⟨0x081010, [(0x20, 8)],
    [⟨0, 16, .ro, false, .blk, .num 0⟩,
     ⟨16, 6, .ro, false, .blk, .num 0⟩,
     ⟨22, 3, .ro, false, .blk, .num 0⟩,
     ⟨25, 2, .ro, false, .blk, .num 0⟩]⟩]

/-- Register words of SOLV, part 3. -/
def rowsSolv3 : List RegRow := [
  ⟨0x081014, [(0x20, 8)],
    [⟨0, 32, .ro, false, .blk, .num 0⟩]⟩,
  ⟨0x081018, [(0x20, 8)],
    [⟨0, 16, .ro, false, .blk, .num 0⟩,
     ⟨16, 8, .ro, false, .blk, .num 0⟩]⟩]

/-- Register words of SOLV. -/
def rowsSolv : List RegRow := rowsSolv1 ++ rowsSolv2 ++ rowsSolv3

def F.VERD_CTRL.en : Fld := ⟨0x090000, 0, 1⟩
def F.VERD_CTRL.abort : Fld := ⟨0x090000, 1, 1⟩

def F.VERD_STAT.ready : Fld := ⟨0x090004, 0, 1⟩
def F.VERD_STAT.open_ : Fld := ⟨0x090004, 1, 1⟩
def F.VERD_STAT.pend : Fld := ⟨0x090004, 2, 8⟩
def F.VERD_STAT.last_code : Fld := ⟨0x090004, 10, 4⟩
def F.VERD_STAT.last_cause : Fld := ⟨0x090004, 14, 5⟩
def F.VERD_STAT.abort_late : Fld := ⟨0x090004, 19, 1⟩
def F.VERD_STAT.cut : Fld := ⟨0x090004, 20, 1⟩
def F.VERD_STAT.ts_lost : Fld := ⟨0x090004, 21, 1⟩
def F.VERD_STAT.chal_restart : Fld := ⟨0x090004, 22, 1⟩
def F.VERD_STAT.env_def_used : Fld := ⟨0x090004, 23, 1⟩

def F.VERD_CAL0.strobe_dly : Fld := ⟨0x090008, 0, 16⟩

def F.VERD_CAL1.tok_bias : Fld := ⟨0x09000c, 0, 16⟩
def F.VERD_CAL1.env_def : Fld := ⟨0x09000c, 16, 16⟩

def F.VERD_TURN.tol : Fld := ⟨0x090010, 0, 24⟩

def F.VERD_CNT.pass : Fld := ⟨0x090014, 0, 16⟩
def F.VERD_CNT.fail : Fld := ⟨0x090014, 16, 16⟩

def F.VERD_PIN.mode : Fld := ⟨0x090018, 0, 2⟩
def F.VERD_PIN.width : Fld := ⟨0x090018, 4, 12⟩

def F.VERD_WIN.guard : Fld := ⟨0x090040, 0, 8⟩
def F.VERD_WIN.early : Fld := ⟨0x090040, 8, 8⟩
def F.VERD_WIN.guard_plan : Fld := ⟨0x090040, 16, 8⟩

def F.VERD_FARR.c_cable : Fld := ⟨0x090044, 0, 8⟩
def F.VERD_FARR.c_interp : Fld := ⟨0x090044, 8, 8⟩
def F.VERD_FARR.clamped : Fld := ⟨0x090044, 16, 1⟩
def F.VERD_FARR.pending : Fld := ⟨0x090044, 17, 1⟩

def F.VERD_PRES.index : Fld := ⟨0x090048, 0, 4⟩
def F.VERD_PRES.p : Fld := ⟨0x090048, 4, 3⟩
def F.VERD_PRES.valid : Fld := ⟨0x090048, 7, 1⟩
def F.VERD_PRES.seq : Fld := ⟨0x090048, 8, 16⟩

def F.VERD_REACH.reach (i : Nat) : Fld := ⟨0x090100 + 0x4 * i, 0, 16⟩

def F.VERD_REACH_ANY.reach : Fld := ⟨0x090160, 0, 16⟩

def F.VERD_REC_W0.code (i : Nat) : Fld := ⟨0x091000 + 0x20 * i, 0, 4⟩
def F.VERD_REC_W0.cause (i : Nat) : Fld := ⟨0x091000 + 0x20 * i, 4, 5⟩
def F.VERD_REC_W0.slot (i : Nat) : Fld := ⟨0x091000 + 0x20 * i, 9, 3⟩
def F.VERD_REC_W0.noslot (i : Nat) : Fld := ⟨0x091000 + 0x20 * i, 12, 1⟩
def F.VERD_REC_W0.abort_late (i : Nat) : Fld := ⟨0x091000 + 0x20 * i, 13, 1⟩
def F.VERD_REC_W0.hp (i : Nat) : Fld := ⟨0x091000 + 0x20 * i, 14, 1⟩
def F.VERD_REC_W0.two_idx (i : Nat) : Fld := ⟨0x091000 + 0x20 * i, 15, 1⟩
def F.VERD_REC_W0.idx_a (i : Nat) : Fld := ⟨0x091000 + 0x20 * i, 16, 4⟩
def F.VERD_REC_W0.idx_b (i : Nat) : Fld := ⟨0x091000 + 0x20 * i, 20, 4⟩

def F.VERD_REC_W4.seq (i : Nat) : Fld := ⟨0x091004 + 0x20 * i, 0, 16⟩
def F.VERD_REC_W4.paddock (i : Nat) : Fld := ⟨0x091004 + 0x20 * i, 16, 8⟩
def F.VERD_REC_W4.conf (i : Nat) : Fld := ⟨0x091004 + 0x20 * i, 24, 8⟩

def F.VERD_REC_W8.x (i : Nat) : Fld := ⟨0x091008 + 0x20 * i, 0, 16⟩
def F.VERD_REC_W8.y (i : Nat) : Fld := ⟨0x091008 + 0x20 * i, 16, 16⟩

def F.VERD_REC_WC.z (i : Nat) : Fld := ⟨0x09100c + 0x20 * i, 0, 16⟩
def F.VERD_REC_WC.fstat (i : Nat) : Fld := ⟨0x09100c + 0x20 * i, 16, 4⟩

def F.VERD_REC_W10.tof (i : Nat) : Fld := ⟨0x091010 + 0x20 * i, 0, 32⟩

def F.VERD_REC_W14.err (i : Nat) : Fld := ⟨0x091014 + 0x20 * i, 0, 32⟩

def F.VERD_REC_W18.lim (i : Nat) : Fld := ⟨0x091018 + 0x20 * i, 0, 16⟩
def F.VERD_REC_W18.hp_start (i : Nat) : Fld := ⟨0x091018 + 0x20 * i, 16, 16⟩

def F.VERD_LAST_W0.code : Fld := ⟨0x090080, 0, 4⟩
def F.VERD_LAST_W0.cause : Fld := ⟨0x090080, 4, 5⟩
def F.VERD_LAST_W0.slot : Fld := ⟨0x090080, 9, 3⟩
def F.VERD_LAST_W0.noslot : Fld := ⟨0x090080, 12, 1⟩
def F.VERD_LAST_W0.abort_late : Fld := ⟨0x090080, 13, 1⟩
def F.VERD_LAST_W0.hp : Fld := ⟨0x090080, 14, 1⟩
def F.VERD_LAST_W0.two_idx : Fld := ⟨0x090080, 15, 1⟩
def F.VERD_LAST_W0.idx_a : Fld := ⟨0x090080, 16, 4⟩
def F.VERD_LAST_W0.idx_b : Fld := ⟨0x090080, 20, 4⟩

def F.VERD_LAST_W4.seq : Fld := ⟨0x090084, 0, 16⟩
def F.VERD_LAST_W4.paddock : Fld := ⟨0x090084, 16, 8⟩
def F.VERD_LAST_W4.conf : Fld := ⟨0x090084, 24, 8⟩

def F.VERD_LAST_W8.x : Fld := ⟨0x090088, 0, 16⟩
def F.VERD_LAST_W8.y : Fld := ⟨0x090088, 16, 16⟩

def F.VERD_LAST_WC.z : Fld := ⟨0x09008c, 0, 16⟩
def F.VERD_LAST_WC.fstat : Fld := ⟨0x09008c, 16, 4⟩

def F.VERD_LAST_W10.tof : Fld := ⟨0x090090, 0, 32⟩

def F.VERD_LAST_W14.err : Fld := ⟨0x090094, 0, 32⟩

def F.VERD_LAST_W18.lim : Fld := ⟨0x090098, 0, 16⟩
def F.VERD_LAST_W18.hp_start : Fld := ⟨0x090098, 16, 16⟩

/-- Register words of VERD, part 1. -/
def rowsVerd1 : List RegRow := [
  ⟨0x090000, [],
    [⟨0, 1, .rw, false, .sys, .plan⟩,
     ⟨1, 1, .wo, false, .blk, .num 0⟩]⟩,
  ⟨0x090004, [],
    [⟨0, 1, .ro, false, .blk, .num 0⟩,
     ⟨1, 1, .ro, false, .blk, .num 0⟩,
     ⟨2, 8, .ro, false, .blk, .num 0⟩,
     ⟨10, 4, .ro, false, .blk, .num 0⟩,
     ⟨14, 5, .ro, false, .blk, .num 0⟩,
     ⟨19, 1, .w1c, false, .blk, .num 0⟩,
     ⟨20, 1, .w1c, false, .blk, .num 0⟩,
     ⟨21, 1, .w1c, false, .blk, .num 0⟩,
     ⟨22, 1, .w1c, false, .blk, .num 0⟩,
     ⟨23, 1, .w1c, false, .blk, .num 0⟩]⟩,
  ⟨0x090008, [],
    [⟨0, 16, .ro, false, .sys, .fuse⟩]⟩,
  ⟨0x09000c, [],
    [⟨0, 16, .rwl, false, .sys, .plan⟩,
     ⟨16, 16, .rwl, false, .sys, .plan⟩]⟩,
  ⟨0x090010, [],
    [⟨0, 24, .rwl, false, .sys, .plan⟩]⟩,
  ⟨0x090014, [],
    [⟨0, 16, .ro, false, .blk, .num 0⟩,
     ⟨16, 16, .ro, false, .blk, .num 0⟩]⟩,
  ⟨0x090018, [],
    [⟨0, 2, .rwl, false, .sys, .plan⟩,
     ⟨4, 12, .rwl, false, .sys, .plan⟩]⟩,
  ⟨0x090040, [],
    [⟨0, 8, .rwl, false, .sys, .plan⟩,
     ⟨8, 8, .rwl, false, .sys, .plan⟩,
     ⟨16, 8, .ro, false, .sys, .plan⟩]⟩,
  ⟨0x090044, [],
    [⟨0, 8, .ro, false, .sys, .num 0⟩,
     ⟨8, 8, .ro, false, .sys, .num 0⟩,
     ⟨16, 1, .ro, false, .sys, .num 0⟩,
     ⟨17, 1, .ro, false, .sys, .num 0⟩]⟩,
  ⟨0x090048, [],
    [⟨0, 4, .ro, false, .blk, .num 0⟩,
     ⟨4, 3, .ro, false, .blk, .num 0⟩,
     ⟨7, 1, .ro, false, .blk, .num 0⟩,
     ⟨8, 16, .ro, false, .blk, .num 0⟩]⟩,
  ⟨0x090100, [(0x4, 24)],
    [⟨0, 16, .rwl, false, .sys, .plan⟩]⟩,
  ⟨0x090160, [],
    [⟨0, 16, .rwl, false, .sys, .plan⟩]⟩]

/-- Register words of VERD, part 2. -/
def rowsVerd2 : List RegRow := [
  ⟨0x091000, [(0x20, 8)],
    [⟨0, 4, .ro, false, .blk, .num 0⟩,
     ⟨4, 5, .ro, false, .blk, .num 0⟩,
     ⟨9, 3, .ro, false, .blk, .num 0⟩,
     ⟨12, 1, .ro, false, .blk, .num 0⟩,
     ⟨13, 1, .ro, false, .blk, .num 0⟩,
     ⟨14, 1, .ro, false, .blk, .num 0⟩,
     ⟨15, 1, .ro, false, .blk, .num 0⟩,
     ⟨16, 4, .ro, false, .blk, .num 0⟩,
     ⟨20, 4, .ro, false, .blk, .num 0⟩]⟩,
  ⟨0x091004, [(0x20, 8)],
    [⟨0, 16, .ro, false, .blk, .num 0⟩,
     ⟨16, 8, .ro, false, .blk, .num 0xFF⟩,
     ⟨24, 8, .ro, false, .blk, .num 0⟩]⟩,
  ⟨0x091008, [(0x20, 8)],
    [⟨0, 16, .ro, false, .blk, .num 0⟩,
     ⟨16, 16, .ro, false, .blk, .num 0⟩]⟩,
  ⟨0x09100c, [(0x20, 8)],
    [⟨0, 16, .ro, false, .blk, .num 0⟩,
     ⟨16, 4, .ro, false, .blk, .num 0⟩]⟩,
  ⟨0x091010, [(0x20, 8)],
    [⟨0, 32, .ro, false, .blk, .num 0x80000000⟩]⟩,
  ⟨0x091014, [(0x20, 8)],
    [⟨0, 32, .ro, false, .blk, .num 0x80000000⟩]⟩,
  ⟨0x091018, [(0x20, 8)],
    [⟨0, 16, .ro, false, .blk, .num 0⟩,
     ⟨16, 16, .ro, false, .blk, .num 0xFFFF⟩]⟩,
  ⟨0x090080, [],
    [⟨0, 4, .ro, false, .blk, .num 0⟩,
     ⟨4, 5, .ro, false, .blk, .num 0⟩,
     ⟨9, 3, .ro, false, .blk, .num 0⟩,
     ⟨12, 1, .ro, false, .blk, .num 0⟩,
     ⟨13, 1, .ro, false, .blk, .num 0⟩,
     ⟨14, 1, .ro, false, .blk, .num 0⟩,
     ⟨15, 1, .ro, false, .blk, .num 0⟩,
     ⟨16, 4, .ro, false, .blk, .num 0⟩,
     ⟨20, 4, .ro, false, .blk, .num 0⟩]⟩,
  ⟨0x090084, [],
    [⟨0, 16, .ro, false, .blk, .num 0⟩,
     ⟨16, 8, .ro, false, .blk, .num 0xFF⟩,
     ⟨24, 8, .ro, false, .blk, .num 0⟩]⟩,
  ⟨0x090088, [],
    [⟨0, 16, .ro, false, .blk, .num 0⟩,
     ⟨16, 16, .ro, false, .blk, .num 0⟩]⟩,
  ⟨0x09008c, [],
    [⟨0, 16, .ro, false, .blk, .num 0⟩,
     ⟨16, 4, .ro, false, .blk, .num 0⟩]⟩,
  ⟨0x090090, [],
    [⟨0, 32, .ro, false, .blk, .num 0x80000000⟩]⟩]

/-- Register words of VERD, part 3. -/
def rowsVerd3 : List RegRow := [
  ⟨0x090094, [],
    [⟨0, 32, .ro, false, .blk, .num 0x80000000⟩]⟩,
  ⟨0x090098, [],
    [⟨0, 16, .ro, false, .blk, .num 0⟩,
     ⟨16, 16, .ro, false, .blk, .num 0xFFFF⟩]⟩]

/-- Register words of VERD. -/
def rowsVerd : List RegRow := rowsVerd1 ++ rowsVerd2 ++ rowsVerd3

def F.SESS_CTRL.en : Fld := ⟨0x0a0000, 0, 1⟩

def F.SESS_STAT.entry_open : Fld := ⟨0x0a0004, 0, 1⟩
def F.SESS_STAT.start_open : Fld := ⟨0x0a0004, 1, 1⟩
def F.SESS_STAT.txn_open : Fld := ⟨0x0a0004, 2, 1⟩
def F.SESS_STAT.latched : Fld := ⟨0x0a0004, 3, 19⟩
def F.SESS_STAT.gen_ready : Fld := ⟨0x0a0004, 22, 1⟩
def F.SESS_STAT.gen_sat : Fld := ⟨0x0a0004, 23, 1⟩

def F.SESS_CMD.kind : Fld := ⟨0x0a0008, 0, 2⟩
def F.SESS_CMD.start : Fld := ⟨0x0a0008, 2, 1⟩
def F.SESS_CMD.end_entry : Fld := ⟨0x0a0008, 3, 1⟩
def F.SESS_CMD.end_start : Fld := ⟨0x0a0008, 4, 1⟩

def F.SESS_CMD_MASK.mask : Fld := ⟨0x0a000c, 0, 24⟩

def F.SESS_MNONCE.nonce (i : Nat) : Fld := ⟨0x0a0010 + 0x4 * i, 0, 32⟩

def F.SESS_TMO.entry : Fld := ⟨0x0a0018, 0, 12⟩
def F.SESS_TMO.start : Fld := ⟨0x0a0018, 12, 12⟩

def F.SESS_STARTMASK.mask : Fld := ⟨0x0a001c, 0, 24⟩

def F.SESS_GEN_LO.gen : Fld := ⟨0x0a0020, 0, 32⟩

def F.SESS_GEN_HI.gen : Fld := ⟨0x0a0024, 0, 16⟩

def F.SESS_FAIL.count : Fld := ⟨0x0a0028, 0, 32⟩

def F.SESS_EVT.entry_open : Fld := ⟨0x0a002c, 0, 1⟩
def F.SESS_EVT.start_open : Fld := ⟨0x0a002c, 1, 1⟩
def F.SESS_EVT.sess_end : Fld := ⟨0x0a002c, 2, 1⟩
def F.SESS_EVT.req_done : Fld := ⟨0x0a002c, 3, 1⟩
def F.SESS_EVT.fail : Fld := ⟨0x0a002c, 4, 1⟩
def F.SESS_EVT.slk_fault : Fld := ⟨0x0a002c, 5, 1⟩
def F.SESS_EVT.gen_sat : Fld := ⟨0x0a002c, 6, 1⟩

def F.SESS_IRQEN.en : Fld := ⟨0x0a0030, 0, 7⟩

def F.SESS_SLK.cmd : Fld := ⟨0x0a0034, 0, 1⟩
def F.SESS_SLK.a_rb : Fld := ⟨0x0a0034, 1, 1⟩
def F.SESS_SLK.b_rb : Fld := ⟨0x0a0034, 2, 1⟩
def F.SESS_SLK.fault : Fld := ⟨0x0a0034, 3, 1⟩

def F.SESS_ENTRY_W0.open_ : Fld := ⟨0x0a0040, 0, 1⟩
def F.SESS_ENTRY_W0.idx : Fld := ⟨0x0a0040, 1, 4⟩
def F.SESS_ENTRY_W0.slot : Fld := ⟨0x0a0040, 5, 3⟩
def F.SESS_ENTRY_W0.paddock : Fld := ⟨0x0a0040, 8, 8⟩
def F.SESS_ENTRY_W0.doors : Fld := ⟨0x0a0040, 16, 8⟩
def F.SESS_ENTRY_W0.cause : Fld := ⟨0x0a0040, 24, 4⟩

def F.SESS_ENTRY_W4.gen_lo : Fld := ⟨0x0a0044, 0, 32⟩

def F.SESS_ENTRY_W8.gen_hi : Fld := ⟨0x0a0048, 0, 16⟩
def F.SESS_ENTRY_W8.remain : Fld := ⟨0x0a0048, 16, 16⟩

def F.SESS_ENTRY_WC.seq : Fld := ⟨0x0a004c, 0, 16⟩

def F.SESS_START_W0.open_ : Fld := ⟨0x0a0050, 0, 1⟩
def F.SESS_START_W0.idx : Fld := ⟨0x0a0050, 1, 4⟩
def F.SESS_START_W0.slot : Fld := ⟨0x0a0050, 5, 3⟩
def F.SESS_START_W0.paddock : Fld := ⟨0x0a0050, 8, 8⟩
def F.SESS_START_W0.doors : Fld := ⟨0x0a0050, 16, 8⟩
def F.SESS_START_W0.cause : Fld := ⟨0x0a0050, 24, 4⟩

def F.SESS_START_W4.gen_lo : Fld := ⟨0x0a0054, 0, 32⟩

def F.SESS_START_W8.gen_hi : Fld := ⟨0x0a0058, 0, 16⟩
def F.SESS_START_W8.remain : Fld := ⟨0x0a0058, 16, 16⟩

def F.SESS_START_WC.seq : Fld := ⟨0x0a005c, 0, 16⟩

def F.SESS_LASTEND.kind : Fld := ⟨0x0a0060, 0, 1⟩
def F.SESS_LASTEND.cause : Fld := ⟨0x0a0060, 1, 4⟩

def F.SESS_LASTREQ.outcome : Fld := ⟨0x0a0064, 0, 4⟩
def F.SESS_LASTREQ.kind : Fld := ⟨0x0a0064, 4, 2⟩
def F.SESS_LASTREQ.source : Fld := ⟨0x0a0064, 6, 5⟩

def F.SESS_LASTFAIL.code : Fld := ⟨0x0a0068, 0, 4⟩
def F.SESS_LASTFAIL.cause : Fld := ⟨0x0a0068, 4, 5⟩
def F.SESS_LASTFAIL.idx : Fld := ⟨0x0a0068, 9, 4⟩

def F.SESS_RCODE.code (i : Nat) : Fld := ⟨0x0a0070 + 0x4 * i, 0, 32⟩

def F.SESS_HS.mask (i : Nat) : Fld := ⟨0x0a0100 + 0x4 * i, 0, 24⟩
def F.SESS_HS.kind (i : Nat) : Fld := ⟨0x0a0100 + 0x4 * i, 24, 2⟩

def F.SESS_DS.mask (i : Nat) : Fld := ⟨0x0a0120 + 0x4 * i, 0, 24⟩
def F.SESS_DS.kind (i : Nat) : Fld := ⟨0x0a0120 + 0x4 * i, 24, 2⟩
def F.SESS_DS.trig (i : Nat) : Fld := ⟨0x0a0120 + 0x4 * i, 26, 2⟩

def F.SESS_DOOR.doors (i : Nat) : Fld := ⟨0x0a0200 + 0x4 * i, 0, 8⟩

/-- Register words of SESS, part 1. -/
def rowsSess1 : List RegRow := [
  ⟨0x0a0000, [],
    [⟨0, 1, .rw, false, .sys, .plan⟩]⟩,
  ⟨0x0a0004, [],
    [⟨0, 1, .ro, false, .blk, .num 0⟩,
     ⟨1, 1, .ro, false, .blk, .num 0⟩,
     ⟨2, 1, .ro, false, .blk, .num 0⟩,
     ⟨3, 19, .ro, false, .blk, .num 0⟩,
     ⟨22, 1, .ro, false, .sys, .num 0⟩,
     ⟨23, 1, .ro, false, .sys, .num 0⟩]⟩,
  ⟨0x0a0008, [],
    [⟨0, 2, .rw, true, .blk, .num 0⟩,
     ⟨2, 1, .wo, true, .blk, .num 0⟩,
     ⟨3, 1, .wo, false, .blk, .num 0⟩,
     ⟨4, 1, .wo, false, .blk, .num 0⟩]⟩,
  ⟨0x0a000c, [],
    [⟨0, 24, .rw, true, .blk, .num 0⟩]⟩,
  ⟨0x0a0010, [(0x4, 2)],
    [⟨0, 32, .rw, true, .blk, .num 0⟩]⟩,
  ⟨0x0a0018, [],
    [⟨0, 12, .rwl, false, .sys, .plan⟩,
     ⟨12, 12, .rwl, false, .sys, .plan⟩]⟩,
  ⟨0x0a001c, [],
    [⟨0, 24, .rwl, false, .sys, .plan⟩]⟩,
  ⟨0x0a0020, [],
    [⟨0, 32, .ro, false, .sys, .plan⟩]⟩,
  ⟨0x0a0024, [],
    [⟨0, 16, .ro, false, .sys, .plan⟩]⟩,
  ⟨0x0a0028, [],
    [⟨0, 32, .ro, false, .sys, .plan⟩]⟩,
  ⟨0x0a002c, [],
    [⟨0, 1, .w1c, false, .blk, .num 0⟩,
     ⟨1, 1, .w1c, false, .blk, .num 0⟩,
     ⟨2, 1, .w1c, false, .blk, .num 0⟩,
     ⟨3, 1, .w1c, false, .blk, .num 0⟩,
     ⟨4, 1, .w1c, false, .blk, .num 0⟩,
     ⟨5, 1, .w1c, false, .blk, .num 0⟩,
     ⟨6, 1, .w1c, false, .sys, .num 0⟩]⟩,
  ⟨0x0a0030, [],
    [⟨0, 7, .rw, false, .sys, .num 0⟩]⟩]

/-- Register words of SESS, part 2. -/
def rowsSess2 : List RegRow := [
  ⟨0x0a0034, [],
    [⟨0, 1, .ro, false, .blk, .num 0⟩,
     ⟨1, 1, .ro, false, .blk, .num 0⟩,
     ⟨2, 1, .ro, false, .blk, .num 0⟩,
     ⟨3, 1, .w1c, false, .sys, .num 0⟩]⟩,
  ⟨0x0a0040, [],
    [⟨0, 1, .ro, false, .blk, .num 0⟩,
     ⟨1, 4, .ro, false, .blk, .num 0⟩,
     ⟨5, 3, .ro, false, .blk, .num 0⟩,
     ⟨8, 8, .ro, false, .blk, .num 0xFF⟩,
     ⟨16, 8, .ro, false, .blk, .num 0⟩,
     ⟨24, 4, .ro, false, .blk, .num 0⟩]⟩,
  ⟨0x0a0044, [],
    [⟨0, 32, .ro, false, .blk, .num 0⟩]⟩,
  ⟨0x0a0048, [],
    [⟨0, 16, .ro, false, .blk, .num 0⟩,
     ⟨16, 16, .ro, false, .blk, .num 0⟩]⟩,
  ⟨0x0a004c, [],
    [⟨0, 16, .ro, false, .blk, .num 0⟩]⟩,
  ⟨0x0a0050, [],
    [⟨0, 1, .ro, false, .blk, .num 0⟩,
     ⟨1, 4, .ro, false, .blk, .num 0⟩,
     ⟨5, 3, .ro, false, .blk, .num 0⟩,
     ⟨8, 8, .ro, false, .blk, .num 0xFF⟩,
     ⟨16, 8, .ro, false, .blk, .num 0⟩,
     ⟨24, 4, .ro, false, .blk, .num 0⟩]⟩,
  ⟨0x0a0054, [],
    [⟨0, 32, .ro, false, .blk, .num 0⟩]⟩,
  ⟨0x0a0058, [],
    [⟨0, 16, .ro, false, .blk, .num 0⟩,
     ⟨16, 16, .ro, false, .blk, .num 0⟩]⟩,
  ⟨0x0a005c, [],
    [⟨0, 16, .ro, false, .blk, .num 0⟩]⟩,
  ⟨0x0a0060, [],
    [⟨0, 1, .ro, false, .blk, .num 0⟩,
     ⟨1, 4, .ro, false, .blk, .num 0⟩]⟩,
  ⟨0x0a0064, [],
    [⟨0, 4, .ro, false, .blk, .num 0⟩,
     ⟨4, 2, .ro, false, .blk, .num 0⟩,
     ⟨6, 5, .ro, false, .blk, .num 0⟩]⟩,
  ⟨0x0a0068, [],
    [⟨0, 4, .ro, false, .blk, .num 0⟩,
     ⟨4, 5, .ro, false, .blk, .num 0⟩,
     ⟨9, 4, .ro, false, .blk, .num 0⟩]⟩]

/-- Register words of SESS, part 3. -/
def rowsSess3 : List RegRow := [
  ⟨0x0a0070, [(0x4, 3)],
    [⟨0, 32, .ro, false, .blk, .num 0⟩]⟩,
  ⟨0x0a0100, [(0x4, 8)],
    [⟨0, 24, .rwl, false, .sys, .plan⟩,
     ⟨24, 2, .rwl, false, .sys, .plan⟩]⟩,
  ⟨0x0a0120, [(0x4, 8)],
    [⟨0, 24, .rwl, false, .sys, .plan⟩,
     ⟨24, 2, .rwl, false, .sys, .plan⟩,
     ⟨26, 2, .rwl, false, .sys, .plan⟩]⟩,
  ⟨0x0a0200, [(0x4, 24)],
    [⟨0, 8, .rwl, false, .sys, .plan⟩]⟩]

/-- Register words of SESS. -/
def rowsSess : List RegRow := rowsSess1 ++ rowsSess2 ++ rowsSess3

end Sys2Proof.Machine
end

