-- ==== Sys2Proof/Machine/RegsC.lean ====
section
/-!
DEFINITION. The register words of TALLY, CIPH, KEYS, RNG, LOFT: one constant per field and one row per word, as the register tables of spec/ give
them (addresses by R29).
-/
namespace Sys2Proof.Machine

def F.TALLY_EN.en : Fld := ⟨0x0b0000, 0, 16⟩

def F.TALLY_FREEZE.freeze : Fld := ⟨0x0b0004, 0, 16⟩

def F.TALLY_SWCAP.cap : Fld := ⟨0x0b0008, 0, 16⟩

def F.TALLY_STAT.frozen : Fld := ⟨0x0b000c, 0, 16⟩
def F.TALLY_STAT.chainrd : Fld := ⟨0x0b000c, 16, 1⟩
def F.TALLY_STAT.wr_refused : Fld := ⟨0x0b000c, 17, 1⟩

def F.TALLY_EVT.match_ : Fld := ⟨0x0b0010, 0, 16⟩
def F.TALLY_EVT.capt : Fld := ⟨0x0b0010, 16, 16⟩

def F.TALLY_LOST.lost : Fld := ⟨0x0b0014, 0, 16⟩

def F.TALLY_CFG.mode (i : Nat) : Fld := ⟨0x0b0100 + 0x10 * i, 0, 2⟩
def F.TALLY_CFG.clk (i : Nat) : Fld := ⟨0x0b0100 + 0x10 * i, 2, 3⟩
def F.TALLY_CFG.ev (i : Nat) : Fld := ⟨0x0b0100 + 0x10 * i, 5, 5⟩
def F.TALLY_CFG.cap (i : Nat) : Fld := ⟨0x0b0100 + 0x10 * i, 10, 5⟩

def F.TALLY_CNT.count (i : Nat) : Fld := ⟨0x0b0104 + 0x10 * i, 0, 16⟩

def F.TALLY_CAP.cap (i : Nat) : Fld := ⟨0x0b0108 + 0x10 * i, 0, 16⟩
def F.TALLY_CAP.capt_pend (i : Nat) : Fld := ⟨0x0b0108 + 0x10 * i, 16, 1⟩
def F.TALLY_CAP.capt_ovr (i : Nat) : Fld := ⟨0x0b0108 + 0x10 * i, 17, 1⟩

def F.TALLY_CMP.cmp (i : Nat) : Fld := ⟨0x0b010c + 0x10 * i, 0, 16⟩
def F.TALLY_CMP.cmp_pend (i : Nat) : Fld := ⟨0x0b010c + 0x10 * i, 16, 1⟩

/-- Register words of TALLY. -/
def rowsTally : List RegRow := [
  ⟨0x0b0000, [],
    [⟨0, 16, .rw, false, .sys, .plan⟩]⟩,
  ⟨0x0b0004, [],
    [⟨0, 16, .rw, false, .blk, .num 0⟩]⟩,
  ⟨0x0b0008, [],
    [⟨0, 16, .wo, false, .blk, .num 0⟩]⟩,
  ⟨0x0b000c, [],
    [⟨0, 16, .ro, false, .blk, .num 0⟩,
     ⟨16, 1, .w1c, false, .blk, .num 0⟩,
     ⟨17, 1, .w1c, false, .blk, .num 0⟩]⟩,
  ⟨0x0b0010, [],
    [⟨0, 16, .w1c, false, .blk, .num 0⟩,
     ⟨16, 16, .w1c, false, .blk, .num 0⟩]⟩,
  ⟨0x0b0014, [],
    [⟨0, 16, .w1c, false, .blk, .num 0⟩]⟩,
  ⟨0x0b0100, [(0x10, 16)],
    [⟨0, 2, .rwl, false, .sys, .plan⟩,
     ⟨2, 3, .rwl, false, .sys, .plan⟩,
     ⟨5, 5, .rwl, false, .sys, .plan⟩,
     ⟨10, 5, .rwl, false, .sys, .plan⟩]⟩,
  ⟨0x0b0104, [(0x10, 16)],
    [⟨0, 16, .rw, false, .blk, .num 0⟩]⟩,
  ⟨0x0b0108, [(0x10, 16)],
    [⟨0, 16, .ro, false, .blk, .num 0⟩,
     ⟨16, 1, .ro, false, .blk, .num 0⟩,
     ⟨17, 1, .w1c, false, .blk, .num 0⟩]⟩,
  ⟨0x0b010c, [(0x10, 16)],
    [⟨0, 16, .rw, false, .blk, .num 0⟩,
     ⟨16, 1, .ro, false, .blk, .num 0⟩]⟩]

def F.CIPH_STAT.core_busy : Fld := ⟨0x0c0000, 0, 4⟩
def F.CIPH_STAT.clk_ok : Fld := ⟨0x0c0000, 4, 1⟩
def F.CIPH_STAT.pool_low : Fld := ⟨0x0c0000, 5, 1⟩
def F.CIPH_STAT.fault : Fld := ⟨0x0c0000, 6, 1⟩

def F.CIPH_CNT.blocks : Fld := ⟨0x0c0004, 0, 32⟩

def F.CIPH_FAULT.count : Fld := ⟨0x0c0008, 0, 16⟩
def F.CIPH_FAULT.last_req : Fld := ⟨0x0c0008, 16, 4⟩

def F.CIPH_PCH.status (i : Nat) : Fld := ⟨0x0c0010 + 0x4 * i, 0, 4⟩
def F.CIPH_PCH.key_ok (i : Nat) : Fld := ⟨0x0c0010 + 0x4 * i, 4, 1⟩
def F.CIPH_PCH.ops (i : Nat) : Fld := ⟨0x0c0010 + 0x4 * i, 16, 16⟩

def F.CIPH_ECH_W0.op (i : Nat) : Fld := ⟨0x0c0100 + 0x40 * i, 0, 2⟩
def F.CIPH_ECH_W0.start (i : Nat) : Fld := ⟨0x0c0100 + 0x40 * i, 2, 1⟩
def F.CIPH_ECH_W0.abort (i : Nat) : Fld := ⟨0x0c0100 + 0x40 * i, 3, 1⟩
def F.CIPH_ECH_W0.handle (i : Nat) : Fld := ⟨0x0c0100 + 0x40 * i, 16, 16⟩

def F.CIPH_ECH_W4.status (i : Nat) : Fld := ⟨0x0c0104 + 0x40 * i, 0, 4⟩
def F.CIPH_ECH_W4.abort_late (i : Nat) : Fld := ⟨0x0c0104 + 0x40 * i, 4, 1⟩
def F.CIPH_ECH_W4.ctr (i : Nat) : Fld := ⟨0x0c0104 + 0x40 * i, 12, 20⟩

def F.CIPH_ECH_W10.in_ (i j : Nat) : Fld := ⟨0x0c0110 + 0x40 * i + 0x4 * j, 0, 32⟩

def F.CIPH_ECH_W20.out (i j : Nat) : Fld := ⟨0x0c0120 + 0x40 * i + 0x4 * j, 0, 32⟩

/-- Register words of CIPH. -/
def rowsCiph : List RegRow := [
  ⟨0x0c0000, [],
    [⟨0, 4, .ro, false, .blk, .num 0⟩,
     ⟨4, 1, .ro, false, .sys, .num 0⟩,
     ⟨5, 1, .ro, false, .blk, .num 0⟩,
     ⟨6, 1, .w1c, false, .blk, .num 0⟩]⟩,
  ⟨0x0c0004, [],
    [⟨0, 32, .ro, false, .blk, .num 0⟩]⟩,
  ⟨0x0c0008, [],
    [⟨0, 16, .ro, false, .por, .num 0⟩,
     ⟨16, 4, .ro, false, .por, .num 0⟩]⟩,
  ⟨0x0c0010, [(0x4, 3)],
    [⟨0, 4, .ro, false, .blk, .num 0⟩,
     ⟨4, 1, .ro, false, .blk, .num 0⟩,
     ⟨16, 16, .ro, false, .blk, .num 0⟩]⟩,
  ⟨0x0c0100, [(0x40, 8)],
    [⟨0, 2, .rw, false, .blk, .num 0⟩,
     ⟨2, 1, .wo, false, .blk, .num 0⟩,
     ⟨3, 1, .wo, false, .blk, .num 0⟩,
     ⟨16, 16, .rw, false, .blk, .num 0⟩]⟩,
  ⟨0x0c0104, [(0x40, 8)],
    [⟨0, 4, .ro, false, .blk, .num 0⟩,
     ⟨4, 1, .ro, false, .blk, .num 0⟩,
     ⟨12, 20, .ro, false, .blk, .num 0⟩]⟩,
  ⟨0x0c0110, [(0x40, 8), (0x4, 4)],
    [⟨0, 32, .rw, false, .blk, .num 0⟩]⟩,
  ⟨0x0c0120, [(0x40, 8), (0x4, 4)],
    [⟨0, 32, .ro, false, .blk, .num 0⟩]⟩]

def F.KEYS_LC.state : Fld := ⟨0x0d0000, 0, 3⟩
def F.KEYS_LC.slots : Fld := ⟨0x0d0000, 3, 5⟩
def F.KEYS_LC.root_fail : Fld := ⟨0x0d0000, 8, 1⟩
def F.KEYS_LC.shop_cnt : Fld := ⟨0x0d0000, 9, 9⟩

def F.KEYS_LCCMD.cmd : Fld := ⟨0x0d0004, 0, 4⟩
def F.KEYS_LCCMD.confirm : Fld := ⟨0x0d0004, 8, 8⟩
def F.KEYS_LCCMD.status : Fld := ⟨0x0d0004, 16, 4⟩

def F.KEYS_STAT.blocked : Fld := ⟨0x0d0008, 0, 1⟩
def F.KEYS_STAT.wiped : Fld := ⟨0x0d0008, 1, 1⟩
def F.KEYS_STAT.tomb_full : Fld := ⟨0x0d0008, 2, 1⟩
def F.KEYS_STAT.live : Fld := ⟨0x0d0008, 3, 6⟩
def F.KEYS_STAT.tombs : Fld := ⟨0x0d0008, 9, 6⟩
def F.KEYS_STAT.ecc_corr : Fld := ⟨0x0d0008, 15, 1⟩
def F.KEYS_STAT.reuse : Fld := ⟨0x0d0008, 16, 16⟩

def F.KEYS_CLEAR.clr : Fld := ⟨0x0d000c, 0, 1⟩

def F.KEYS_IMP.kt (i : Nat) : Fld := ⟨0x0d0010 + 0x4 * i, 0, 32⟩

def F.KEYS_WRAP.id : Fld := ⟨0x0d0020, 0, 5⟩
def F.KEYS_WRAP.index : Fld := ⟨0x0d0020, 5, 4⟩
def F.KEYS_WRAP.start : Fld := ⟨0x0d0020, 9, 1⟩
def F.KEYS_WRAP.status : Fld := ⟨0x0d0020, 16, 4⟩

def F.KEYS_WOUT.w (i : Nat) : Fld := ⟨0x0d0030 + 0x4 * i, 0, 32⟩

def F.KEYS_VID.vid : Fld := ⟨0x0d0050, 0, 32⟩

def F.KEYS_RELGEN.relgen : Fld := ⟨0x0d0054, 0, 16⟩

def F.KEYS_LIMIT.max_e : Fld := ⟨0x0d0058, 0, 5⟩

def F.KEYS_LABEL_W0.len (i : Nat) : Fld := ⟨0x0d0100 + 0x20 * i, 0, 5⟩

def F.KEYS_LABEL_W4.bytes (i j : Nat) : Fld := ⟨0x0d0104 + 0x20 * i + 0x4 * j, 0, 32⟩

def F.KEYS_DER_W0.parent (i : Nat) : Fld := ⟨0x0d0400 + 0x40 * i, 0, 16⟩
def F.KEYS_DER_W0.id (i : Nat) : Fld := ⟨0x0d0400 + 0x40 * i, 16, 5⟩
def F.KEYS_DER_W0.l256 (i : Nat) : Fld := ⟨0x0d0400 + 0x40 * i, 21, 1⟩
def F.KEYS_DER_W0.start (i : Nat) : Fld := ⟨0x0d0400 + 0x40 * i, 22, 1⟩

def F.KEYS_DER_W4.ctx_len (i : Nat) : Fld := ⟨0x0d0404 + 0x40 * i, 0, 6⟩
def F.KEYS_DER_W4.gen_pos (i : Nat) : Fld := ⟨0x0d0404 + 0x40 * i, 8, 8⟩
def F.KEYS_DER_W4.lim_e (i : Nat) : Fld := ⟨0x0d0404 + 0x40 * i, 16, 5⟩

def F.KEYS_DER_W8.ctx (i j : Nat) : Fld := ⟨0x0d0408 + 0x40 * i + 0x4 * j, 0, 32⟩

def F.KEYS_DER_W28.result (i : Nat) : Fld := ⟨0x0d0428 + 0x40 * i, 0, 16⟩
def F.KEYS_DER_W28.status (i : Nat) : Fld := ⟨0x0d0428 + 0x40 * i, 16, 4⟩

def F.KEYS_DER_W2C.free (i : Nat) : Fld := ⟨0x0d042c + 0x40 * i, 0, 16⟩

def F.KEYS_SLOT.state (i : Nat) : Fld := ⟨0x0d1000 + 0x4 * i, 0, 2⟩
def F.KEYS_SLOT.depth (i : Nat) : Fld := ⟨0x0d1000 + 0x4 * i, 2, 3⟩
def F.KEYS_SLOT.owner (i : Nat) : Fld := ⟨0x0d1000 + 0x4 * i, 5, 4⟩
def F.KEYS_SLOT.id (i : Nat) : Fld := ⟨0x0d1000 + 0x4 * i, 9, 5⟩
def F.KEYS_SLOT.parent (i : Nat) : Fld := ⟨0x0d1000 + 0x4 * i, 14, 6⟩
def F.KEYS_SLOT.uses (i : Nat) : Fld := ⟨0x0d1000 + 0x4 * i, 20, 12⟩

/-- Register words of KEYS, part 1. -/
def rowsKeys1 : List RegRow := [
  ⟨0x0d0000, [],
    [⟨0, 3, .ro, false, .sys, .fuse⟩,
     ⟨3, 5, .ro, false, .sys, .fuse⟩,
     ⟨8, 1, .ro, false, .sys, .fuse⟩,
     ⟨9, 9, .ro, false, .sys, .fuse⟩]⟩,
  ⟨0x0d0004, [],
    [⟨0, 4, .wo, true, .blk, .num 0⟩,
     ⟨8, 8, .wo, true, .blk, .num 0⟩,
     ⟨16, 4, .ro, false, .blk, .num 0⟩]⟩,
  ⟨0x0d0008, [],
    [⟨0, 1, .ro, false, .por, .keep⟩,
     ⟨1, 1, .w1c, false, .sys, .num 0⟩,
     ⟨2, 1, .ro, false, .sys, .num 0⟩,
     ⟨3, 6, .ro, false, .blk, .num 0⟩,
     ⟨9, 6, .ro, false, .sys, .num 0⟩,
     ⟨15, 1, .w1c, false, .blk, .num 0⟩,
     ⟨16, 16, .ro, false, .blk, .num 0⟩]⟩,
  ⟨0x0d000c, [],
    [⟨0, 1, .wo, true, .blk, .num 0⟩]⟩,
  ⟨0x0d0010, [(0x4, 4)],
    [⟨0, 32, .wo, true, .sys, .num 0⟩]⟩,
  ⟨0x0d0020, [],
    [⟨0, 5, .rw, true, .blk, .num 0⟩,
     ⟨5, 4, .rw, true, .blk, .num 0⟩,
     ⟨9, 1, .wo, true, .blk, .num 0⟩,
     ⟨16, 4, .ro, false, .blk, .num 0⟩]⟩,
  ⟨0x0d0030, [(0x4, 6)],
    [⟨0, 32, .ro, false, .sys, .num 0⟩]⟩,
  ⟨0x0d0050, [],
    [⟨0, 32, .rwl, false, .sys, .plan⟩]⟩,
  ⟨0x0d0054, [],
    [⟨0, 16, .rwl, false, .sys, .plan⟩]⟩,
  ⟨0x0d0058, [],
    [⟨0, 5, .rwl, false, .sys, .plan⟩]⟩,
  ⟨0x0d0100, [(0x20, 16)],
    [⟨0, 5, .rwl, false, .sys, .plan⟩]⟩,
  ⟨0x0d0104, [(0x20, 16), (0x4, 4)],
    [⟨0, 32, .rwl, false, .sys, .plan⟩]⟩]

/-- Register words of KEYS, part 2. -/
def rowsKeys2 : List RegRow := [
  ⟨0x0d0400, [(0x40, 8)],
    [⟨0, 16, .rw, false, .blk, .num 0⟩,
     ⟨16, 5, .rw, false, .blk, .num 0⟩,
     ⟨21, 1, .rw, false, .blk, .num 0⟩,
     ⟨22, 1, .wo, false, .blk, .num 0⟩]⟩,
  ⟨0x0d0404, [(0x40, 8)],
    [⟨0, 6, .rw, false, .blk, .num 0⟩,
     ⟨8, 8, .rw, false, .blk, .num 0xFF⟩,
     ⟨16, 5, .rw, false, .blk, .num 20⟩]⟩,
  ⟨0x0d0408, [(0x40, 8), (0x4, 8)],
    [⟨0, 32, .rw, false, .blk, .num 0⟩]⟩,
  ⟨0x0d0428, [(0x40, 8)],
    [⟨0, 16, .ro, false, .blk, .num 0⟩,
     ⟨16, 4, .ro, false, .blk, .num 0⟩]⟩,
  ⟨0x0d042c, [(0x40, 8)],
    [⟨0, 16, .wo, false, .blk, .num 0⟩]⟩,
  ⟨0x0d1000, [(0x4, 48)],
    [⟨0, 2, .ro, false, .blk, .num 0⟩,
     ⟨2, 3, .ro, false, .blk, .num 0⟩,
     ⟨5, 4, .ro, false, .blk, .num 0⟩,
     ⟨9, 5, .ro, false, .blk, .num 0⟩,
     ⟨14, 6, .ro, false, .blk, .num 0x3F⟩,
     ⟨20, 12, .ro, false, .blk, .num 0⟩]⟩]

/-- Register words of KEYS. -/
def rowsKeys : List RegRow := rowsKeys1 ++ rowsKeys2

def F.RNG_CTRL.en : Fld := ⟨0x0e0000, 0, 1⟩
def F.RNG_CTRL.reseed : Fld := ⟨0x0e0000, 1, 1⟩
def F.RNG_CTRL.qflush : Fld := ⟨0x0e0000, 2, 1⟩

def F.RNG_STAT.state : Fld := ⟨0x0e0004, 0, 3⟩
def F.RNG_STAT.seeded : Fld := ⟨0x0e0004, 3, 1⟩
def F.RNG_STAT.seed_ready : Fld := ⟨0x0e0004, 4, 1⟩
def F.RNG_STAT.rct_fail : Fld := ⟨0x0e0004, 5, 1⟩
def F.RNG_STAT.apt_fail : Fld := ⟨0x0e0004, 6, 1⟩
def F.RNG_STAT.alarm : Fld := ⟨0x0e0004, 7, 1⟩
def F.RNG_STAT.run : Fld := ⟨0x0e0004, 8, 4⟩
def F.RNG_STAT.qlevel : Fld := ⟨0x0e0004, 12, 7⟩
def F.RNG_STAT.mismatch : Fld := ⟨0x0e0004, 19, 1⟩

def F.RNG_CFG.rt_pool : Fld := ⟨0x0e0008, 0, 1⟩
def F.RNG_CFG.rt_uwb : Fld := ⟨0x0e0008, 1, 1⟩
def F.RNG_CFG.rt_swp : Fld := ⟨0x0e0008, 2, 1⟩

def F.RNG_RSCNT.count : Fld := ⟨0x0e000c, 0, 21⟩

def F.RNG_CNT.reseeds : Fld := ⟨0x0e0010, 0, 16⟩
def F.RNG_CNT.failures : Fld := ⟨0x0e0010, 16, 16⟩

def F.RNG_STRETCH.max_int : Fld := ⟨0x0e0014, 0, 21⟩

def F.RNG_HT.rct_cut : Fld := ⟨0x0e0018, 0, 8⟩
def F.RNG_HT.apt_cut : Fld := ⟨0x0e0018, 8, 12⟩

def F.RNG_HPORT_W0.valid : Fld := ⟨0x0e0020, 0, 1⟩
def F.RNG_HPORT_W0.seq : Fld := ⟨0x0e0020, 16, 16⟩

def F.RNG_HPORT_W4.data (i : Nat) : Fld := ⟨0x0e0024 + 0x4 * i, 0, 32⟩

def F.RNG_EPORT_W0.valid (i : Nat) : Fld := ⟨0x0e0040 + 0x20 * i, 0, 1⟩
def F.RNG_EPORT_W0.seq (i : Nat) : Fld := ⟨0x0e0040 + 0x20 * i, 16, 16⟩

def F.RNG_EPORT_W4.data (i j : Nat) : Fld := ⟨0x0e0044 + 0x20 * i + 0x4 * j, 0, 32⟩

/-- Register words of RNG. -/
def rowsRng : List RegRow := [
  ⟨0x0e0000, [],
    [⟨0, 1, .rw, false, .sys, .plan⟩,
     ⟨1, 1, .wo, false, .blk, .num 0⟩,
     ⟨2, 1, .wo, false, .blk, .num 0⟩]⟩,
  ⟨0x0e0004, [],
    [⟨0, 3, .ro, false, .blk, .num 0⟩,
     ⟨3, 1, .ro, false, .blk, .num 0⟩,
     ⟨4, 1, .ro, false, .blk, .num 0⟩,
     ⟨5, 1, .w1c, false, .blk, .num 0⟩,
     ⟨6, 1, .w1c, false, .blk, .num 0⟩,
     ⟨7, 1, .w1c, false, .blk, .num 0⟩,
     ⟨8, 4, .ro, false, .blk, .num 0⟩,
     ⟨12, 7, .ro, false, .blk, .num 0⟩,
     ⟨19, 1, .w1c, false, .blk, .num 0⟩]⟩,
  ⟨0x0e0008, [],
    [⟨0, 1, .rwl, false, .sys, .plan⟩,
     ⟨1, 1, .rwl, false, .sys, .plan⟩,
     ⟨2, 1, .rwl, false, .sys, .plan⟩]⟩,
  ⟨0x0e000c, [],
    [⟨0, 21, .ro, false, .blk, .num 0⟩]⟩,
  ⟨0x0e0010, [],
    [⟨0, 16, .ro, false, .blk, .num 0⟩,
     ⟨16, 16, .ro, false, .blk, .num 0⟩]⟩,
  ⟨0x0e0014, [],
    [⟨0, 21, .ro, false, .blk, .num 0⟩]⟩,
  ⟨0x0e0018, [],
    [⟨0, 8, .ro, false, .sys, .fuse⟩,
     ⟨8, 12, .ro, false, .sys, .fuse⟩]⟩,
  ⟨0x0e0020, [],
    [⟨0, 1, .ro, false, .blk, .num 0⟩,
     ⟨16, 16, .ro, false, .blk, .num 0⟩]⟩,
  ⟨0x0e0024, [(0x4, 4)],
    [⟨0, 32, .ro, false, .blk, .num 0⟩]⟩,
  ⟨0x0e0040, [(0x20, 8)],
    [⟨0, 1, .ro, false, .blk, .num 0⟩,
     ⟨16, 16, .ro, false, .blk, .num 0⟩]⟩,
  ⟨0x0e0044, [(0x20, 8), (0x4, 4)],
    [⟨0, 32, .ro, false, .blk, .num 0⟩]⟩]

def F.LOFT_CTRL.store : Fld := ⟨0x0f0000, 0, 1⟩
def F.LOFT_CTRL.commit : Fld := ⟨0x0f0000, 1, 1⟩
def F.LOFT_CTRL.gabort : Fld := ⟨0x0f0000, 2, 1⟩

def F.LOFT_STAT.state : Fld := ⟨0x0f0004, 0, 3⟩
def F.LOFT_STAT.commit_busy : Fld := ⟨0x0f0004, 3, 1⟩
def F.LOFT_STAT.gather_open : Fld := ⟨0x0f0004, 4, 1⟩
def F.LOFT_STAT.owner : Fld := ⟨0x0f0004, 5, 4⟩
def F.LOFT_STAT.store_pend : Fld := ⟨0x0f0004, 9, 1⟩
def F.LOFT_STAT.prot_viol : Fld := ⟨0x0f0004, 10, 1⟩
def F.LOFT_STAT.abort_late : Fld := ⟨0x0f0004, 11, 1⟩
def F.LOFT_STAT.seal_bad : Fld := ⟨0x0f0004, 12, 1⟩
def F.LOFT_STAT.hold_low : Fld := ⟨0x0f0004, 13, 1⟩
def F.LOFT_STAT.ecc_corr : Fld := ⟨0x0f0004, 14, 1⟩
def F.LOFT_STAT.gen_end : Fld := ⟨0x0f0004, 15, 1⟩

def F.LOFT_CFG.bp : Fld := ⟨0x0f0008, 0, 2⟩
def F.LOFT_CFG.pf_en : Fld := ⟨0x0f0008, 2, 1⟩
def F.LOFT_CFG.v_ct : Fld := ⟨0x0f0008, 3, 8⟩
def F.LOFT_CFG.c_min : Fld := ⟨0x0f0008, 11, 12⟩

def F.LOFT_GEN.g : Fld := ⟨0x0f000c, 0, 32⟩

def F.LOFT_GATHER.start : Fld := ⟨0x0f0010, 0, 19⟩
def F.LOFT_GATHER.len : Fld := ⟨0x0f0010, 19, 13⟩

def F.LOFT_LAST.result : Fld := ⟨0x0f0014, 0, 3⟩
def F.LOFT_LAST.torn : Fld := ⟨0x0f0014, 3, 1⟩
def F.LOFT_LAST.gather_lost : Fld := ⟨0x0f0014, 4, 1⟩
def F.LOFT_LAST.recall : Fld := ⟨0x0f0014, 5, 3⟩
def F.LOFT_LAST.copy : Fld := ⟨0x0f0014, 8, 1⟩

def F.LOFT_TORN.page : Fld := ⟨0x0f0018, 0, 11⟩
def F.LOFT_TORN.ptr : Fld := ⟨0x0f0018, 11, 8⟩
def F.LOFT_TORN.valid : Fld := ⟨0x0f0018, 19, 1⟩

def F.LOFT_HOLD.droop : Fld := ⟨0x0f001c, 0, 12⟩
def F.LOFT_HOLD.c_est : Fld := ⟨0x0f001c, 12, 12⟩
def F.LOFT_HOLD.v_pf : Fld := ⟨0x0f001c, 24, 8⟩

def F.LOFT_CNT.stores : Fld := ⟨0x0f0020, 0, 16⟩
def F.LOFT_CNT.commits : Fld := ⟨0x0f0020, 16, 16⟩

def F.LOFT_SEAL.page (i : Nat) : Fld := ⟨0x0f0040 + 0x4 * i, 0, 11⟩
def F.LOFT_SEAL.npg (i : Nat) : Fld := ⟨0x0f0040 + 0x4 * i, 11, 5⟩
def F.LOFT_SEAL.resealing (i : Nat) : Fld := ⟨0x0f0040 + 0x4 * i, 16, 1⟩
def F.LOFT_SEAL.verified (i : Nat) : Fld := ⟨0x0f0040 + 0x4 * i, 17, 1⟩

def F.LOFT_RCFG.nslots (i : Nat) : Fld := ⟨0x0f0100 + 0x4 * i, 0, 7⟩
def F.LOFT_RCFG.n (i : Nat) : Fld := ⟨0x0f0100 + 0x4 * i, 8, 8⟩
def F.LOFT_RCFG.owner (i : Nat) : Fld := ⟨0x0f0100 + 0x4 * i, 16, 4⟩

def F.LOFT_RVAL_W0.val_lo (i : Nat) : Fld := ⟨0x0f0200 + 0x10 * i, 0, 32⟩

def F.LOFT_RVAL_W4.val_hi (i : Nat) : Fld := ⟨0x0f0204 + 0x10 * i, 0, 32⟩

def F.LOFT_RVAL_W8.seq (i : Nat) : Fld := ⟨0x0f0208 + 0x10 * i, 0, 32⟩

def F.LOFT_RVAL_WC.pend (i : Nat) : Fld := ⟨0x0f020c + 0x10 * i, 0, 8⟩
def F.LOFT_RVAL_WC.empty (i : Nat) : Fld := ⟨0x0f020c + 0x10 * i, 8, 1⟩
def F.LOFT_RVAL_WC.seq_end (i : Nat) : Fld := ⟨0x0f020c + 0x10 * i, 9, 1⟩
def F.LOFT_RVAL_WC.slot_bad (i : Nat) : Fld := ⟨0x0f020c + 0x10 * i, 10, 6⟩

/-- Register words of LOFT, part 1. -/
def rowsLoft1 : List RegRow := [
  ⟨0x0f0000, [],
    [⟨0, 1, .wo, true, .blk, .num 0⟩,
     ⟨1, 1, .wo, false, .blk, .num 0⟩,
     ⟨2, 1, .wo, false, .blk, .num 0⟩]⟩,
  ⟨0x0f0004, [],
    [⟨0, 3, .ro, false, .por, .keep⟩,
     ⟨3, 1, .ro, false, .blk, .num 0⟩,
     ⟨4, 1, .ro, false, .blk, .num 0⟩,
     ⟨5, 4, .ro, false, .blk, .num 0⟩,
     ⟨9, 1, .ro, false, .blk, .num 0⟩,
     ⟨10, 1, .w1c, false, .blk, .num 0⟩,
     ⟨11, 1, .w1c, false, .blk, .num 0⟩,
     ⟨12, 1, .w1c, false, .blk, .num 0⟩,
     ⟨13, 1, .w1c, false, .blk, .num 0⟩,
     ⟨14, 1, .w1c, false, .blk, .num 0⟩,
     ⟨15, 1, .ro, false, .blk, .num 0⟩]⟩,
  ⟨0x0f0008, [],
    [⟨0, 2, .rwl, false, .sys, .plan⟩,
     ⟨2, 1, .rwl, false, .sys, .plan⟩,
     ⟨3, 8, .rwl, false, .sys, .plan⟩,
     ⟨11, 12, .rwl, false, .sys, .plan⟩]⟩,
  ⟨0x0f000c, [],
    [⟨0, 32, .ro, false, .por, .num 0⟩]⟩,
  ⟨0x0f0010, [],
    [⟨0, 19, .ro, false, .blk, .num 0⟩,
     ⟨19, 13, .ro, false, .blk, .num 0⟩]⟩,
  ⟨0x0f0014, [],
    [⟨0, 3, .ro, false, .por, .num 0⟩,
     ⟨3, 1, .ro, false, .por, .num 0⟩,
     ⟨4, 1, .ro, false, .por, .num 0⟩,
     ⟨5, 3, .ro, false, .por, .num 0⟩,
     ⟨8, 1, .ro, false, .por, .num 0⟩]⟩,
  ⟨0x0f0018, [],
    [⟨0, 11, .ro, false, .por, .num 0⟩,
     ⟨11, 8, .ro, false, .por, .num 0⟩,
     ⟨19, 1, .ro, false, .por, .num 0⟩]⟩,
  ⟨0x0f001c, [],
    [⟨0, 12, .ro, false, .por, .num 0⟩,
     ⟨12, 12, .ro, false, .por, .num 0⟩,
     ⟨24, 8, .ro, false, .por, .num 0⟩]⟩,
  ⟨0x0f0020, [],
    [⟨0, 16, .ro, false, .blk, .num 0⟩,
     ⟨16, 16, .ro, false, .blk, .num 0⟩]⟩,
  ⟨0x0f0040, [(0x4, 4)],
    [⟨0, 11, .rwl, false, .sys, .plan⟩,
     ⟨11, 5, .rwl, false, .sys, .plan⟩,
     ⟨16, 1, .ro, false, .blk, .num 0⟩,
     ⟨17, 1, .ro, false, .blk, .num 0⟩]⟩,
  ⟨0x0f0100, [(0x4, 16)],
    [⟨0, 7, .rwl, false, .sys, .plan⟩,
     ⟨8, 8, .rwl, false, .sys, .plan⟩,
     ⟨16, 4, .rwl, false, .sys, .plan⟩]⟩,
  ⟨0x0f0200, [(0x10, 16)],
    [⟨0, 32, .rw, false, .por, .keep⟩]⟩]

/-- Register words of LOFT, part 2. -/
def rowsLoft2 : List RegRow := [
  ⟨0x0f0204, [(0x10, 16)],
    [⟨0, 32, .rw, false, .por, .keep⟩]⟩,
  ⟨0x0f0208, [(0x10, 16)],
    [⟨0, 32, .ro, false, .por, .keep⟩]⟩,
  ⟨0x0f020c, [(0x10, 16)],
    [⟨0, 8, .ro, false, .por, .keep⟩,
     ⟨8, 1, .ro, false, .por, .keep⟩,
     ⟨9, 1, .ro, false, .por, .keep⟩,
     ⟨10, 6, .ro, false, .por, .keep⟩]⟩]

/-- Register words of LOFT. -/
def rowsLoft : List RegRow := rowsLoft1 ++ rowsLoft2

end Sys2Proof.Machine
end

