-- ==== Sys2Proof/Machine/RegsD.lean ====
section
/-!
DEFINITION. The register words of GROOM, YARD, HOST, HLTH: one constant per field and one row per word, as the register tables of spec/ give
them (addresses by R29).
-/
namespace Sys2Proof.Machine

def F.GROOM_CTRL.halt (i : Nat) : Fld := ⟨0x100000 + 0x1000 * i, 0, 1⟩
def F.GROOM_CTRL.resume (i : Nat) : Fld := ⟨0x100000 + 0x1000 * i, 1, 1⟩
def F.GROOM_CTRL.step (i : Nat) : Fld := ⟨0x100000 + 0x1000 * i, 2, 1⟩
def F.GROOM_CTRL.reload (i : Nat) : Fld := ⟨0x100000 + 0x1000 * i, 3, 1⟩
def F.GROOM_CTRL.move (i : Nat) : Fld := ⟨0x100000 + 0x1000 * i, 4, 1⟩
def F.GROOM_CTRL.target (i : Nat) : Fld := ⟨0x100000 + 0x1000 * i, 5, 3⟩

def F.GROOM_STAT.state (i : Nat) : Fld := ⟨0x100004 + 0x1000 * i, 0, 3⟩
def F.GROOM_STAT.stall (i : Nat) : Fld := ⟨0x100004 + 0x1000 * i, 3, 4⟩
def F.GROOM_STAT.fault (i : Nat) : Fld := ⟨0x100004 + 0x1000 * i, 7, 4⟩
def F.GROOM_STAT.restarts (i : Nat) : Fld := ⟨0x100004 + 0x1000 * i, 11, 3⟩
def F.GROOM_STAT.wr_refused (i : Nat) : Fld := ⟨0x100004 + 0x1000 * i, 14, 1⟩
def F.GROOM_STAT.yerr (i : Nat) : Fld := ⟨0x100004 + 0x1000 * i, 15, 3⟩
def F.GROOM_STAT.reload_pend (i : Nat) : Fld := ⟨0x100004 + 0x1000 * i, 18, 1⟩
def F.GROOM_STAT.move_pend (i : Nat) : Fld := ⟨0x100004 + 0x1000 * i, 19, 1⟩

def F.GROOM_PC.pc (i : Nat) : Fld := ⟨0x100008 + 0x1000 * i, 0, 32⟩

def F.GROOM_FPC.fpc (i : Nat) : Fld := ⟨0x10000c + 0x1000 * i, 0, 32⟩

def F.GROOM_FADDR.faddr (i : Nat) : Fld := ⟨0x100010 + 0x1000 * i, 0, 32⟩

def F.GROOM_WD.period (i : Nat) : Fld := ⟨0x100014 + 0x1000 * i, 0, 10⟩
def F.GROOM_WD.left (i : Nat) : Fld := ⟨0x100014 + 0x1000 * i, 10, 10⟩

def F.GROOM_DOORBELL.value (i : Nat) : Fld := ⟨0x100018 + 0x1000 * i, 0, 32⟩

def F.GROOM_CYCLE.cycle (i : Nat) : Fld := ⟨0x10001c + 0x1000 * i, 0, 32⟩

def F.GROOM_CNT.faults (i : Nat) : Fld := ⟨0x100020 + 0x1000 * i, 0, 16⟩
def F.GROOM_CNT.ecc_corr (i : Nat) : Fld := ⟨0x100020 + 0x1000 * i, 16, 8⟩
def F.GROOM_CNT.loads (i : Nat) : Fld := ⟨0x100020 + 0x1000 * i, 24, 8⟩

def F.GROOM_XREG.x (i j : Nat) : Fld := ⟨0x100100 + 0x1000 * i + 0x4 * j, 0, 32⟩

def F.GROOM_MADDR.addr (i : Nat) : Fld := ⟨0x100200 + 0x1000 * i, 0, 15⟩
def F.GROOM_MADDR.space (i : Nat) : Fld := ⟨0x100200 + 0x1000 * i, 15, 1⟩

def F.GROOM_MDATA.data (i : Nat) : Fld := ⟨0x100204 + 0x1000 * i, 0, 32⟩

/-- Register words of GROOM. -/
def rowsGroom : List RegRow := [
  ⟨0x100000, [(0x1000, 8)],
    [⟨0, 1, .wo, true, .blk, .num 0⟩,
     ⟨1, 1, .wo, true, .blk, .num 0⟩,
     ⟨2, 1, .wo, true, .blk, .num 0⟩,
     ⟨3, 1, .wo, true, .blk, .num 0⟩,
     ⟨4, 1, .wo, true, .blk, .num 0⟩,
     ⟨5, 3, .rw, true, .blk, .num 0⟩]⟩,
  ⟨0x100004, [(0x1000, 8)],
    [⟨0, 3, .ro, false, .blk, .num 0⟩,
     ⟨3, 4, .ro, false, .blk, .num 0xF⟩,
     ⟨7, 4, .ro, false, .blk, .num 0⟩,
     ⟨11, 3, .ro, false, .blk, .num 0⟩,
     ⟨14, 1, .w1c, false, .blk, .num 0⟩,
     ⟨15, 3, .ro, false, .blk, .num 0⟩,
     ⟨18, 1, .ro, false, .blk, .num 0⟩,
     ⟨19, 1, .ro, false, .blk, .num 0⟩]⟩,
  ⟨0x100008, [(0x1000, 8)],
    [⟨0, 32, .ro, false, .blk, .num 0⟩]⟩,
  ⟨0x10000c, [(0x1000, 8)],
    [⟨0, 32, .ro, false, .blk, .num 0⟩]⟩,
  ⟨0x100010, [(0x1000, 8)],
    [⟨0, 32, .ro, false, .blk, .num 0⟩]⟩,
  ⟨0x100014, [(0x1000, 8)],
    [⟨0, 10, .ro, false, .sys, .plan⟩,
     ⟨10, 10, .ro, false, .blk, .num 0⟩]⟩,
  ⟨0x100018, [(0x1000, 8)],
    [⟨0, 32, .wo, false, .blk, .num 0⟩]⟩,
  ⟨0x10001c, [(0x1000, 8)],
    [⟨0, 32, .ro, false, .blk, .num 0⟩]⟩,
  ⟨0x100020, [(0x1000, 8)],
    [⟨0, 16, .ro, false, .sys, .num 0⟩,
     ⟨16, 8, .ro, false, .sys, .num 0⟩,
     ⟨24, 8, .ro, false, .sys, .num 0⟩]⟩,
  ⟨0x100100, [(0x1000, 8), (0x4, 16)],
    [⟨0, 32, .rw, true, .blk, .num 0⟩]⟩,
  ⟨0x100200, [(0x1000, 8)],
    [⟨0, 15, .rw, true, .blk, .num 0⟩,
     ⟨15, 1, .rw, true, .blk, .num 0⟩]⟩,
  ⟨0x100204, [(0x1000, 8)],
    [⟨0, 32, .rw, true, .blk, .num 0⟩]⟩]

def F.YARD_PCTRL.begin : Fld := ⟨0x110000, 0, 1⟩
def F.YARD_PCTRL.apply : Fld := ⟨0x110000, 1, 1⟩
def F.YARD_PCTRL.cancel : Fld := ⟨0x110000, 2, 1⟩
def F.YARD_PCTRL.use_loft : Fld := ⟨0x110000, 3, 1⟩

def F.YARD_PSTAT.state : Fld := ⟨0x110004, 0, 3⟩
def F.YARD_PSTAT.reason : Fld := ⟨0x110004, 3, 4⟩
def F.YARD_PSTAT.locked : Fld := ⟨0x110004, 7, 1⟩
def F.YARD_PSTAT.source : Fld := ⟨0x110004, 8, 1⟩
def F.YARD_PSTAT.deferred : Fld := ⟨0x110004, 9, 1⟩
def F.YARD_PSTAT.overrun : Fld := ⟨0x110004, 10, 1⟩
def F.YARD_PSTAT.ovl_bad : Fld := ⟨0x110004, 11, 1⟩

def F.YARD_PADDR.addr : Fld := ⟨0x110008, 0, 18⟩

def F.YARD_PDATA.data : Fld := ⟨0x11000c, 0, 32⟩

def F.YARD_PVER.version : Fld := ⟨0x110010, 0, 32⟩

def F.YARD_PRING.ring : Fld := ⟨0x110014, 0, 32⟩

def F.YARD_PWHERE.off : Fld := ⟨0x110018, 0, 18⟩

def F.YARD_PLEN.length : Fld := ⟨0x11001c, 0, 18⟩

def F.YARD_OVL.count : Fld := ⟨0x110020, 0, 7⟩
def F.YARD_OVL.pending : Fld := ⟨0x110020, 7, 1⟩

def F.YARD_PBUILD_W0.build_lo : Fld := ⟨0x110024, 0, 32⟩

def F.YARD_PBUILD_W4.build_hi : Fld := ⟨0x110028, 0, 32⟩

def F.YARD_STALL.present (i : Nat) : Fld := ⟨0x110100 + 0x4 * i, 0, 1⟩
def F.YARD_STALL.plane (i : Nat) : Fld := ⟨0x110100 + 0x4 * i, 1, 2⟩
def F.YARD_STALL.engine (i : Nat) : Fld := ⟨0x110100 + 0x4 * i, 3, 4⟩
def F.YARD_STALL.check (i : Nat) : Fld := ⟨0x110100 + 0x4 * i, 7, 1⟩
def F.YARD_STALL.essential (i : Nat) : Fld := ⟨0x110100 + 0x4 * i, 8, 1⟩

def F.YARD_ROUTE_W0.rd_mask (i : Nat) : Fld := ⟨0x110200 + 0x10 * i, 0, 21⟩

def F.YARD_ROUTE_W4.wr_mask (i : Nat) : Fld := ⟨0x110204 + 0x10 * i, 0, 21⟩

/-- Register words of YARD, part 1. -/
def rowsYard1 : List RegRow := [
  ⟨0x110000, [],
    [⟨0, 1, .wo, true, .blk, .num 0⟩,
     ⟨1, 1, .wo, true, .blk, .num 0⟩,
     ⟨2, 1, .wo, true, .blk, .num 0⟩,
     ⟨3, 1, .wo, true, .blk, .num 0⟩]⟩,
  ⟨0x110004, [],
    [⟨0, 3, .ro, false, .sys, .num 0⟩,
     ⟨3, 4, .ro, false, .sys, .num 0⟩,
     ⟨7, 1, .ro, false, .sys, .num 0⟩,
     ⟨8, 1, .ro, false, .sys, .num 0⟩,
     ⟨9, 1, .ro, false, .sys, .num 0⟩,
     ⟨10, 1, .w1c, false, .sys, .num 0⟩,
     ⟨11, 1, .w1c, false, .sys, .num 0⟩]⟩,
  ⟨0x110008, [],
    [⟨0, 18, .rw, true, .blk, .num 0⟩]⟩,
  ⟨0x11000c, [],
    [⟨0, 32, .wo, true, .blk, .num 0⟩]⟩,
  ⟨0x110010, [],
    [⟨0, 32, .ro, false, .sys, .num 0⟩]⟩,
  ⟨0x110014, [],
    [⟨0, 32, .ro, false, .sys, .num 0⟩]⟩,
  ⟨0x110018, [],
    [⟨0, 18, .ro, false, .sys, .num 0⟩]⟩,
  ⟨0x11001c, [],
    [⟨0, 18, .ro, false, .sys, .num 0⟩]⟩,
  ⟨0x110020, [],
    [⟨0, 7, .ro, false, .sys, .num 0⟩,
     ⟨7, 1, .ro, false, .sys, .num 0⟩]⟩,
  ⟨0x110024, [],
    [⟨0, 32, .ro, false, .sys, .num 0⟩]⟩,
  ⟨0x110028, [],
    [⟨0, 32, .ro, false, .sys, .num 0⟩]⟩,
  ⟨0x110100, [(0x4, 15)],
    [⟨0, 1, .ro, false, .sys, .num 0⟩,
     ⟨1, 2, .ro, false, .sys, .num 0⟩,
     ⟨3, 4, .ro, false, .sys, .num 0xF⟩,
     ⟨7, 1, .ro, false, .sys, .num 0⟩,
     ⟨8, 1, .ro, false, .sys, .num 0⟩]⟩]

/-- Register words of YARD, part 2. -/
def rowsYard2 : List RegRow := [
  ⟨0x110200, [(0x10, 15)],
    [⟨0, 21, .ro, false, .sys, .num 0⟩]⟩,
  ⟨0x110204, [(0x10, 15)],
    [⟨0, 21, .ro, false, .sys, .num 0⟩]⟩]

/-- Register words of YARD. -/
def rowsYard : List RegRow := rowsYard1 ++ rowsYard2

def F.HOST_STAT.form : Fld := ⟨0x120000, 0, 1⟩
def F.HOST_STAT.ready : Fld := ⟨0x120000, 1, 1⟩
def F.HOST_STAT.bound : Fld := ⟨0x120000, 2, 1⟩
def F.HOST_STAT.nonce_ok : Fld := ⟨0x120000, 3, 1⟩
def F.HOST_STAT.plan_cfg : Fld := ⟨0x120000, 4, 1⟩
def F.HOST_STAT.spi_mode : Fld := ⟨0x120000, 5, 1⟩

def F.HOST_CFG.irq_od : Fld := ⟨0x120004, 0, 1⟩
def F.HOST_CFG.ext_id : Fld := ⟨0x120004, 1, 1⟩
def F.HOST_CFG.ntf_en : Fld := ⟨0x120004, 2, 1⟩
def F.HOST_CFG.ntf_gap : Fld := ⟨0x120004, 3, 8⟩

def F.HOST_BNONCE.nonce (i : Nat) : Fld := ⟨0x120008 + 0x4 * i, 0, 32⟩

def F.HOST_BIND.bind : Fld := ⟨0x120010, 0, 32⟩

def F.HOST_SEQ.seq : Fld := ⟨0x120014, 0, 32⟩

def F.HOST_LAST.status : Fld := ⟨0x120018, 0, 8⟩
def F.HOST_LAST.done : Fld := ⟨0x120018, 8, 5⟩
def F.HOST_LAST.tagged : Fld := ⟨0x120018, 13, 1⟩
def F.HOST_LAST.cut : Fld := ⟨0x120018, 14, 1⟩

def F.HOST_IRQSTAT.rdy : Fld := ⟨0x12001c, 0, 1⟩
def F.HOST_IRQSTAT.sess : Fld := ⟨0x12001c, 1, 1⟩
def F.HOST_IRQSTAT.hlth : Fld := ⟨0x12001c, 2, 1⟩
def F.HOST_IRQSTAT.plan : Fld := ⟨0x12001c, 3, 1⟩
def F.HOST_IRQSTAT.auth : Fld := ⟨0x12001c, 4, 1⟩
def F.HOST_IRQSTAT.bind_lost : Fld := ⟨0x12001c, 5, 1⟩
def F.HOST_IRQSTAT.can : Fld := ⟨0x12001c, 6, 1⟩

def F.HOST_IRQEN.en : Fld := ⟨0x120020, 0, 7⟩

def F.HOST_RESET.key : Fld := ⟨0x120024, 0, 32⟩

def F.HOST_CNT0.ack : Fld := ⟨0x120028, 0, 16⟩
def F.HOST_CNT0.nak : Fld := ⟨0x120028, 16, 16⟩

def F.HOST_CNT1.auth : Fld := ⟨0x12002c, 0, 16⟩
def F.HOST_CNT1.crc : Fld := ⟨0x12002c, 16, 16⟩

def F.HOST_CANID.id (i : Nat) : Fld := ⟨0x120040 + 0x4 * i, 0, 29⟩

def F.HOST_CANNBT.brp : Fld := ⟨0x120050, 0, 5⟩
def F.HOST_CANNBT.tseg1 : Fld := ⟨0x120050, 5, 8⟩
def F.HOST_CANNBT.tseg2 : Fld := ⟨0x120050, 13, 7⟩
def F.HOST_CANNBT.sjw : Fld := ⟨0x120050, 20, 7⟩

def F.HOST_CANDBT.brp : Fld := ⟨0x120054, 0, 5⟩
def F.HOST_CANDBT.tseg1 : Fld := ⟨0x120054, 5, 5⟩
def F.HOST_CANDBT.tseg2 : Fld := ⟨0x120054, 10, 4⟩
def F.HOST_CANDBT.sjw : Fld := ⟨0x120054, 14, 4⟩
def F.HOST_CANDBT.tdco : Fld := ⟨0x120054, 18, 7⟩
def F.HOST_CANDBT.tdc_en : Fld := ⟨0x120054, 25, 1⟩

def F.HOST_CANERR.tec : Fld := ⟨0x120058, 0, 8⟩
def F.HOST_CANERR.rec : Fld := ⟨0x120058, 8, 8⟩
def F.HOST_CANERR.state : Fld := ⟨0x120058, 16, 2⟩
def F.HOST_CANERR.busoff : Fld := ⟨0x120058, 18, 8⟩
def F.HOST_CANERR.tx_drop : Fld := ⟨0x120058, 26, 1⟩
def F.HOST_CANERR.pex : Fld := ⟨0x120058, 27, 1⟩

/-- Register words of HOST, part 1. -/
def rowsHost1 : List RegRow := [
  ⟨0x120000, [],
    [⟨0, 1, .ro, false, .por, .keep⟩,
     ⟨1, 1, .ro, false, .blk, .num 0⟩,
     ⟨2, 1, .ro, false, .blk, .num 0⟩,
     ⟨3, 1, .ro, false, .blk, .num 0⟩,
     ⟨4, 1, .ro, false, .blk, .num 0⟩,
     ⟨5, 1, .ro, false, .blk, .num 0⟩]⟩,
  ⟨0x120004, [],
    [⟨0, 1, .rwl, false, .sys, .plan⟩,
     ⟨1, 1, .rwl, false, .sys, .plan⟩,
     ⟨2, 1, .rwl, false, .sys, .plan⟩,
     ⟨3, 8, .rwl, false, .sys, .plan⟩]⟩,
  ⟨0x120008, [(0x4, 2)],
    [⟨0, 32, .ro, false, .blk, .num 0⟩]⟩,
  ⟨0x120010, [],
    [⟨0, 32, .wo, true, .blk, .num 0⟩]⟩,
  ⟨0x120014, [],
    [⟨0, 32, .ro, false, .blk, .num 0⟩]⟩,
  ⟨0x120018, [],
    [⟨0, 8, .ro, false, .blk, .num 0⟩,
     ⟨8, 5, .ro, false, .blk, .num 0⟩,
     ⟨13, 1, .ro, false, .blk, .num 0⟩,
     ⟨14, 1, .ro, false, .blk, .num 0⟩]⟩,
  ⟨0x12001c, [],
    [⟨0, 1, .w1c, false, .blk, .num 0⟩,
     ⟨1, 1, .ro, false, .blk, .num 0⟩,
     ⟨2, 1, .ro, false, .blk, .num 0⟩,
     ⟨3, 1, .w1c, false, .blk, .num 0⟩,
     ⟨4, 1, .w1c, false, .blk, .num 0⟩,
     ⟨5, 1, .w1c, false, .blk, .num 0⟩,
     ⟨6, 1, .w1c, false, .blk, .num 0⟩]⟩,
  ⟨0x120020, [],
    [⟨0, 7, .rw, false, .sys, .num 0x01⟩]⟩,
  ⟨0x120024, [],
    [⟨0, 32, .wo, true, .blk, .num 0⟩]⟩,
  ⟨0x120028, [],
    [⟨0, 16, .ro, false, .blk, .num 0⟩,
     ⟨16, 16, .ro, false, .blk, .num 0⟩]⟩,
  ⟨0x12002c, [],
    [⟨0, 16, .ro, false, .blk, .num 0⟩,
     ⟨16, 16, .ro, false, .blk, .num 0⟩]⟩,
  ⟨0x120040, [(0x4, 3)],
    [⟨0, 29, .rwl, false, .sys, .plan⟩]⟩]

/-- Register words of HOST, part 2. -/
def rowsHost2 : List RegRow := [
  ⟨0x120050, [],
    [⟨0, 5, .rwl, false, .sys, .plan⟩,
     ⟨5, 8, .rwl, false, .sys, .plan⟩,
     ⟨13, 7, .rwl, false, .sys, .plan⟩,
     ⟨20, 7, .rwl, false, .sys, .plan⟩]⟩,
  ⟨0x120054, [],
    [⟨0, 5, .rwl, false, .sys, .plan⟩,
     ⟨5, 5, .rwl, false, .sys, .plan⟩,
     ⟨10, 4, .rwl, false, .sys, .plan⟩,
     ⟨14, 4, .rwl, false, .sys, .plan⟩,
     ⟨18, 7, .rwl, false, .sys, .plan⟩,
     ⟨25, 1, .rwl, false, .sys, .plan⟩]⟩,
  ⟨0x120058, [],
    [⟨0, 8, .ro, false, .blk, .num 0⟩,
     ⟨8, 8, .ro, false, .blk, .num 0⟩,
     ⟨16, 2, .ro, false, .blk, .num 0⟩,
     ⟨18, 8, .ro, false, .blk, .num 0⟩,
     ⟨26, 1, .w1c, false, .blk, .num 0⟩,
     ⟨27, 1, .w1c, false, .blk, .num 0⟩]⟩]

/-- Register words of HOST. -/
def rowsHost : List RegRow := rowsHost1 ++ rowsHost2

def F.HLTH_CTRL.farr_start : Fld := ⟨0x130000, 0, 1⟩

def F.HLTH_STAT.farr_step : Fld := ⟨0x130004, 0, 3⟩
def F.HLTH_STAT.farr_res : Fld := ⟨0x130004, 3, 3⟩
def F.HLTH_STAT.farr_pend : Fld := ⟨0x130004, 6, 1⟩
def F.HLTH_STAT.clr_refused : Fld := ⟨0x130004, 7, 1⟩

def F.HLTH_EVT.tamper : Fld := ⟨0x130008, 0, 1⟩
def F.HLTH_EVT.drift : Fld := ⟨0x130008, 1, 1⟩
def F.HLTH_EVT.farr : Fld := ⟨0x130008, 2, 1⟩
def F.HLTH_EVT.corr : Fld := ⟨0x130008, 3, 1⟩
def F.HLTH_EVT.ciph : Fld := ⟨0x130008, 4, 1⟩
def F.HLTH_EVT.groom : Fld := ⟨0x130008, 5, 1⟩
def F.HLTH_EVT.model : Fld := ⟨0x130008, 6, 1⟩
def F.HLTH_EVT.loft : Fld := ⟨0x130008, 7, 1⟩
def F.HLTH_EVT.rng : Fld := ⟨0x130008, 8, 1⟩
def F.HLTH_EVT.mgr : Fld := ⟨0x130008, 9, 1⟩
def F.HLTH_EVT.lf : Fld := ⟨0x130008, 10, 1⟩
def F.HLTH_EVT.trim : Fld := ⟨0x130008, 11, 1⟩

def F.HLTH_IRQEN.en : Fld := ⟨0x13000c, 0, 12⟩

def F.HLTH_FARR_CFG0.period : Fld := ⟨0x130010, 0, 5⟩
def F.HLTH_FARR_CFG0.qst : Fld := ⟨0x130010, 5, 10⟩
def F.HLTH_FARR_CFG0.vct_max : Fld := ⟨0x130010, 15, 8⟩
def F.HLTH_FARR_CFG0.xtal_lim : Fld := ⟨0x130010, 23, 8⟩

def F.HLTH_FARR_CFG1.ro_lim : Fld := ⟨0x130014, 0, 8⟩
def F.HLTH_FARR_CFG1.ron_lim : Fld := ⟨0x130014, 8, 12⟩

def F.HLTH_TS_LO.ts_lo : Fld := ⟨0x130018, 0, 32⟩

def F.HLTH_TS_HI.ts_hi : Fld := ⟨0x13001c, 0, 16⟩

def F.HLTH_NEXT_LO.due_lo : Fld := ⟨0x130020, 0, 32⟩

def F.HLTH_NEXT_HI.due_hi : Fld := ⟨0x130024, 0, 16⟩

def F.HLTH_DRIFT.aer : Fld := ⟨0x130028, 0, 12⟩
def F.HLTH_DRIFT.guard : Fld := ⟨0x130028, 12, 1⟩
def F.HLTH_DRIFT.clk : Fld := ⟨0x130028, 13, 1⟩
def F.HLTH_DRIFT.hold : Fld := ⟨0x130028, 14, 1⟩
def F.HLTH_DRIFT.xtal : Fld := ⟨0x130028, 15, 1⟩
def F.HLTH_DRIFT.ro : Fld := ⟨0x130028, 16, 1⟩

def F.HLTH_XTAL.ppm : Fld := ⟨0x13002c, 0, 16⟩
def F.HLTH_XTAL.samples : Fld := ⟨0x13002c, 16, 15⟩
def F.HLTH_XTAL.valid : Fld := ⟨0x13002c, 31, 1⟩

def F.HLTH_CNT.faults : Fld := ⟨0x130030, 0, 16⟩
def F.HLTH_CNT.corr : Fld := ⟨0x130030, 16, 16⟩

def F.HLTH_TMP_CFG.mode : Fld := ⟨0x130040, 0, 8⟩
def F.HLTH_TMP_CFG.class_ : Fld := ⟨0x130040, 8, 16⟩

def F.HLTH_TMP_LATCH.latch : Fld := ⟨0x130044, 0, 8⟩

def F.HLTH_TMP_LIVE.live : Fld := ⟨0x130048, 0, 8⟩

def F.HLTH_TMP_CNT.events : Fld := ⟨0x13004c, 0, 16⟩
def F.HLTH_TMP_CNT.last : Fld := ⟨0x13004c, 16, 3⟩

def F.HLTH_RO.slow (i : Nat) : Fld := ⟨0x130100 + 0x4 * i, 0, 16⟩
def F.HLTH_RO.valid (i : Nat) : Fld := ⟨0x130100 + 0x4 * i, 16, 1⟩

def F.HLTH_CLKDEV.dev (i : Nat) : Fld := ⟨0x130140 + 0x4 * i, 0, 16⟩

/-- Register words of HLTH, part 1. -/
def rowsHlth1 : List RegRow := [
  ⟨0x130000, [],
    [⟨0, 1, .wo, true, .blk, .num 0⟩]⟩,
  ⟨0x130004, [],
    [⟨0, 3, .ro, false, .blk, .num 0⟩,
     ⟨3, 3, .ro, false, .blk, .num 0⟩,
     ⟨6, 1, .ro, false, .blk, .num 0⟩,
     ⟨7, 1, .w1c, false, .blk, .num 0⟩]⟩,
  ⟨0x130008, [],
    [⟨0, 1, .w1c, false, .sys, .num 0⟩,
     ⟨1, 1, .w1c, false, .sys, .num 0⟩,
     ⟨2, 1, .w1c, false, .sys, .num 0⟩,
     ⟨3, 1, .w1c, false, .sys, .num 0⟩,
     ⟨4, 1, .w1c, false, .sys, .num 0⟩,
     ⟨5, 1, .w1c, false, .sys, .num 0⟩,
     ⟨6, 1, .w1c, false, .sys, .num 0⟩,
     ⟨7, 1, .w1c, false, .sys, .num 0⟩,
     ⟨8, 1, .w1c, false, .sys, .num 0⟩,
     ⟨9, 1, .w1c, false, .sys, .num 0⟩,
     ⟨10, 1, .w1c, false, .sys, .num 0⟩,
     ⟨11, 1, .w1c, false, .sys, .num 0⟩]⟩,
  ⟨0x13000c, [],
    [⟨0, 12, .rw, false, .sys, .num 0⟩]⟩,
  ⟨0x130010, [],
    [⟨0, 5, .rwl, false, .sys, .plan⟩,
     ⟨5, 10, .rwl, false, .sys, .plan⟩,
     ⟨15, 8, .rwl, false, .sys, .plan⟩,
     ⟨23, 8, .rwl, false, .sys, .plan⟩]⟩,
  ⟨0x130014, [],
    [⟨0, 8, .rwl, false, .sys, .plan⟩,
     ⟨8, 12, .rwl, false, .sys, .plan⟩]⟩,
  ⟨0x130018, [],
    [⟨0, 32, .ro, false, .por, .num 0⟩]⟩,
  ⟨0x13001c, [],
    [⟨0, 16, .ro, false, .por, .num 0⟩]⟩,
  ⟨0x130020, [],
    [⟨0, 32, .ro, false, .por, .num 0⟩]⟩,
  ⟨0x130024, [],
    [⟨0, 16, .ro, false, .por, .num 0⟩]⟩,
  ⟨0x130028, [],
    [⟨0, 12, .w1c, false, .sys, .num 0⟩,
     ⟨12, 1, .w1c, false, .sys, .num 0⟩,
     ⟨13, 1, .w1c, false, .sys, .num 0⟩,
     ⟨14, 1, .w1c, false, .sys, .num 0⟩,
     ⟨15, 1, .w1c, false, .sys, .num 0⟩,
     ⟨16, 1, .w1c, false, .sys, .num 0⟩]⟩,
  ⟨0x13002c, [],
    [⟨0, 16, .ro, false, .sys, .num 0⟩,
     ⟨16, 15, .ro, false, .sys, .num 0⟩,
     ⟨31, 1, .ro, false, .sys, .num 0⟩]⟩]

/-- Register words of HLTH, part 2. -/
def rowsHlth2 : List RegRow := [
  ⟨0x130030, [],
    [⟨0, 16, .ro, false, .sys, .num 0⟩,
     ⟨16, 16, .ro, false, .sys, .num 0⟩]⟩,
  ⟨0x130040, [],
    [⟨0, 8, .rwl, false, .sys, .plan⟩,
     ⟨8, 16, .rwl, false, .sys, .plan⟩]⟩,
  ⟨0x130044, [],
    [⟨0, 8, .w1c, true, .por, .keep⟩]⟩,
  ⟨0x130048, [],
    [⟨0, 8, .ro, false, .sys, .num 0⟩]⟩,
  ⟨0x13004c, [],
    [⟨0, 16, .ro, false, .por, .num 0⟩,
     ⟨16, 3, .ro, false, .por, .num 0⟩]⟩,
  ⟨0x130100, [(0x4, 12)],
    [⟨0, 16, .ro, false, .sys, .num 0⟩,
     ⟨16, 1, .ro, false, .sys, .num 0⟩]⟩,
  ⟨0x130140, [(0x4, 12)],
    [⟨0, 16, .ro, false, .sys, .num 0⟩]⟩]

/-- Register words of HLTH. -/
def rowsHlth : List RegRow := rowsHlth1 ++ rowsHlth2

end Sys2Proof.Machine
end

