-- ==== Sys2Proof/Machine/Store.lean ====
section
/-!
DEFINITION. Sparse stores of words in one canonical form: addresses strictly rising, no entry equal to 0, and 0 read at
every address not listed. The registers, the byte memories and the STS store all use it.
-/
namespace Sys2Proof.Machine

/-- A sparse store of `w`-bit cells keyed by address. -/
abbrev Store (w : Nat) := List (Nat × BitVec w)

/-- The cell at address `a`; 0 where none is listed. -/
def Store.get {w : Nat} (m : Store w) (a : Nat) : BitVec w :=
  match m with
  | [] => 0
  | (b, v) :: t => if b = a then v else Store.get t a

/-- The store without any entry at `a`. -/
def Store.erase {w : Nat} (m : Store w) (a : Nat) : Store w :=
  match m with
  | [] => []
  | (b, v) :: t => if b = a then Store.erase t a else (b, v) :: Store.erase t a

/-- The store with an entry placed before the first higher address. -/
def Store.insert {w : Nat} (m : Store w) (a : Nat) (v : BitVec w) : Store w :=
  match m with
  | [] => [(a, v)]
  | (b, u) :: t => if a < b then (a, v) :: (b, u) :: t else (b, u) :: Store.insert t a v

/-- Writes the cell at `a`; writing 0 removes its entry. -/
def Store.put {w : Nat} (m : Store w) (a : Nat) (v : BitVec w) : Store w :=
  if v = 0 then Store.erase m a else Store.insert (Store.erase m a) a v

/-- Every address listed is above `lo`, the addresses rise strictly, and no cell listed is 0. -/
def Store.wfFrom {w : Nat} (lo : Option Nat) (m : Store w) : Bool :=
  match m with
  | [] => true
  | (b, v) :: t => (match lo with | none => true | some l => decide (l < b)) && decide (v ≠ 0)
      && Store.wfFrom (some b) t

/-- The canonical form of a store. -/
def Store.wf {w : Nat} (m : Store w) : Bool := Store.wfFrom none m

/-- The store without the entries of addresses `lo` to `lo + n - 1`. -/
def Store.clear {w : Nat} (m : Store w) (lo n : Nat) : Store w :=
  m.filter fun e => decide (e.1 < lo) || decide (lo + n ≤ e.1)

/-- The store with every cell changed by `f`, cells that become 0 dropped. -/
def Store.mapCells {w : Nat} (m : Store w) (f : Nat → BitVec w → BitVec w) : Store w :=
  (m.map fun e => (e.1, f e.1 e.2)).filter fun e => decide (e.2 ≠ 0)

/-- The entries of addresses `lo` to `lo + n - 1`, moved down by `lo`. -/
def Store.window {w : Nat} (m : Store w) (lo n : Nat) : Store w :=
  (m.filter fun e => decide (lo ≤ e.1) && decide (e.1 < lo + n)).map fun e => (e.1 - lo, e.2)

/-- Writes the cells of a list at `a`, `a + 1`, … -/
def Store.putList {w : Nat} (m : Store w) (a : Nat) (l : List (BitVec w)) : Store w :=
  match l with
  | [] => m
  | v :: t => Store.putList (Store.put m a v) (a + 1) t

/-- The `n` cells from `a` upwards. -/
def Store.getList {w : Nat} (m : Store w) (a n : Nat) : List (BitVec w) :=
  (List.range n).map fun k => Store.get m (a + k)

/-- Copies `n` cells of `src` at `from_` over those of `dst` at `to`. -/
def Store.copy {w : Nat} (dst src : Store w) (dest from_ n : Nat) : Store w :=
  ((Store.window src from_ n).foldl (fun d e => Store.put d (dest + e.1) e.2) (Store.clear dst dest n))

/-- A byte memory. -/
abbrev Mem := Store 8

/-- The little-endian word at byte address `a` (R4). -/
def Mem.word (m : Mem) (a : Nat) : Word :=
  (Store.get m (a + 3) ++ Store.get m (a + 2) ++ Store.get m (a + 1) ++ Store.get m a : BitVec 32)

/-- The little-endian half-word at byte address `a` (R4). -/
def Mem.half (m : Mem) (a : Nat) : BitVec 16 :=
  (Store.get m (a + 1) ++ Store.get m a : BitVec 16)

/-- Writes a little-endian word at byte address `a` (R4). -/
def Mem.putWord (m : Mem) (a : Nat) (v : Word) : Mem :=
  Store.put (Store.put (Store.put (Store.put m a (v.extractLsb' 0 8)) (a + 1) (v.extractLsb' 8 8))
    (a + 2) (v.extractLsb' 16 8)) (a + 3) (v.extractLsb' 24 8)

/-- Writes a little-endian half-word at byte address `a` (R4). -/
def Mem.putHalf (m : Mem) (a : Nat) (v : BitVec 16) : Mem :=
  Store.put (Store.put m a (v.extractLsb' 0 8)) (a + 1) (v.extractLsb' 8 8)

/-- The `n`-byte little-endian number at byte address `a` (R4). -/
def Mem.natLe (m : Mem) (a n : Nat) : Nat :=
  match n with
  | 0 => 0
  | k + 1 => (Store.get m a).toNat + 256 * Mem.natLe m (a + 1) k

end Sys2Proof.Machine
end

