-- ==== Sys2Proof/Machine/RegMap.lean ====
section
/-!
DEFINITION. The register map as one function of the address, and the reset of a range of registers (R7, R29).
-/
namespace Sys2Proof.Machine

/-- The register rows of a 64 KiB window (R29). -/
def windowRows (w : Nat) : List RegRow :=
  match w with
  | 0x00 => rowsSys
  | 0x01 => rowsRst
  | 0x02 => rowsPwr
  | 0x03 => rowsClk
  | 0x04 => rowsPoll
  | 0x05 => rowsLf
  | 0x06 => rowsUhf
  | 0x07 => rowsUwb
  | 0x08 => rowsSolv
  | 0x09 => rowsVerd
  | 0x0A => rowsSess
  | 0x0B => rowsTally
  | 0x0C => rowsCiph
  | 0x0D => rowsKeys
  | 0x0E => rowsRng
  | 0x0F => rowsLoft
  | 0x10 => rowsGroom
  | 0x11 => rowsYard
  | 0x12 => rowsHost
  | 0x13 => rowsHlth
  | _ => []

/-- The register row that holds a host address, if one does. -/
def findRow (a : Nat) : Option RegRow := (windowRows (a / 0x1_0000)).find? fun r => r.hit a

/-- The number a reset gives a field; plan and fuse fields read 0 until the plan or the trims are loaded (R7). -/
def resetValue (f : FRow) : Nat := match f.rst with | .num v => v | _ => 0

/-- A word with the chosen fields at their reset values. -/
def resetWord (fs : List FRow) (p : FRow → Bool) (w : Word) : Word :=
  fs.foldl (fun a f => if p f then putBits a f.lo f.len (resetValue f) else a) w

/-- The addresses of a register array. -/
def rowAddrs (base : Nat) (dims : List (Nat × Nat)) : List Nat :=
  match dims with
  | [] => [base]
  | (stride, count) :: ds => (List.range count).flatMap fun i => rowAddrs (base + stride * i) ds

/-- Whether a row has a field that resets to a number other than 0. -/
def hasReset (r : RegRow) (p : FRow → Bool) : Bool := r.fields.any fun f => p f && resetValue f != 0

/-- The registers from `lo`, `n` bytes, with the chosen fields at their reset values. -/
def resetRange (m : Store 32) (lo n : Nat) (p : FRow → Bool) : Store 32 :=
  let inR := fun a => decide (lo ≤ a) && decide (a < lo + n)
  let m := Store.mapCells m fun a w =>
    if inR a then
      match findRow a with
      | some r => resetWord r.fields p w
      | none => w
    else w
  let w0 := lo / 0x1_0000
  let w1 := (lo + n + 0xFFFF) / 0x1_0000
  (List.range (w1 - w0)).foldl
    (fun m i =>
      ((windowRows (w0 + i)).filter fun r => hasReset r p).foldl
        (fun m r =>
          ((rowAddrs r.base r.dims).filter inR).foldl
            (fun m a => Store.put m a (resetWord r.fields p (Store.get m a))) m) m) m

/-- The fields a chip reset restores: all but those of scope "por only" (R7, R421). -/
def chipScope (f : FRow) : Bool := f.scope != .por

/-- The fields a block reset restores (R7, R437). -/
def blkScope (f : FRow) : Bool := f.scope == .blk

end Sys2Proof.Machine
end

