-- ==== Sys2Proof/Machine/State.lean ====
section
/-!
DEFINITION. The state of the block: every register word in one store keyed by host address, and what the spec gives the
machine without a register, grouped by block. Field defaults are the values right after reset.
-/
namespace Sys2Proof.Machine

/-- A derived key in the tree (R249 to R254). `parent` is 63 for a root; `limE` the limit exponent; `sub` whether the
subkey block of the first CMAC was counted; `path` and `ctx` feed the fingerprint. -/
structure KeySlot where
  live : Bool := false
  tag : Nat := 0
  key : Nat := 0
  k256 : Bool := false
  depth : Nat := 0
  owner : Nat := 0
  id : Nat := 0
  parent : Nat := 63
  uses : Nat := 0
  limE : Nat := 20
  sub : Bool := false
  path : List Nat := []
  ctx : List Byte := []
  genPos : Nat := 0xFF
deriving DecidableEq, Repr

/-- A retirement record (R254). -/
structure TombRec where
  print : BitVec 64
  gen : Option Nat
deriving DecidableEq, Repr

/-- A root slot of the antifuse (R258). -/
structure RootSlot where
  key : Nat := 0
  programmed : Bool := false
  marker : Bool := false
deriving DecidableEq, Repr

/-- A life-cycle transition in progress (R260): the command's target state. -/
inductive LcTarget where
  | field
  | shop
  | retired
deriving DecidableEq, Repr

/-- The key tree, the roots and the export path (R247 to R266). `boot` is whether the bootstrap export of R264 is done. -/
structure KeysState where
  roots : List RootSlot := [{}, {}, {}, {}, {}]
  slots : List KeySlot := List.replicate 48 {}
  tombs : List TombRec := []
  kt : Nat := 0
  ktMask : Nat := 0
  boot : Bool := false
  lcPend : Option LcTarget := none
  lcWait : Bool := false
  woutRead : Nat := 0
  exits : Nat := 0
  rootBuf : List Nat := []
deriving DecidableEq, Repr

/-- Who competes for the bridle cores (R241): SEAL for a sealed region (0 to 3), for the plan (4), and for the install on an
engine (8 and up); `exp` is an export (R263). -/
inductive KeyUser where
  | ech (e : Nat)
  | der (e : Nat)
  | verd
  | hauth
  | rcode
  | seal (k : Nat)
  | exp
deriving DecidableEq, Repr

/-- An operation on the cores: its requester, the blocks still to run, the key slot it depends on (48 for a root or
none), the latched inputs, and the status it must end with at its next block boundary. -/
structure CoreOp where
  who : KeyUser
  left : Nat
  slot : Nat := 48
  kind : Nat := 0
  input : Nat := 0
  ctr : Nat := 0
  derId : Nat := 0
  derCtx : List Byte := []
  l256 : Bool := false
  limE : Nat := 20
  genPos : Nat := 0xFF
  ending : Option Nat := none
deriving DecidableEq, Repr

/-- The bridle cores and channels (R238 to R246): operations in arrival order, what each core runs, the blocks left in
each core's pool, the engine channel last served, the key slot of HAUTH, RCODE, SEAL for
plans and SEAL for the Loft, the operations of hardware users that ended without a result not yet
taken, and the requesters that a switch-off cuts. -/
structure CiphState where
  ops : List CoreOp := []
  cores : List (Option KeyUser) := [none, none, none, none]
  pools : List Nat := [0, 0, 0, 0]
  rr : Nat := 7
  pch : List (Option Nat) := [none, none, none, none]
  ended : List (KeyUser × Nat) := []
  cut : List KeyUser := []
deriving DecidableEq, Repr

/-- The two health tests of R269: the run of equal raw bits and its level, and the window's first bit, its length so far and how
often the first bit occurred. -/
structure HealthTest where
  last : Bool := false
  run : Nat := 0
  first : Bool := false
  pos : Nat := 0
  cnt : Nat := 0
deriving DecidableEq, Repr

/-- The noise source and expander (R269 to R281): oscillators running, start-up test passed, expander instantiated, its
state, the seed buffer, the queue, a forced reseed pending, requests held in arrival order with "blocked at the 2^20 limit", the
port check's test key, the engine port last served, the health tests, and whether a plan has applied since the start (R281). -/
structure RngState where
  osc : Bool := true
  tested : Bool := false
  inst : Bool := false
  drbg : DrbgState := {}
  seed : Option Nat := none
  queue : List Nat := []
  forced : Bool := false
  held : List (RngUser × Bool) := []
  testKey : Nat := 0
  rr : Nat := 7
  ht : HealthTest := {}
  planned : Bool := false
deriving DecidableEq, Repr

/-- The store record of a Loft copy (R288). -/
structure StoreRec where
  result : Nat := 0
  torn : Bool := false
  page : Nat := 0
  ptr : Nat := 0
  gatherLost : Bool := false
  vpf : Nat := 0
deriving DecidableEq, Repr

/-- One shadow copy: its pages, the generation of its start word, and the commit word when it is intact (R288). -/
structure LoftCopy where
  mem : Mem := []
  start : Nat := 0
  commit : Option (Nat × StoreRec) := none
deriving DecidableEq, Repr

/-- A gather (R285): its owner (0 host, 1 to 8 engines, 9 plan loader), its offset, its words, whether its commit fell
due and waits. -/
structure Gather where
  owner : Nat
  start : Nat
  words : List Word
  waiting : Bool := false
deriving DecidableEq, Repr

/-- A store in progress (R289): power-fail or commanded, begun, refused under gen_end, its generation, whether it writes
copy B, and VHOLD at the trip. -/
structure StoreRun where
  pf : Bool := false
  begun : Bool := false
  refused : Bool := false
  gnew : Nat := 0
  toB : Bool := false
  vpf : Nat := 0
deriving DecidableEq, Repr

/-- The Loft (R282 to R304): the front, the copies, the ring store, the open gather, the commit running, the store running or
about to start, what a power fail recorded, requests held by recall, ring slots being written with their values, kept
TCTR values that wait for the commit to end (R35), and the copy being recalled. `due` is a gather whose commit waits while its
owner fills the next one (R285); `frontWait` holds writes of the sealing logic and the loader that wait for a store to end
(R287): offset, length and new content; `waitNow` and `waitNext` name the requesters that wait for the end of the store running
or asked for, and of the one pending (R289, R290). -/
structure LoftState where
  front : Mem := []
  copyA : LoftCopy := {}
  copyB : LoftCopy := {}
  rings : Mem := []
  gather : Option Gather := none
  commit : Option Gather := none
  store : Option StoreRun := none
  torn : Option (Nat × Nat) := none
  lost : Bool := false
  pf : Bool := false
  heldReq : Bool := false
  ringWrites : List (Nat × Nat) := []
  tctrWait : List (Nat × Word) := []
  due : Option Gather := none
  frontWait : List (Nat × Nat × Mem) := []
  waitNow : List Nat := []
  waitNext : List Nat := []
  recallFrom : Option Bool := none
deriving DecidableEq, Repr

/-- The phase of a power domain (R403 to R405). -/
inductive DomPhase where
  | off
  | switchOn
  | waitClock
  | on
  | switchOff
deriving DecidableEq, Repr

/-- A power domain: its phase and the request held for it (R405). -/
structure DomState where
  phase : DomPhase := .off
  held : Bool := false
deriving DecidableEq, Repr

/-- The manger and the clock checks (R409 to R418): queued requests in arrival order with "has a deadline", the last
VDD33 measurement above budget, and the bad windows in a row of each clock domain. -/
structure ManState where
  queue : List (Nat × Bool) := []
  above : Bool := false
  badWin : List Nat := List.replicate 12 0
deriving DecidableEq, Repr

/-- A stall descriptor of the running plan (R343). -/
structure StallDesc where
  index : Nat
  plane : Nat
  engine : Nat
  policy : Nat
  rmax : Nat
  essential : Bool
  wd : Nat
  check : Bool
  entry : Nat
  imgOff : Nat
  imgLen : Nat
  datOff : Nat
  datLen : Nat
  itag : Nat
deriving DecidableEq, Repr

/-- A feed window (R341): base, size in 4 KiB units, access. -/
structure FeedWin where
  base : Nat := 0
  size : Nat := 0
  access : Nat := 0
deriving DecidableEq, Repr

/-- A route record (R341). -/
structure Route where
  rd : Nat := 0
  wr : Nat := 0
  ev : List Nat := []
  evTally : Nat := 0
  feed : List FeedWin := []
deriving DecidableEq, Repr

/-- An overlay entry (R355): host address, field mask, value. -/
structure OvlEntry where
  addr : Nat
  mask : Nat
  value : Nat
deriving DecidableEq, Repr

/-- A stall install that waits or runs (R326 to R328): the stall, its engine, and the engine it leaves. -/
structure Install where
  stall : Nat
  engine : Nat
  from_ : Option Nat := none
  running : Bool := false
  deferred : Bool := false
  startup : Bool := false
deriving DecidableEq, Repr

/-- What a plan load works on (R350): from the staging area or the plan region, at start-up, and whether its first pass
has ended well. -/
structure PlanLoad where
  staged : Bool
  startup : Bool
  ready : Bool := false
deriving DecidableEq, Repr

/-- The plan loader and yard (R331 to R356): the running plan's stalls, routes, enrolment record, rings and references; the
plan's values of the registers that overlays name (`planRegs`), installs that wait or run, moves and reloads requested
(engine, target; none the lowest IDLE), the overlay handed over, the masks of the overlay in force (`ovlOld`), the load in
progress, whether the Loft plan is ignored (R351), a ring 0 value due after the store, whether an apply waits for its
installs, and whether no plan has applied since the last chip reset, PD_CORE reset or wake (R220). -/
structure YardState where
  stalls : List StallDesc := []
  routes : List Route := List.replicate 15 {}
  enrolMap : Nat := 0
  hpAdmit : Nat := 0
  groups : Nat := 0
  tctrOff : Nat := 0
  genRing : Nat := 0
  failRing : Nat := 0
  refs : List (Nat × Nat) := []
  installs : List Install := []
  overlay : Option (List OvlEntry) := none
  load : Option PlanLoad := none
  ignoreLoft : Bool := false
  applied : Bool := false
  ringDue : Bool := false
  planRegs : Store 32 := []
  ovlOld : List (Nat × Nat) := []
  moves : List (Nat × Option Nat) := []
  installing : Bool := false
  firstApply : Bool := true
deriving DecidableEq, Repr

/-- A groom engine's state beyond its registers (R305 to R309, R316 to R321). `x` holds x1 to x15; `cyc8` counts eighths
of CORE cycles; `waitMask` and `waitRd` are the mask and the destination of a WAIT in progress. -/
structure Engine where
  x : Store 32 := []
  pc : Word := 0
  ie : Bool := false
  sat : Bool := false
  epc : Word := 0
  cause : Nat := 0
  evpend : Nat := 0
  evmask : Nat := 0
  ivec : Word := 0
  cyc8 : Nat := 0
  cycleh : Word := 0
  tcmp : Word := 0
  dbval : Word := 0
  imem : Mem := []
  dmem : Mem := []
  waitMask : Nat := 0
  waitRd : Nat := 0
deriving DecidableEq, Repr

/-- An answer of the host link (R375, R383): link byte, status, done count, data words, tag. -/
structure HostAnswer where
  link : Byte
  status : Nat
  done : Nat
  words : List Word
  tag : Option Word
deriving DecidableEq, Repr

/-- A host request whose tag HAUTH checks (R382 to R384): its op, whether it is a bind request, and the sequence number it
is checked under. -/
structure HostCheck where
  op : Nat
  req : HostReq
  bind : Bool
  seq : Nat
deriving DecidableEq, Repr

/-- The host link beyond its registers (R374 to R400): the request whose tag is being checked, the requests received that
wait for it (R390, R395), the last answer, a requested host reset, the IRQ ball released for 1 µs, the enabled IRQ bits the
last notification covered, the last notification sent, and an SPI frame open. -/
structure HostState where
  checking : Option HostCheck := none
  queue : List (Nat × HostReq × Nat) := []
  answer : Option HostAnswer := none
  resetPend : Bool := false
  irqReleased : Bool := false
  ntfSeen : Nat := 0
  note : List Byte := []
  frame : Bool := false
deriving DecidableEq, Repr

/-- A tally counter beyond its registers (R360, R367 to R371): waiting events and capture triggers, the live capture, a
capture no read has returned, and the compare value in force. -/
structure TallyCtr where
  evq : Nat := 0
  capq : Nat := 0
  live : Nat := 0
  unread : Bool := false
  cmp : Nat := 0
deriving DecidableEq, Repr

/-- A session request (R202): source 0 to 18, kind, requested set, and the nonce latched for a START (R204). -/
structure SessReq where
  source : Nat
  kind : Nat
  mask : Nat
  mnonce : Nat := 0
deriving DecidableEq, Repr

/-- A START decision that waits for its release code (R208, R217). -/
structure RcodeReq where
  gen : Nat
  idx : Nat
  slot : Nat
  paddock : Nat
  seq : Nat
  source : Nat
  code : Nat
deriving DecidableEq, Repr

/-- The session manager beyond its registers (R202 to R222). `genWait` is whether gen_ready waits for a store (R220); `presCheck` is the deferred check of R65: 0 none, 1 outstanding,
2 passed. -/
structure SessState where
  cur : Option SessReq := none
  trigs : List SessReq := []
  rcode : Option RcodeReq := none
  entryMs : Nat := 0
  startMs : Nat := 0
  slkB : Bool := false
  aRun : Nat := 0
  bRun : Nat := 0
  genWait : Bool := false
  presCheck : Nat := 0
deriving DecidableEq, Repr

/-- Where a poll burst stands (R226 to R229). -/
inductive BurstPhase where
  | idle
  | delayed
  | due
  | wakeP
  | listen
deriving DecidableEq, Repr

/-- The poll ladder, the burst logic and the wake inputs (R223 to R236). `due` and `dwellEnd` are AON timestamps;
`wakeTrigs` the touch, door and host events held until the plan has loaded. -/
structure PollState where
  due : Nat := 0
  dwellEnd : Nat := 0
  burst : BurstPhase := .idle
  hsRun : List Nat := List.replicate 8 0
  dsRun : List Nat := List.replicate 8 0
  sleepReq : Bool := false
  wakeTrigs : List (Nat × Bool) := []
  wakeDue : Bool := false
  planRan : Bool := false
  burstGroup : Nat := 0
deriving DecidableEq, Repr

/-- The reset controller beyond its registers (R421 to R436): nRST held low, a wake from STANDBY in progress, the release
position, a release gap running, the supplies in brown-out, the strap read, and whether the next trim load is skipped
(R432). -/
structure RstState where
  nrstLow : Bool := false
  wake : Bool := false
  pos : Nat := 0
  gap : Bool := false
  bor33 : Bool := false
  bor18 : Bool := false
  strapDone : Bool := false
  trimSkip : Bool := false
deriving DecidableEq, Repr

/-- Why a step would stop: no meaning of this model raises one. -/
inductive Fault where
  /-- Raised by no meaning: kept for the interface. Safe: a run that stops proves less. -/
  | illFormed
deriving DecidableEq, Repr

/-- Why a command would be refused. -/
inductive Refusal where
  /-- An arm of `exec` that has no meaning yet answers it. Safe: nothing is claimed of the command. -/
  | notModelled (mnemonic : String)
deriving DecidableEq, Repr

/-- What the synthesiser is doing (R80, R93, R95, R228). `wait` is an owner that has not begun to drive; `sweep` the time
between driven units of a sweep; `listen` the listen of a poll burst. -/
inductive LfStage where
  | idle
  | wait
  | wake
  | sweep
  | pattern
  | frame
  | hpCharge
  | hpFrame
  | hpListen
  | hpReply
  | calStep
  | calEnv
  | listen
deriving DecidableEq, Repr

/-- A transaction or hitching exchange that was started while an earlier one was still open, and follows it (R79): kind, the
session manager's start, and the index of a deferred check (R65). -/
structure NextTxn where
  hp : Bool := false
  kind : Nat := 1
  sess : Bool := false
  pres : Option Nat := none
deriving DecidableEq, Repr

/-- The synthesiser and scheduler beyond their registers (R71 to R97): accumulator, stage, WAKE byte, sweep, the latched
vector, the grant scale and the factor of R75 as a quotient, what the unit in progress met, whether C is loaded, the code work
in progress must end with at its boundary, what waits, the bytes of the frame being sent, its half-bits with the LFS cycles
since it began (R85), the antiphase drive after a key-off edge with its amplitudes and the accumulator steps left of it, a VDRV
fault not yet recovered (R90), and the mean current and the sense of load at the hitching post (R96). -/
structure LfState where
  acc : Word := 0
  stage : LfStage := .idle
  w : Nat := 0
  base : Nat := 0
  npat : Nat := 0
  k : Nat := 0
  nextJ : Nat := 0
  aEff : List Nat := List.replicate 12 0
  pEff : List Nat := List.replicate 12 0
  gs : Nat := 32768
  fitM : Nat := 255
  clipped : Bool := false
  unitTMin : Nat := 16
  unitQuiet : Bool := true
  unitOver : Bool := false
  unitFault : Nat := 0
  unitLost : Bool := false
  cLoaded : Bool := false
  cLatched : Nat := 0
  cut : Option Nat := none
  sweepCut : Bool := false
  noChal : Bool := false
  calAer : Nat := 0
  calMask : Nat := 0
  txnWait : Bool := false
  gap : Bool := false
  envDone : Bool := false
  pollWait : Bool := false
  frame : List Byte := []
  keys : List Bool := []
  keyCyc : Nat := 0
  quenchAmp : List Nat := List.replicate 12 0
  quenchLeft : Nat := 0
  vdrvBad : Bool := false
  hpMean : Nat := 0
  hpLow : Bool := false
  next : Option NextTxn := none
deriving DecidableEq, Repr

/-- The receivers and the frame assembler beyond their registers (R109 to R117): the quarantine bytes, the poll latch, and
which receivers end the later placements of the transaction RX_CUT. -/
structure UhfState where
  quar : Mem := []
  pollLatch : Option (List Byte × Nat) := none
  cut0 : Bool := false
  cut1 : Bool := false
  open_ : List Placement := []
  sync : List Placement := []
deriving DecidableEq, Repr

/-- What one port made of a received frame (R134, R135). -/
structure PortRes where
  heard : Bool := false
  ok : Bool := false
  split : Bool := false
  qFail : Bool := false
  raw : Stmp := 0
  fp : Nat := 0
  pk : Nat := 0
  q : Nat := 0
  re : Int := 0
  im : Int := 0
deriving DecidableEq, Repr

/-- An exchange in progress (R127): its slot, POLL capture, RR1 results, cfo, FINAL capture, the status it must end with after the
frame in progress, the grid instant its last transmission was scheduled at (R128) and the PSDU it carried in SP1 (R121). -/
structure UwbExch where
  slot : Nat
  poll : Stmp
  rr1 : List PortRes := []
  rr1Done : Bool := false
  cfo : Nat := 0
  fin : Option Stmp := none
  ending : Option Nat := none
  sched : Stmp := 0
  psdu : List Byte := []
deriving DecidableEq, Repr

/-- The ranging transceiver beyond its registers (R122 to R146): the counter, the STS store by slot, the exchange in progress,
the status later windows end with, an interpolator calibration on command, a port check running, the correction tables by
channel, and tables that wait for a quiet point (R125). -/
structure UwbState where
  stmp : Stmp := 0
  sts : List (List Nat) := List.replicate 8 []
  exch : Option UwbExch := none
  later : Option Nat := none
  tscalRun : Bool := false
  calRun : Bool := false
  tables : List (List Nat) := []
  tablesNext : Option (List (List Nat)) := none
deriving DecidableEq, Repr

/-- What the frame assembler and the verdict latch hold of one slot (R56, R179, R190): tracked, index, TCTR, the outcome of
its ACK and report placements with the STATUS code as it acts (R50), the status of its response placement, the compare
results, the outcome of its exchange, its expected frames, a precomputation that ended without them (`preFail`), and an abort
that met the forming of its code (`late`). -/
structure Slot where
  tracked : Bool := false
  idx : Nat := 0
  tctr : Nat := 0
  ackOver : Bool := false
  collided : Bool := false
  repOver : Bool := false
  repField : Bool := false
  repBad : Bool := false
  status : Nat := 0
  rsp : Option Nat := none
  contentBad : Bool := false
  err : Option Int := none
  tof : Option Int := none
  uwbOver : Bool := false
  rstat : Nat := 0
  winOver : Bool := false
  ready : Bool := false
  expect : List (List Byte) := []
  published : Bool := false
  preFail : Bool := false
  late : Bool := false
deriving DecidableEq, Repr

/-- The open transaction or hitching exchange (R56, R179 to R198). `sess` is whether the session manager started it, `pres`
the index whose deferred check of R65 is outstanding, `woke` that WAKE was sent, `wakeEnd` that WAKE_END was captured,
`preface` that the CHALLENGE preface instant has passed, `lfOver` that LF work ended without a complete CHALLENGE, `env`, `bound`
and `k` the envelope delay, the corrected T_END and the k that fix the bounds of R187, `order` the order of acceptance, `hpExpect` the expected replies of the hitching post by index. -/
structure TxnState where
  open_ : Bool := false
  hp : Bool := false
  kind : Nat := 0
  sess : Bool := false
  pres : Option Nat := none
  woke : Bool := false
  wakeEnd : Bool := false
  ackEnd : Bool := false
  preface : Bool := false
  lfOver : Bool := false
  tEnd : Bool := false
  tsLost : Bool := false
  env : Nat := 0
  bound : Stmp := 0
  k : Nat := 0
  order : List Nat := []
  slots : List Slot := List.replicate 8 {}
  hpExpect : List (Nat × List Byte) := []
deriving DecidableEq, Repr

/-- The inputs of a fix (R150, R157, R159, R160): each usable pattern period with the aerial currents as (aerial, amplitude,
phase) and the measured level in Q8.8 (none for a floor period); path sums by port; angles by pair. -/
structure FixIn where
  pats : List (List (Nat × Nat × Nat) × Option Int) := []
  ranges : List (Nat × Int) := []
  angles : List (Nat × Int) := []
deriving DecidableEq, Repr

/-- A fit in progress (R165, R166): the kept point in sixteenths of a millimetre, cost in Q16.16, damping in 1/1024,
iterations of this start and of both, the seed's paddock, the second start's seed, the result of the first start, and how
it stopped. -/
structure Fit where
  slot : Nat
  input : FixIn := {}
  noField : Bool := false
  p : List Int := [0, 0, 0]
  c : Nat := 0
  lam : Nat := 64
  it : Nat := 0
  iters : Nat := 0
  seedPad : Nat := 0
  second : Option (List Int × Nat × Nat) := none
  first : Option (List Int × Nat × Nat × Nat) := none
  stop : Nat := 0
  ended : Bool := false
  fstat : Nat := 3
deriving DecidableEq, Repr

/-- The solver beyond its registers (R152, R174 to R178): the model store, queued slots in order, the fit in progress,
whether a parity error dropped the field term of this transaction, and the slots whose deadline has passed. -/
structure SolvState where
  model : Mem := []
  queue : List Nat := []
  fit : Option Fit := none
  noField : Bool := false
  late : List Nat := []
deriving DecidableEq, Repr

/-- The health monitor beyond its registers (R438 to R449): crystal samples as quotients in 0.1 ppm, a port check completed
since the plan was loaded, the capacitance measured in step 4, whether the step of the pass is under way, whether the pass
ran out of time, a port check completed in this pass, the tamper inputs' run lengths, the mesh generators and the
temperature runs. -/
structure HlthState where
  samples : List (Int × Nat) := []
  portChecked : Bool := false
  cEst : Option Nat := none
  busy : Bool := false
  part : Bool := false
  portPass : Bool := false
  tmpRun : List Nat := [0, 0, 0, 0]
  lfsr : List Nat := [0, 0]
  cold : Nat := 0
  hot : Nat := 0
deriving DecidableEq, Repr

/-- The test port and the balls it drives (R430, R480 to R482): the instruction register, the boundary register, and which
balls of R482's order and which aerials' ball pairs are in their fuse-mapped state. -/
structure TapState where
  ir : Nat := 2
  cells : BitVec 84 := 0
  fused : Nat := 2 ^ 28 - 1
  aer : Nat := 2 ^ 12 - 1
deriving DecidableEq, Repr

/-- The state of the block. -/
structure State where
  regs : Store 32 := []
  fuses : Store 32 := []
  fuseSerial : BitVec 64 := 0
  fuseKey : BitVec 256 := 0
  aonTs : Nat := 0
  msAcc : Nat := 0
  ctr : Nat := 0
  keys : KeysState := {}
  ciph : CiphState := {}
  rng : RngState := {}
  loft : LoftState := {}
  doms : List DomState := { phase := .on } :: List.replicate 9 {}
  man : ManState := {}
  yard : YardState := {}
  feed : Mem := []
  eng : List Engine := List.replicate 8 {}
  tally : List TallyCtr := List.replicate 16 {}
  sess : SessState := {}
  poll : PollState := {}
  rst : RstState := {}
  host : HostState := {}
  lf : LfState := {}
  uhf : UhfState := {}
  uwb : UwbState := {}
  txn : TxnState := {}
  solv : SolvState := {}
  hlth : HlthState := {}
  tap : TapState := {}
  verdPulse : Bool := false
  pending : List Instr := []
deriving DecidableEq, Repr

/-- The fuse array of the part: the noise-test cutoffs of R269 and the division ratios of R406; other trims 0 (log
entry 4). -/
def fuseArray : Store 32 :=
  [(0x03_0020, 0x0004_0014), (0x03_0024, 0x0018_000A), (0x03_0028, 0x0D28_C11B), (0x03_002C, 0x0210_0034),
   (0x0E_0018, 0x0003_2029)]

/-- The registers right after POR: every field at its Reset value (R7); RST_CAUSE.por (R421), RNG_CTRL.en (R281),
LOFT_STAT.state RECALL, the blocks on the AON clock held (R427), and the first farrier due time (R441). -/
def resetRegs : Store 32 :=
  let put := fun (m : Store 32) (f : Fld) (v : Nat) => Store.put m f.addr (putBits (Store.get m f.addr) f.lo f.len v)
  [(F.RST_CAUSE.por, 1), (F.RST_STAT.aon_wait, 1), (F.RNG_CTRL.en, 1), (F.LOFT_STAT.state, 1),
    (F.HLTH_NEXT_LO.due_lo, 7 * 2831155200), (F.HLTH_NEXT_HI.due_hi, 7 * 2831155200 / 2 ^ 32)].foldl
    (fun m e => put m e.1 e.2) (resetRange [] 0 0x14_0000 fun _ => true)

/-- The machine right after POR, with nothing loaded and nothing waiting. -/
def State.reset : State := { regs := resetRegs, fuses := fuseArray }

end Sys2Proof.Machine
end

