-- ==== Sys2Proof/Machine/Ops.lean ====
section
/-!
DEFINITION. The named operations every family shares: register fields, counters, events and interrupt requests, the
engines' event lines, the tally queues and free values.
-/
namespace Sys2Proof.Machine

/-- A host address's register word. -/
def State.word (s : State) (a : Nat) : Word := Store.get s.regs a

/-- Writes a whole register word. -/
def State.setWord (s : State) (a : Nat) (v : Word) : State := { s with regs := Store.put s.regs a v }

/-- The value of a register field. -/
def State.get (s : State) (f : Fld) : Nat := bitsOf (s.word f.addr) f.lo f.len

/-- Sets a register field to the low bits of `v`. -/
def State.set (s : State) (f : Fld) (v : Nat) : State :=
  s.setWord f.addr (putBits (s.word f.addr) f.lo f.len v)

/-- Whether a field is not 0. -/
def State.flag (s : State) (f : Fld) : Bool := s.get f != 0

/-- Sets a one-bit field from a Bool. -/
def State.put (s : State) (f : Fld) (b : Bool) : State := s.set f (b2n b)

/-- Sets several fields in order. -/
def State.sets (s : State) (l : List (Fld × Nat)) : State := l.foldl (fun t e => t.set e.1 e.2) s

/-- Counts a field up, stopping at its largest value. -/
def State.bump (s : State) (f : Fld) : State := s.set f (satInc (2 ^ f.len - 1) (s.get f))

/-- Counts a field up modulo its width. -/
def State.wrapInc (s : State) (f : Fld) : State := s.set f (s.get f + 1)

/-- Bit `i` of a field. -/
def State.bitAt (s : State) (f : Fld) (i : Nat) : Bool := bit (s.get f) i

/-- Sets or clears bit `i` of a field. -/
def State.putBit (s : State) (f : Fld) (i : Nat) (b : Bool) : State :=
  s.set f (if b then setBit (s.get f) i else clrBit (s.get f) i)

/-- Clears `n` register words from `a` upwards. -/
def State.zero (s : State) (a n : Nat) : State := { s with regs := Store.clear s.regs a (4 * n) }

/-- Draws a fresh index for the free values of Config (log entry 5). -/
def State.fresh (s : State) : Nat × State := (s.ctr, { s with ctr := s.ctr + 1 })

/-- Changes one engine. -/
def State.modEng (s : State) (e : Nat) (f : Engine → Engine) : State := { s with eng := s.eng.modify e f }

/-- One engine. -/
def State.engine (s : State) (e : Nat) : Engine := s.eng.getD e {}

/-- Changes the open transaction. -/
def State.modTxn (s : State) (f : TxnState → TxnState) : State := { s with txn := f s.txn }

/-- Changes one slot of the open transaction. -/
def State.modSlotT (s : State) (i : Nat) (f : Slot → Slot) : State :=
  { s with txn := { s.txn with slots := s.txn.slots.modify i f } }

/-- One slot of the open transaction. -/
def State.slotT (s : State) (i : Nat) : Slot := s.txn.slots.getD i {}

/-- A rising edge on an event line sets its EVPEND bit (R316). -/
def raiseLine (s : State) (e line : Nat) : State := s.modEng e fun g => { g with evpend := setBit g.evpend line }

/-- The engine that runs stall `q`, if one does. -/
def stallEngine (s : State) (q : Nat) : Option Nat :=
  (List.range 8).find? fun e => s.get (F.GROOM_STAT.stall e) == q

/-- The event lines 5 to 15 of stall `q` that the route gives source `code`. -/
def routedLines (s : State) (q code : Nat) : List Nat :=
  (List.range 11).filterMap fun j =>
    if (s.yard.routes.getD q {}).ev.getD j 0 = code then some (5 + j) else none

/-- A routed source pulses: the lines that the plan gives it rise on every engine that runs a stall (R316). -/
def raiseSource (s : State) (code : Nat) : State :=
  (List.range 8).foldl
    (fun t e =>
      let q := t.get (F.GROOM_STAT.stall e)
      if q < 15 then (routedLines t q code).foldl (fun u l => raiseLine u e l) t else t) s

/-- Source 0x12 for the stalls whose route names tally counter `n` (R372). -/
def raiseTallyMatch (s : State) (n : Nat) : State :=
  (List.range 8).foldl
    (fun t e =>
      let q := t.get (F.GROOM_STAT.stall e)
      if q < 15 ∧ (t.yard.routes.getD q {}).evTally = n then
        (routedLines t q 0x12).foldl (fun u l => raiseLine u e l) t
      else t) s

/-- The mode a counter acts in: a reserved clock, or mode 3 on T0, acts as OFF (R358, R361). -/
def tallyMode (s : State) (n : Nat) : Nat :=
  let m := s.get (F.TALLY_CFG.mode n)
  if 6 ≤ s.get (F.TALLY_CFG.clk n) ∨ (m = 3 ∧ n = 0) then 0 else m

/-- The base and the place of a counter that is a base or counts in one's chain; a fifth segment acts as OFF (R361). -/
def tallySeg (s : State) (n : Nat) : Option (Nat × Nat) :=
  match tallyMode s n with
  | 0 => none
  | 3 =>
    match n with
    | 0 => none
    | m + 1 =>
      match tallySeg s m with
      | some (b, k) => if k < 3 then some (b, k + 1) else none
      | none => none
  | _ => some (n, 0)

/-- Whether a counter is a higher segment of a chain. -/
def tallyHigher (s : State) (n : Nat) : Bool :=
  match tallySeg s n with
  | some (_, k) => k != 0
  | none => false

/-- One waiting event or capture trigger more, or a dropped one (R360). -/
def tallyPush (s : State) (n : Nat) (cap : Bool) : State :=
  let c := s.tally.getD n {}
  let level := if cap then c.capq else c.evq
  if level < 4 then
    let c' := if cap then { c with capq := c.capq + 1 } else { c with evq := c.evq + 1 }
    { s with tally := s.tally.set n c' }
  else s.putBit F.TALLY_LOST.lost n true

/-- An event of R359 reaches the queues of the counters that name it; the cap fields of higher segments are ignored
(R360, R367). -/
def tallyEvent (s : State) (code : Nat) : State :=
  (List.range 16).foldl
    (fun t n =>
      let t := if tallyMode t n = 2 ∧ t.get (F.TALLY_CFG.ev n) = code then tallyPush t n false else t
      if t.get (F.TALLY_CFG.cap n) = code ∧ ¬ tallyHigher t n then tallyPush t n true else t) s

/-- A fault reported to the health monitor sets its event bit and is counted (R447). -/
def healthFault (s : State) (f : Fld) : State := (s.set f 1).bump F.HLTH_CNT.faults

/-- A HLTH_DRIFT bit; one that becomes set raises the drift event (R440). -/
def driftBit (s : State) (f : Fld) (i : Nat) : State :=
  if s.bitAt f i then s else (s.putBit f i true).set F.HLTH_EVT.drift 1

/-- A SESS_EVT bit is set (R222), which is also event source 0x0F. -/
def sessEvent (s : State) (f : Fld) : State := raiseSource (s.set f 1) 0x0F

/-- HOST_IRQSTAT as it reads: the stored bits, and sess and hlth derived (R222, R454). -/
def irqStat (s : State) : Nat :=
  (s.word F.HOST_IRQSTAT.rdy.addr).toNat
    + 2 * b2n ((s.word F.SESS_EVT.fail.addr &&& s.word F.SESS_IRQEN.en.addr) != 0)
    + 4 * b2n ((s.word F.HLTH_EVT.tamper.addr &&& s.word F.HLTH_IRQEN.en.addr) != 0)

/-- Whether the IRQ ball is asserted, low (R397): an enabled event, and not within the 1 µs release. -/
def irqAsserted (s : State) : Bool :=
  !s.host.irqReleased && decide ((BitVec.ofNat 32 (irqStat s)) &&& s.word F.HOST_IRQEN.en.addr ≠ 0)

/-- The plan loader's state changes: YARD_PSTAT.state, and the plan event of the host link. -/
def setPlanState (s : State) (v : Nat) : State :=
  if s.get F.YARD_PSTAT.state = v then s
  else (s.set F.YARD_PSTAT.state v).set F.HOST_IRQSTAT.plan 1

/-- Whether power domain `d` is released from reset (R403); PD_AON is always on (R401). -/
def domOn (s : State) (d : Nat) : Bool := d == 0 || s.bitAt F.PWR_DOM_STAT.run d

/-- Whether a domain is released and stays so: work that finds its switch-off begun waits for the switch-on that follows (R405). -/
def domUp (s : State) (d : Nat) : Bool := domOn s d && (s.doms.getD d {}).phase != .switchOff

/-- A register write of its own row: refused with OFF while the block's domain is off (R30). -/
def onDom (s : State) (d : Nat) (t : State) : State := if domOn s d then t else s

/-- Whether a block is held by its bit of RST_BLOCK (R437). -/
def heldBlock (s : State) (b : Nat) : Bool := bit (s.word F.RST_BLOCK.lf.addr).toNat b

/-- A control-plane register write of its own row: refused with OFF or, while a plan change is applied, with BUSY (R20, R30). -/
def onControl (s : State) (t : State) : State := if domOn s 2 && !s.flag F.SYS_GATE_STAT.plan_apply then t else s

/-- Whether a plan is running: YARD_PSTAT.state is RUN, or an import is under way over a running plan. -/
def planRuns (s : State) : Bool := s.yard.applied

/-- The life-cycle state (R259). -/
def lifeState (s : State) : Nat := s.get F.KEYS_LC.state

end Sys2Proof.Machine
end

