-- ==== Sys2Proof/Machine/LfPipe.lean ====
section
/-!
DEFINITION. The vector pipeline of the synthesiser and its output (R70 to R77, R85, R88 to R90, R93): what a latch makes of a
vector, how keying and trim scale it, and what each bridge drives at an instant.
-/
namespace Sys2Proof.Machine

/-- Changes the synthesiser's state. -/
def State.modLf (s : State) (f : LfState → LfState) : State := { s with lf := f s.lf }

/-- LF_STAT.owner codes. -/
def ownIdle : Nat := 0
def ownTxn : Nat := 1
def ownPoll : Nat := 2
def ownCal : Nat := 3
def ownHp : Nat := 4

/-- LF_TXN_STAT.code values. -/
def lfRunning : Nat := 1
def lfDone : Nat := 2
def lfSweepCut : Nat := 3
def lfFrameCut : Nat := 4
def lfGrantMiss : Nat := 5
def lfNoChal : Nat := 6
def lfNotReady : Nat := 7
def lfVdrvFault : Nat := 8
def lfAborted : Nat := 9
def lfOverdraw : Nat := 10

/-- The current owner. -/
def lfOwner (s : State) : Nat := s.get F.LF_STAT.owner

/-- Sets the owner; busy follows. -/
def setOwner (s : State) (o : Nat) : State := (s.set F.LF_STAT.owner o).put F.LF_STAT.busy (o != 0)

/-- Sets the status code of the work; leaving RUNNING is event source 0x06 (R316). -/
def setLfCode (s : State) (c : Nat) : State :=
  let was := s.get F.LF_TXN_STAT.code
  let s := s.set F.LF_TXN_STAT.code c
  if was = lfRunning ∧ c ≠ lfRunning then raiseSource s 0x06 else s

/-- The manger requester of an owner (R413). -/
def lfRequester (o : Nat) : Nat := if o = ownPoll then 1 else if o = ownCal then 2 else 0

/-- Whether a bank may drive (R90, R97): enabled, powered, cool, and no VDRV fault left to recover from. With PD_CORE off the
burst logic drives whatever it has powered (R227). -/
def bankUp (s : State) (lfb : Bool) : Bool :=
  let en := !domOn s 2 || (s.flag F.LF_CTRL.syn_en && s.flag (if lfb then F.LF_CTRL.lfb_en else F.LF_CTRL.lfa_en))
  let on := if lfb then domOn s 5 && !s.flag F.LF_TEMP.lfb_warm && !s.flag F.LF_TEMP.lfb_hot
    else domOn s 4 && !s.flag F.LF_TEMP.lfa_warm && !s.flag F.LF_TEMP.lfa_hot
  en && on && !s.lf.vdrvBad && !s.flag F.LF_FAULT.vdrv_uv && !s.flag F.LF_FAULT.vdrv_ov

/-- Whether an aerial belongs to bank LFB (R70). -/
def inLfb (n : Nat) : Bool := decide (6 ≤ n)

/-- Whether aerial `n` may be driven now. -/
def aerUp (s : State) (n : Nat) : Bool := bankUp s (inLfb n) && !s.bitAt F.LF_FAULT.short n

/-- The drive of one aerial in a vector: installed, gain, trim, amplitude and phase codes. -/
structure AerIn where
  inst : Bool
  gain : Nat
  trim : Nat
  amp : Nat
  phase : Nat
deriving DecidableEq, Repr

/-- Aerial `n` of vector `v` from the registers. -/
def aerIn (s : State) (v n : Nat) : AerIn :=
  { inst := s.flag (F.LF_AER_CFG.installed n), gain := s.get (F.LF_AER_CFG.gain n), trim := s.get (F.LF_AER_CFG.trim n)
    amp := s.get (F.LF_VEC.amp v n), phase := s.get (F.LF_VEC.phase v n) }

/-- A vector's twelve aerials. -/
def vecIn (s : State) (v : Nat) : List AerIn := (List.range 12).map fun n => aerIn s v n

/-- VDRV compensation in Q2.14 with its clip flag (R75): vref / vdrv truncated, at most 3.0. -/
def vcOf (vref vdrv : Nat) : Nat × Bool :=
  if vref ≤ 3 * vdrv ∧ 0 < vdrv then (vref * 16384 / vdrv, false) else (49152, true)

/-- One aerial through gain, compensation and grant scale, rounded half up (R75). -/
def pipeOne (a : AerIn) (vc gs : Nat) : Nat :=
  let x := if a.inst then a.amp * a.gain else 0
  (x * vc / 16384 * gs / 32768 + 64) / 128

/-- The fit step (R75): values, the largest value, whether it acted. -/
def fitAll (y : List Nat) : List Nat × Nat :=
  let m := y.foldl max 0
  if 255 < m then (y.map fun v => (v * 255 + m / 2) / m, m) else (y, 255)

/-- The grant scale of R88. -/
def gsOf (s : State) (r : Nat) : Nat :=
  let req := s.get (F.PWR_REQ.req r)
  let g := s.get (F.PWR_REQ.grant r)
  if g < req then g * 32768 / req else 32768

/-- The grant scale of the work that owns the synthesiser; a burst under the standing grant is not scaled (R87). -/
def gsNow (s : State) : Nat := if lfOwner s = ownPoll ∧ ¬ domOn s 2 then 32768 else gsOf s (lfRequester (lfOwner s))

/-- The aerials that LF_FAULT.short marks. -/
def shortMask (s : State) : Nat := s.get F.LF_FAULT.short

/-- The measured VDRV (LF_VDRV, LF_STAT.vdrv_ok): 80 mV per LSB, within 5.8 to 19.0 V. Drive stops below 5.6 V or above 19.5 V
and comes back within 5.8 to 19.0 V (R90). -/
def setVdrv (s : State) (v : Nat) : State :=
  let ok := decide (5800 ≤ 80 * v) && decide (80 * v ≤ 19000)
  let bad := decide (80 * v < 5600) || decide (19500 < 80 * v)
  ((s.set F.LF_VDRV.vdrv v).put F.LF_STAT.vdrv_ok ok).modLf fun l => { l with vdrvBad := bad || (l.vdrvBad && !ok) }

/-- The trim factor with its lowest value and flag (R89, LF_TRIM). -/
def setTrim (s : State) (t : Nat) : State :=
  ((s.set F.LF_TRIM.t t).set F.LF_TRIM.t_min (min t (s.get F.LF_TRIM.t_min))).put F.LF_STAT.trim (decide (t < 16))

/-- The trim rises at a pattern latch or a frame end after a quiet unit (R89). -/
def trimRise (s : State) : State :=
  if s.lf.unitQuiet then setTrim s (min 16 (s.get F.LF_TRIM.t + 1)) else s

/-- A new unit begins: what it meets starts empty, its carrier is on, and the antiphase drive of the last edge is over. -/
def unitBegin (s : State) : State :=
  s.modLf fun l => { l with
    unitTMin := s.get F.LF_TRIM.t, unitQuiet := true, unitOver := false, unitFault := shortMask s, unitLost := false
    frame := [], keys := [], keyCyc := 0, quenchLeft := 0 }

/-- The latch of R74 to R76: effective amplitudes and phases; an aerial that may not be driven stays at code 0. -/
def latchVec (s : State) (a : List AerIn) (vcomp : Bool) (vref vdrv : Nat) : State :=
  let s := setVdrv s vdrv
  let gs := gsNow s
  let vc : Nat × Bool := if vcomp then vcOf vref vdrv else (16384, false)
  let f := fitAll (a.map fun x => pipeOne x vc.1 gs)
  let amps := f.1.zipIdx.map fun e => if aerUp s e.2 then e.1 else 0
  let s := s.modLf fun l => { l with
    aEff := amps, pEff := a.map fun x => (x.phase + x.trim) % 1024, gs := gs, fitM := f.2
    clipped := vc.2 || f.2 != 255 }
  unitBegin s

/-- The reference VDRV of the compensation (LF_KEY_CFG). -/
def vrefOf (s : State) : Nat := orDefault (s.get F.LF_KEY_CFG.vref) 150

/-- Latches vector `v` of the store under the plan's compensation. -/
def latchStore (s : State) (v vdrv : Nat) : State :=
  latchVec s (vecIn s v) (s.flag F.LF_KEY_CFG.vcomp) (vrefOf s) vdrv

/-- Whether the synthesiser drives a pattern, a frame or a carrier. -/
def driving (s : State) : Bool :=
  match s.lf.stage with
  | .idle => false
  | .wait => false
  | .sweep => false
  | .listen => false
  | _ => true

/-- Bits in Manchester code, as half-bits of 125 µs: 1 is on, then off (R39). -/
def manchester (l : List Bool) : List Bool := l.flatMap fun b => [b, !b]

/-- The prefaces P_W and P_C of R40 in half-bits. -/
def prefaceW : List Bool := List.replicate 5 true ++ List.replicate 3 false
def prefaceC : List Bool := List.replicate 3 true ++ List.replicate 3 false

/-- The half-bits of WAKE, WAKE-P, CHALLENGE with its end marker, and HP_REQ (R39 to R41). -/
def wakeKeys (w : Nat) : List Bool := prefaceW ++ manchester (bitsBe w 8)
def wakePKeys (g : Nat) : List Bool := prefaceW ++ manchester (bitsBe g 2)
def bytesKeys (b : List Byte) : List Bool := prefaceC ++ manchester (b.flatMap fun x => bitsBe x.toNat 8)
def chalKeys (c : List Byte) : List Bool := bytesKeys c ++ [true]

/-- HP_REQ after its preface (R41, R66): header 0xE0, C, and the CRC-8 over both. -/
def hpReqBytes (c : List Byte) : List Byte :=
  let m := 0xE0#8 :: c
  m ++ [BitVec.ofNat 8 (crc8 m)]

/-- The unit just latched sends a frame: its bytes and its half-bits. -/
def sendFrame (s : State) (b : List Byte) (k : List Bool) : State := s.modLf fun l => { l with frame := b, keys := k }

/-- How the carrier is keyed at an instant (R85): off, on, antiphase after a key-off edge, or the reduced off of HP_REQ. -/
inductive Key where
  | off
  | on
  | quench
  | low
deriving DecidableEq, Repr

/-- The antiphase time of a key-off edge in accumulator steps: LF_KEY_CFG.quench half-periods (R85). -/
def quenchSteps (s : State) : Nat := s.get F.LF_KEY_CFG.quench * 2 ^ 31

/-- LF_FTW as it acts: with PD_CORE off the poll shadow's (R227). -/
def ftwNow (s : State) : Nat := if domOn s 2 then s.get F.LF_FTW.ftw else s.get (F.POLL_SHADOW.copy 24)

/-- How many half-bits before place `i` the carrier has been off. -/
def offRun (k : List Bool) (i : Nat) : Nat := ((k.take i).reverse.takeWhile (!·)).length

/-- LFS cycles of a half-bit (R85). -/
def halfBitCyc : Nat := 2000

/-- The keying now (R85): within a frame by its half-bit, in a pattern or carrier on, after a unit antiphase for its time. -/
def keyNow (s : State) : Key :=
  if driving s then
    if s.lf.keys.isEmpty then .on
    else
      let i := min (s.lf.keyCyc / halfBitCyc) (s.lf.keys.length - 1)
      if s.lf.keys.getD i true then .on
      else if s.lf.stage = .hpFrame then .low
      else
        let off := s.lf.keyCyc - halfBitCyc * (i - offRun s.lf.keys i)
        if off * ftwNow s < quenchSteps s then .quench else .off
  else if 0 < s.lf.quenchLeft then .quench
  else .off

/-- The trim scales an amplitude (R75, R89): `t` sixteenths of it, between its two neighbours by a free bit where inexact. -/
def trimmed (a t : Nat) : Nat := a * t / 16 + (if a * t % 16 = 0 then 0 else b2n (Config.trimBit a t))

/-- The trimmed amplitude code of aerial `n` in the unit in progress. -/
def aNow (s : State) (n : Nat) : Nat := trimmed (s.lf.aEff.getD n 0) (s.get F.LF_TRIM.t)

/-- The amplitude and phase codes that aerial `n` is driven with now (R75, R76, R85). -/
def aerDrive (s : State) (n : Nat) : Nat × Nat :=
  let p := s.lf.pEff.getD n 0
  let q := if driving s then aNow s n else trimmed (s.lf.quenchAmp.getD n 0) (s.get F.LF_TRIM.t)
  match keyNow s with
  | .off => (0, p)
  | .on => (aNow s n, p)
  | .quench => (q, (p + 512) % 1024)
  | .low => ((aNow s n * 15 + 50) / 100, p)

/-- The table of half-widths that R72 names, codes 0 to 63: round(asin(a / 255) / (2π) × 2^32). -/
def halfTable0 : List Nat :=
  [0, 2680655, 5361351, 8042130, 10723032, 13404100, 16085373, 18766894] ++
  [21448705, 24130845, 26813357, 29496282, 32179662, 34863539, 37547953, 40232947] ++
  [42918563, 45604842, 48291827, 50979560, 53668082, 56357437, 59047666, 61738812] ++
  [64430918, 67124027, 69818182, 72513425, 75209800, 77907351, 80606121, 83306154] ++
  [86007494, 88710185, 91414271, 94119797, 96826807, 99535348, 102245463, 104957198] ++
  [107670599, 110385712, 113102583, 115821259, 118541785, 121264209, 123988579, 126714942] ++
  [129443345, 132173837, 134906467, 137641283, 140378334, 143117669, 145859339, 148603394] ++
  [151349885, 154098861, 156850376, 159604479, 162361225, 165120664, 167882850, 170647838]

/-- The table of half-widths that R72 names, codes 64 to 127: round(asin(a / 255) / (2π) × 2^32). -/
def halfTable1 : List Nat :=
  [173415679, 176186430, 178960144, 181736878, 184516686, 187299626, 190085754, 192875127] ++
  [195667805, 198463844, 201263305, 204066246, 206872729, 209682815, 212496564, 215314039] ++
  [218135304, 220960421, 223789454, 226622470, 229459533, 232300711, 235146069, 237995677] ++
  [240849604, 243707918, 246570690, 249437992, 252309897, 255186476, 258067805, 260953958] ++
  [263845011, 266741042, 269642128, 272548349, 275459785, 278376516, 281298626, 284226198] ++
  [287159317, 290098068, 293042539, 295992819, 298948996, 301911163, 304879412, 307853837] ++
  [310834533, 313821596, 316815126, 319815223, 322821987, 325835523, 328855935, 331883329] ++
  [334917815, 337959502, 341008503, 344064931, 347128904, 350200539, 353279956, 356367277]

/-- The table of half-widths that R72 names, codes 128 to 191: round(asin(a / 255) / (2π) × 2^32). -/
def halfTable2 : List Nat :=
  [359462628, 362566136, 365677929, 368798140, 371926902, 375064353, 378210631, 381365880] ++
  [384530243, 387703869, 390886909, 394079517, 397281849, 400494067, 403716333, 406948815] ++
  [410191684, 413445114, 416709283, 419984374, 423270573, 426568071, 429877062, 433197746] ++
  [436530326, 439875013, 443232019, 446601563, 449983871, 453379172, 456787700, 460209700] ++
  [463645417, 467095106, 470559027, 474037450, 477530648, 481038903, 484562506, 488101755] ++
  [491656957, 495228426, 498816486, 502421472, 506043727, 509683605, 513341469, 517017697] ++
  [520712675, 524426802, 528160491, 531914167, 535688271, 539483255, 543299590, 547137761] ++
  [550998271, 554881638, 558788403, 562719122, 566674375, 570654760, 574660903, 578693449]

/-- The table of half-widths that R72 names, codes 192 to 255: round(asin(a / 255) / (2π) × 2^32). -/
def halfTable3 : List Nat :=
  [582753070, 586840465, 590956363, 595101519, 599276723, 603482796, 607720598, 611991023] ++
  [616295007, 620633529, 625007613, 629418333, 633866811, 638354229, 642881827, 647450906] ++
  [652062839, 656719070, 661421125, 666170611, 670969230, 675818785, 680721184, 685678453] ++
  [690692748, 695766363, 700901744, 706101504, 711368440, 716705549, 722116053, 727603419] ++
  [733171389, 738824009, 744565667, 750401133, 756335608, 762374781, 768524896, 774792828] ++
  [781186178, 787713386, 794383865, 801208166, 808198179, 815367386, 822731172, 830307230] ++
  [838116067, 846181683, 854532456, 863202354, 872232601, 881674061, 891590707, 902064912] ++
  [913205822, 925163389, 938153560, 952507878, 968784626, 988072733, 1013184465, 1073741824]

/-- The half-width H of an amplitude code (R72). -/
def halfWidth (a : Nat) : Nat := (halfTable0 ++ halfTable1 ++ halfTable2 ++ halfTable3).getD a 0

/-- The phase θ of a phase code (R72). -/
def thetaOf (s : State) (p : Nat) : Word := s.lf.acc + BitVec.ofNat 32 (p * 2 ^ 22)

/-- The output of an aerial's bridge (R72): AERnP or AERnN at VDRV, freewheel, or the balls' fuse-mapped state (R70, R430). -/
inductive BridgeOut where
  | fuseMapped
  | pos
  | neg
  | freewheel
deriving DecidableEq, Repr

/-- The bridge output at phase `th` with half-width `h` (R72), `age` accumulator steps after a key-on edge: an aerial starts at
its first conduction interval after the edge (R85). -/
def bridgeAt (th h : Nat) (age : Option Nat) : BridgeOut :=
  let most := age.getD (2 ^ 32)
  if 2 ^ 30 ≤ th + h ∧ th < 2 ^ 30 + h ∧ th + h - 2 ^ 30 ≤ most then .pos
  else if 3 * 2 ^ 30 ≤ th + h ∧ th < 3 * 2 ^ 30 + h ∧ th + h - 3 * 2 ^ 30 ≤ most then .neg
  else .freewheel

/-- Accumulator steps since the key-on edge that the present conduction began with, none where no edge precedes it: the carrier of
the hitching post runs on through HP_REQ and the reply (R85, R95). -/
def keyOnAge (s : State) : Option Nat :=
  let ftw := ftwNow s
  if keyNow s ≠ .on ∨ s.lf.stage = .hpFrame ∨ s.lf.stage = .hpListen ∨ s.lf.stage = .hpReply then none
  else if s.lf.keys.isEmpty then some (s.lf.keyCyc * ftw)
  else
    let i := min (s.lf.keyCyc / halfBitCyc) (s.lf.keys.length - 1)
    let on := ((s.lf.keys.take i).reverse.takeWhile id).length
    some ((s.lf.keyCyc - halfBitCyc * (i - on)) * ftw)

/-- The balls of a bank's installed aerials are taken from their fuse-mapped state (R70, R430). -/
def aerTake (s : State) (lfb : Bool) : State :=
  let mine := (List.range 12).filter fun n => inLfb n == lfb && s.flag (F.LF_AER_CFG.installed n)
  { s with tap := { s.tap with aer := mine.foldl clrBit s.tap.aer } }

/-- The balls of a bank return to their fuse-mapped state (R430). -/
def aerFuse (s : State) (lfb : Bool) : State :=
  let mine := (List.range 12).filter fun n => inLfb n == lfb
  { s with tap := { s.tap with aer := mine.foldl setBit s.tap.aer } }

/-- What balls AERnP and AERnN do now (R70, R72, R430). -/
def bridgeOut (s : State) (n : Nat) : BridgeOut :=
  if bit s.tap.aer n then .fuseMapped
  else
    let d := aerDrive s n
    bridgeAt (thetaOf s d.2).toNat (halfWidth d.1) (keyOnAge s)

/-- The carrier goes off at the end of a unit: a key-off edge with its antiphase drive (R85). -/
def idleDrive (s : State) : State :=
  let on := decide (keyNow s = .on)
  s.modLf fun l => { l with
    aEff := List.replicate 12 0
    quenchAmp := if on then l.aEff else l.quenchAmp
    quenchLeft := if on then quenchSteps s else l.quenchLeft }

/-- Aerials stop at once (R90). -/
def dropAerials (s : State) (p : Nat → Bool) : State :=
  let drop := fun (l : List Nat) => l.zipIdx.map fun e => if p e.2 then 0 else e.1
  s.modLf fun l => { l with aEff := drop l.aEff, quenchAmp := drop l.quenchAmp }

/-- The bank domains an aerial list needs are released, or not left to wait for (R402). -/
def banksUp (s : State) (a : List AerIn) : Bool :=
  a.zipIdx.all fun e =>
    let d := if inLfb e.2 then 5 else 4
    !e.1.inst || e.1.amp == 0 || domUp s d || s.get (if inLfb e.2 then F.PWR_DOM_CFG.lfb else F.PWR_DOM_CFG.lfa) != 1

/-- The calibration code (LF_KEY_CFG). -/
def calCode (s : State) : Nat := orDefault (s.get F.LF_KEY_CFG.cal_code) 64

/-- An aerial step's vector (R93): aerial `n` alone at cal_code with gain 128, phase 0 and trim 0. -/
def calVec (s : State) (n : Nat) : List AerIn :=
  (List.range 12).map fun m => if m = n then ⟨s.flag (F.LF_AER_CFG.installed n), 128, 0, calCode s, 0⟩ else ⟨false, 0, 0, 0, 0⟩

/-- The envelope step's vector (R86, R93): chal_vec with every amplitude that is not 0 at cal_code (log entry 156). -/
def calEnvVec (s : State) : List AerIn :=
  (vecIn s (s.get F.LF_FRAME_VEC.chal_vec)).map fun a => if a.amp = 0 then a else { a with amp := calCode s }

/-- What calibration drives next: the lowest aerial left, then the envelope step (R93). -/
def calNext (s : State) : List AerIn :=
  match lowestSet s.lf.calMask 12 with
  | some n => calVec s n
  | none => calEnvVec s

/-- Calibration drives its next step under VDRV compensation (R93), at the VDRV last measured. -/
def calLatch (s : State) : State :=
  let stage : LfStage := if (lowestSet s.lf.calMask 12).isSome then .calStep else .calEnv
  let t := latchVec s (calNext s) true (vrefOf s) (s.get F.LF_VDRV.vdrv)
  t.modLf fun l => { l with stage := stage, calAer := (lowestSet l.calMask 12).getD 0 }

/-- Calibration begins once its grant is held and its banks are up (R79, R93, R402). -/
def calBegin (s : State) : State :=
  if s.lf.stage = .wait ∧ lfOwner s = ownCal ∧ s.get (F.PWR_REQ.state 2) = 2 ∧ banksUp s (calNext s) then calLatch s else s

end Sys2Proof.Machine
end

