-- ==== Sys2Proof/Machine/Rng.lean ====
section
/-!
DEFINITION. The noise source and expander (chapter 11): seeding, the CTR_DRBG, its consumers, the queue and the ports.
-/
namespace Sys2Proof.Machine

/-- The personalization string of R272: SYS_ID, the die serial, 36 zero bytes. -/
def rngPers (s : State) : Nat :=
  natBe (bytesBe (s.word F.SYS_ID.part.addr).toNat 4 ++ bytesBe s.fuseSerial.toNat 8 ++ List.replicate 36 0#8)

/-- A raw bit passes through both health tests (R269); the flags say which of them it fails. -/
def htStep (rctCut aptCut : Nat) (h : HealthTest) (b : Bool) : HealthTest × Bool × Bool :=
  let run := if 0 < h.run ∧ h.last = b then h.run + 1 else 1
  let first := if h.pos = 0 then b else h.first
  let cnt := (if h.pos = 0 then 0 else h.cnt) + b2n (b == first)
  ({ last := b, run := run, first := first, pos := (h.pos + 1) % 1024, cnt := cnt }, decide (rctCut ≤ run), decide (aptCut ≤ cnt))

/-- Raw bits pass through the tests up to the first that fails: the tests' state, and which failed (R269). -/
def htRun (rctCut aptCut : Nat) (h : HealthTest) (l : List Bool) : HealthTest × Bool × Bool :=
  match l with
  | [] => (h, false, false)
  | b :: t =>
    let r := htStep rctCut aptCut h b
    if r.2.1 || r.2.2 then r else htRun rctCut aptCut r.1 t

/-- The raw bits of a collection, the first one most significant (R271). -/
def rawBits (n raw : Nat) : List Bool := (List.range n).map fun i => bit raw (n - 1 - i)

/-- The health tests over raw bits with the cutoffs RNG_HT reports (R269). -/
def rngTest (s : State) (l : List Bool) : HealthTest × Bool × Bool :=
  htRun (s.get F.RNG_HT.rct_cut) (s.get F.RNG_HT.apt_cut) s.rng.ht l

/-- The oscillators start: start-up testing runs anew (R270). -/
def oscStart (r : RngState) : RngState := { r with osc := true, tested := false, ht := {} }

/-- A failure is counted (R275): eight in a row set the alarm. -/
def rngFailure (s : State) : State :=
  let s := (s.bump F.RNG_CNT.failures).bump F.RNG_STAT.run
  let s := if s.get F.RNG_STAT.run = 8 then healthFault (s.set F.RNG_STAT.alarm 1) F.HLTH_EVT.rng else s
  tallyEvent s 0x10

/-- A health test failed (R270, R275): the raw bits collected and the window are discarded and the collection starts again; the
repetition count starts anew with it (log entry 168). -/
def healthFail (s : State) (rct apt : Bool) : State :=
  let s := if rct then s.set F.RNG_STAT.rct_fail 1 else s
  let s := if apt then s.set F.RNG_STAT.apt_fail 1 else s
  rngFailure { s with rng := { s.rng with ht := {} } }

/-- A seed is taken by an Instantiate or a Reseed (R273): counters, and the source restarts if it had stopped (R271). -/
def rngTakeSeed (s : State) (d : DrbgState) : State :=
  let iv := s.get F.RNG_RSCNT.count
  let s := (s.set F.RNG_STRETCH.max_int (max (s.get F.RNG_STRETCH.max_int) iv)).set F.RNG_RSCNT.count 0
  let s := (s.bump F.RNG_CNT.reseeds).set F.RNG_STAT.seed_ready 0
  let r := { s.rng with drbg := d, seed := none, forced := false, inst := true }
  { s with rng := if r.osc then r else oscStart r }

/-- Whether requests are served at all (R276, R281). -/
def rngLive (s : State) : Bool := s.flag F.RNG_CTRL.en && s.rng.inst

/-- The state at a request boundary after the reseed that is due or waited for, if the request can be served (R273). -/
def rngBoundary (s : State) (fresh : Bool) : Option State :=
  if !rngLive s then none
  else
    let count := s.get F.RNG_RSCNT.count
    let must := fresh || s.rng.forced || decide (2 ^ 20 ≤ count)
    match s.rng.seed with
    | some k => if must || decide (2 ^ 10 ≤ count) then some (rngTakeSeed s (drbgReseed s.rng.drbg k)) else some s
    | none => if must then none else some s

/-- One Generate of 128 bits (R272), after the reseed of its boundary; none while requests wait. -/
def rngGenerate (s : State) (fresh : Bool) : Option (Nat × State) :=
  match rngBoundary s fresh with
  | none => none
  | some t =>
    let r := drbgGenerate t.rng.drbg
    some (r.1, ({ t with rng := { t.rng with drbg := r.2 } } : State).wrapInc F.RNG_RSCNT.count)

/-- Whether a consumer's plan route is the queue (R277). -/
def rngQueued (s : State) (u : RngUser) : Bool :=
  match u with
  | .keyTree => false
  | .pools => s.flag F.RNG_CFG.rt_pool
  | .uwbCheck => s.flag F.RNG_CFG.rt_uwb
  | .hostPort => s.flag F.RNG_CFG.rt_swp
  | .enginePort _ => s.flag F.RNG_CFG.rt_swp

/-- The bytes of a block as the four data words of a port, byte 4w in [7:0] of word w (R280). -/
def portWord (blk w : Nat) : Nat := natLe ((bytesBe blk 16).drop (4 * w) |>.take 4)

/-- A block fills a software port (R280); engine line 1 rises with its valid (R316). -/
def fillPort (s : State) (port : Option (Fin 8)) (blk : Nat) : State :=
  match port with
  | none =>
    let s := (List.range 4).foldl (fun t w => t.set (F.RNG_HPORT_W4.data w) (portWord blk w)) s
    (s.wrapInc F.RNG_HPORT_W0.seq).set F.RNG_HPORT_W0.valid 1
  | some e =>
    let s := (List.range 4).foldl (fun t w => t.set (F.RNG_EPORT_W4.data e w) (portWord blk w)) s
    raiseLine ((s.wrapInc (F.RNG_EPORT_W0.seq e)).set (F.RNG_EPORT_W0.valid e) 1) e 1

/-- The lowest core pool with room for a block of randomness (R239): each pool holds two. -/
def poolWithRoom (s : State) : Option Nat := (List.range 4).find? fun i => decide (s.ciph.pools.getD i 0 < 2)

/-- How many blocks a consumer can take now. -/
def rngRoom (s : State) (u : RngUser) : Nat :=
  match u with
  | .keyTree => 2 - s.keys.rootBuf.length
  | .pools => (s.ciph.pools.map fun n => 2 - n).sum
  | .uwbCheck => 1
  | .hostPort => b2n (!s.flag F.RNG_HPORT_W0.valid)
  | .enginePort e => b2n (!s.flag (F.RNG_EPORT_W0.valid e))

/-- How many requests of a consumer are held. -/
def heldCount (s : State) (u : RngUser) : Nat := (s.rng.held.filter fun e => e.1 == u).length

/-- Whether a consumer can take a block beyond those it already waits for. -/
def rngWants (s : State) (u : RngUser) : Bool := decide (heldCount s u < rngRoom s u)

/-- Delivers a block to its consumer (R277). -/
def rngDeliver (s : State) (u : RngUser) (blk : Nat) : State :=
  match u with
  | .keyTree => { s with keys := { s.keys with rootBuf := s.keys.rootBuf ++ [blk] } }
  | .pools =>
    match poolWithRoom s with
    | some i => { s with ciph := { s.ciph with pools := s.ciph.pools.modify i (· + 1) } }
    | none => s
  | .uwbCheck => { s with rng := { s.rng with testKey := blk } }
  | .hostPort => fillPort s none blk
  | .enginePort e => fillPort s (some e) blk

/-- A block for a consumer over its route, if it can be served now: a wire request takes no queue entry, and a root's
first half takes a forced reseed (R277, R278, R279). -/
def rngServe (s : State) (u : RngUser) : Option State :=
  if rngQueued s u then
    match s.rng.queue with
    | b :: t => if s.flag F.RNG_CTRL.en && !s.rng.forced then
        some (rngDeliver { s with rng := { s.rng with queue := t } } u b) else none
    | [] => none
  else
    match rngGenerate s (u == .keyTree && s.keys.rootBuf.isEmpty) with
    | some (b, t) => some (rngDeliver t u b)
    | none => none

/-- The place of a consumer in the order of R277; engine ports round robin after the one last served. -/
def rngRank (rr : Nat) (u : RngUser) : Nat :=
  match u with
  | .keyTree => 0
  | .pools => 1
  | .uwbCheck => 2
  | .hostPort => 3
  | .enginePort e => 4 + (e.val + 15 - rr) % 8

/-- The order in which held requests are served: those blocked at the limit by arrival (R273), then the others as R277 says. -/
def rngOrder (s : State) : List RngUser :=
  let l := s.rng.held.filter fun e => !e.2
  (s.rng.held.filter (·.2)).map (·.1)
    ++ (List.range 12).flatMap fun k => (l.filter fun e => rngRank s.rng.rr e.1 == k).map (·.1)

/-- A held request is no longer held. -/
def unhold (s : State) (u : RngUser) : State :=
  { s with rng := { s.rng with held := s.rng.held.eraseP fun e => e.1 == u } }

/-- Held requests are served in the given order, as far as they can be. -/
def rngServeList (s : State) (l : List RngUser) : State :=
  match l with
  | [] => s
  | u :: t =>
    if rngRoom s u = 0 then rngServeList (unhold s u) t
    else
      match rngServe s u with
      | some s' => rngServeList (unhold s' u) t
      | none => rngServeList s t

/-- The requests held are served (R273, R276, R277, R278). -/
def rngServeHeld (s : State) : State := rngServeList s (rngOrder s)

/-- A datapath mismatch (R272): output discarded, the state zeroed, a failure counted under R275, and a new Instantiate from the
next seed, at once where the buffer holds it. -/
def rngMismatch (s : State) : State :=
  let s := rngFailure (s.set F.RNG_STAT.mismatch 1)
  match s.rng.seed with
  | some k => rngTakeSeed s (drbgInstantiate k (rngPers s))
  | none =>
    let r := { s.rng with drbg := {}, inst := false }
    { s with rng := if r.osc then r else oscStart r }

/-- A request waits (R273): one that blocks at the 2^20 limit keeps its place among those. -/
def rngHold (s : State) (u : RngUser) : State :=
  { s with rng := { s.rng with held := s.rng.held ++ [(u, rngLive s && decide (2 ^ 20 ≤ s.get F.RNG_RSCNT.count))] } }

/-- RNG_REQUEST (R272, R274, R277): a consumer's request is served, or held until it can be; after a mismatch it waits for the new
Instantiate. -/
def rngRequest (s : State) (u : RngUser) (mismatch : Bool) : State :=
  if !rngWants s u then s
  else if mismatch ∧ ¬ rngQueued s u then
    match rngBoundary s (u == .keyTree && s.keys.rootBuf.isEmpty) with
    | none => rngHold s u
    | some t => rngServeHeld (rngHold (rngMismatch t) u)
  else
    match rngServe s u with
    | some s' => s'
    | none => rngHold s u

def execRngRequest (u : RngUser) (mismatch : Bool) (s : State) : Host.Outcome State Fault Refusal :=
  .next (onDom s 3 (rngRequest s u mismatch))

/-- QUEUE_REFILL (R278): a free entry is filled while no wire request waits; consumers that found the queue empty then
take theirs. -/
def queueRefill (s : State) (mismatch : Bool) : State :=
  if s.rng.queue.length < 64 ∧ s.rng.held.all (fun e => rngQueued s e.1) then
    if mismatch then
      match rngBoundary s false with
      | none => s
      | some t => rngServeHeld (rngMismatch t)
    else
      match rngGenerate s false with
      | some (b, t) => rngServeHeld { t with rng := { t.rng with queue := t.rng.queue ++ [b] } }
      | none => s
  else s

def execQueueRefill (mismatch : Bool) (s : State) : Host.Outcome State Fault Refusal := .next (onDom s 3 (queueRefill s mismatch))

/-- HEALTH_TEST_FAIL (R269, R270, R275): raw bits of the start-up test or of a collection, up to the one that fails a test. -/
def healthTestFail (s : State) (raw : List Bool) : State :=
  let r := rngTest s raw
  if s.rng.osc ∧ (r.2.1 ∨ r.2.2) then healthFail s r.2.1 r.2.2 else s

def execHealthTestFail (raw : List Bool) (s : State) : Host.Outcome State Fault Refusal :=
  .next (onDom s 3 (healthTestFail s raw))

/-- STARTUP_TEST_PASS (R269, R270): the first 1 024 raw bits run through both tests; where they pass, collection begins. -/
def startupTestPass (s : State) (raw : BitVec 1024) : State :=
  if s.rng.osc ∧ ¬ s.rng.tested then
    let r := rngTest s (rawBits 1024 raw.toNat)
    if r.2.1 ∨ r.2.2 then healthFail s r.2.1 r.2.2 else { s with rng := { s.rng with tested := true, ht := r.1 } }
  else s

def execStartupTestPass (s : State) (raw : BitVec 1024 := 0) : Host.Outcome State Fault Refusal :=
  .next (onDom s 3 (startupTestPass s raw))

/-- The conditioning of R271: three groups of 384 raw bits, first bit most significant, each through CMAC-AES-256 under
the fixed key of the fuses. -/
def conditionSeed (s : State) (raw : Nat) : Nat :=
  let grp := fun i => cmac true s.fuseKey.toNat (bytesBe (raw / 2 ^ (384 * (2 - i)) % 2 ^ 384) 48)
  grp 0 * 2 ^ 256 + grp 1 * 2 ^ 128 + grp 2

/-- Whether a held request of the key tree waits for a reseed of its own (R279). -/
def rootWaits (s : State) : Bool := s.keys.rootBuf.isEmpty && s.rng.held.any fun e => e.1 == .keyTree

/-- A seed that stays in the buffer stops the oscillators (R271). -/
def keepSeed (s : State) : State :=
  if s.rng.seed.isSome then ({ s with rng := { s.rng with osc := false } } : State).set F.RNG_STAT.seed_ready 1 else s

/-- A tested seed is ready (R271, R272, R273, R276): an Instantiate or a Reseed that waits takes it at once, and a mismatch there
uses it up; otherwise the buffer keeps it and the oscillators stop. -/
def seedReady (s : State) (k : Nat) (mismatch : Bool) : State :=
  if ¬ s.rng.inst then
    if mismatch then rngMismatch s
    else rngServeHeld ((rngTakeSeed s (drbgInstantiate k (rngPers s))).set F.RNG_STAT.seeded 1)
  else if s.rng.forced ∨ 2 ^ 10 ≤ s.get F.RNG_RSCNT.count ∨ rootWaits s then
    if mismatch then rngMismatch s
    else
      let s : State := { s with rng := { s.rng with seed := some k } }
      keepSeed (rngServeHeld
        (if s.rng.forced ∨ 2 ^ 10 ≤ s.get F.RNG_RSCNT.count then rngTakeSeed s (drbgReseed s.rng.drbg k) else s))
  else keepSeed { s with rng := { s.rng with seed := some k } }

/-- SEED_COMPLETE (R269, R271, R274, R275): 1 152 raw bits are tested and conditioned; a failing bit among them discards the
seed. -/
def seedComplete (s : State) (raw : BitVec 1152) (mismatch : Bool) : State :=
  if s.rng.osc ∧ s.rng.tested ∧ s.rng.seed = none then
    let r := rngTest s (rawBits 1152 raw.toNat)
    if r.2.1 ∨ r.2.2 then healthFail s r.2.1 r.2.2
    else
      let s : State := { s with rng := { s.rng with ht := r.1 } }
      seedReady (s.set F.RNG_STAT.run 0) (conditionSeed s raw.toNat) mismatch
  else s

def execSeedComplete (seed : SeedRaw) (s : State) : Host.Outcome State Fault Refusal :=
  .next (onDom s 3 (seedComplete s seed.raw seed.mismatch))

/-- Whether a port's block is readable: valid, and the source enabled (R280, R281). -/
def portValid (s : State) (port : Option (Fin 8)) : Bool :=
  s.flag F.RNG_CTRL.en &&
    (match port with | none => s.flag F.RNG_HPORT_W0.valid | some e => s.flag (F.RNG_EPORT_W0.valid e))

/-- The block a port holds, as a number (R280). -/
def portBlock (s : State) (port : Option (Fin 8)) : Nat :=
  natBe ((List.range 4).flatMap fun w =>
    bytesLe (s.get (match port with | none => F.RNG_HPORT_W4.data w | some e => F.RNG_EPORT_W4.data e w)) 4)

/-- Empties a port: valid falls and its data words read 0. -/
def clearPort (s : State) (port : Option (Fin 8)) : State :=
  match port with
  | none => (s.zero (F.RNG_HPORT_W4.data 0).addr 4).set F.RNG_HPORT_W0.valid 0
  | some e => (s.zero (F.RNG_EPORT_W4.data e 0).addr 4).set (F.RNG_EPORT_W0.valid e) 0

/-- PORT_CONSUME (R280): a read of data word 3 consumes the block, and the port requests its next at once. -/
def portConsume (s : State) (port : Option (Fin 8)) : State :=
  if portValid s port then
    rngRequest (clearPort s port) (match port with | none => .hostPort | some e => .enginePort e) false
  else s

def execPortConsume (port : Option (Fin 8)) (s : State) : Host.Outcome State Fault Refusal := .next (onDom s 3 (portConsume s port))

/-- RNG_STRETCH_READ (R273): a read of RNG_STRETCH sets it to 0. -/
def rngStretchRead (s : State) : State := s.set F.RNG_STRETCH.max_int 0

def execRngStretchRead (s : State) : Host.Outcome State Fault Refusal := .next (onDom s 3 (rngStretchRead s))

/-- RNG_EN_WRITE (R281): 0 stops the source and serves no request; 1 starts the source while the buffer is empty. Until a plan
applies, en reads 1 whatever is written. -/
def rngEnWrite (s : State) (v : Bool) : State :=
  if ¬ s.rng.planned then s
  else
    let s := s.put F.RNG_CTRL.en v
    if v then
      rngServeHeld (if s.rng.osc ∨ s.rng.seed.isSome then s else { s with rng := oscStart s.rng })
    else { s with rng := { s.rng with osc := false, tested := false } }

def execRngEnWrite (v : Bool) (s : State) : Host.Outcome State Fault Refusal := .next (onDom s 3 (rngEnWrite s v))

/-- FORCED_RESEED (R279): the queue is emptied and the next requests wait for a seed never used. -/
def forcedReseed (s : State) : State := { s with rng := { s.rng with queue := [], forced := true } }

def execForcedReseed (s : State) : Host.Outcome State Fault Refusal := .next (onDom s 3 (forcedReseed s))

/-- QFLUSH (R278): the queue is emptied. -/
def qflush (s : State) : State := { s with rng := { s.rng with queue := [] } }

def execQflush (s : State) : Host.Outcome State Fault Refusal := .next (onDom s 3 (qflush s))

/-- RNG_STAT.state as it reads: OFF while disabled, STARTUP, SEEDING, BLOCKED or READY (R276, R279, R281). -/
def rngStateCode (s : State) : Nat :=
  if !s.flag F.RNG_CTRL.en then 0
  else if !s.flag F.RNG_STAT.seeded then (if s.rng.tested then 2 else 1)
  else if !s.rng.inst || s.rng.forced || decide (2 ^ 20 ≤ s.get F.RNG_RSCNT.count) then 4
  else 3

/-- The expander loses its state (R281): DRBG state, seed, queue and port blocks; seeding runs again. A consumer whose request was
in flight asks again after the release, so those outside what was reset stay held. -/
def rngLose (s : State) (keep : RngUser → Bool) : State :=
  let s := (s.zero F.RNG_HPORT_W0.valid.addr 5).zero (F.RNG_EPORT_W0.valid 0).addr 64
  let s := s.sets [(F.RNG_STAT.seeded, 0), (F.RNG_STAT.seed_ready, 0), (F.RNG_RSCNT.count, 0)]
  { s with rng := { osc := s.flag F.RNG_CTRL.en, planned := s.rng.planned
                    held := (s.rng.held.filter fun e => keep e.1).map fun e => (e.1, false) } }

end Sys2Proof.Machine
end

