-- ==== Sys2Proof/Machine/Keys.lean ====
section
/-!
DEFINITION. The bridle cores, their channels and the key tree (chapter 10): handles, derivations, usage limits,
revocation, the roots, the life cycle and the export path.
-/
namespace Sys2Proof.Machine

/-- The status codes of R268. -/
def stIdle : Nat := 0
def stBusy : Nat := 1
def stDone : Nat := 2
def stFault : Nat := 3
def stRevoked : Nat := 4
def stReuse : Nat := 5
def stBadHandle : Nat := 6
def stDenied : Nat := 7
def stBlocked : Nat := 8
def stFull : Nat := 9
def stTamper : Nat := 10
def stCut : Nat := 11
def stAborted : Nat := 12
def stLimit : Nat := 13

/-- The roots in order of completion: MAKER, FIELD, SHOP (R258). -/
def completedRoots (s : State) : List Nat := (s.keys.roots.filter (·.marker)).map (·.key)

/-- The root of a life-cycle state; none in BLANK and RETIRED (R259). -/
def rootOf (s : State) (state : Nat) : Option Nat :=
  if state = 1 then (completedRoots s)[0]?
  else if state = 2 then (completedRoots s)[1]?
  else if state = 3 then (completedRoots s)[2]?
  else none

/-- The active root (R259). -/
def activeRoot (s : State) : Option Nat := rootOf s (lifeState s)

/-- The partner state of R260. -/
def partnerState (state : Nat) : Nat := if state = 2 then 3 else 2

/-- VID and relgen, most significant byte first (R248). -/
def vidBytes (s : State) : List Byte := bytesBe (s.get F.KEYS_VID.vid) 4
def relgenBytes (s : State) : List Byte := bytesBe (s.get F.KEYS_RELGEN.relgen) 2

/-- The hardware labels of R248. -/
def labelBytes (id : Nat) : List Byte :=
  match id with
  | 1 => ascii "HOST"
  | 2 => ascii "plan"
  | 3 => ascii "loft"
  | 4 => ascii "RELEASE"
  | 5 => ascii "HALTER-TOK"
  | 6 => ascii "HALTER-MAC"
  | 7 => ascii "HALTER-RSP"
  | 8 => ascii "HALTER-HP"
  | 9 => ascii "HALTER-TXN"
  | 10 => ascii "HALTER-STS-K"
  | 11 => ascii "HALTER-STS-V"
  | _ => []

/-- The label of a plan-defined id 16 + n (KEYS_LABELn): none where its length is refused. -/
def planLabel (s : State) (n : Nat) : Option (List Byte) :=
  let len := s.get (F.KEYS_LABEL_W0.len n)
  if 1 ≤ len ∧ len ≤ 16 then
    some (((List.range 4).flatMap fun w => bytesLe (s.get (F.KEYS_LABEL_W4.bytes n w)) 4).take len)
  else none

/-- A key of the tree under a 256-bit root. -/
def rootKey (root : Nat) (id : Nat) (ctx : List Byte) : Nat := kdf true root (labelBytes id) ctx false

/-- A key of the tree under a 128-bit parent. -/
def childKey (parent : Nat) (id : Nat) (ctx : List Byte) : Nat := kdf false parent (labelBytes id) ctx false

/-- K_HOST, K_SEAL_P, K_SEAL_L and K_REL of a root (R248). -/
def kHost (root : Nat) : Nat := rootKey root 1 []
def kSealP (root : Nat) : Nat := rootKey root 2 []
def kSealL (root : Nat) : Nat := rootKey root 3 []
def kRel (s : State) (root : Nat) : Nat := rootKey root 4 (vidBytes s ++ relgenBytes s)

/-- K_tok of an enrolled index (R248). -/
def kTok (s : State) (root idx : Nat) : Nat := rootKey root 5 (vidBytes s ++ bytesBe idx 1)

/-- KEYS_LIMIT.max_e as it acts (0 and values above 20 are 20). -/
def maxE (s : State) : Nat :=
  let e := s.get F.KEYS_LIMIT.max_e
  if e = 0 ∨ 20 < e then 20 else e

/-- The exponent of a derivation request after clamping (R252). -/
def clampE (s : State) (e : Nat) : Nat := min (maxE s) (max 10 e)

/-- One slot. -/
def keySlot (s : State) (h : Nat) : KeySlot := s.keys.slots.getD h {}

/-- Changes one slot. -/
def modSlot (s : State) (h : Nat) (f : KeySlot → KeySlot) : State :=
  { s with keys := { s.keys with slots := s.keys.slots.modify h f } }

/-- The handle of a live slot (R249). -/
def handleOf (s : State) (h : Nat) : Nat := (keySlot s h).tag * 64 + h

/-- The slot a handle names for a requester, if it is live and his (R249, R250). -/
def slotOfHandle (s : State) (handle owner : Nat) : Option Nat :=
  let h := handle % 64
  let k := keySlot s h
  if h < 48 ∧ k.live ∧ k.tag = handle / 64 ∧ k.owner = owner then some h else none

/-- Whether an operation in flight depends on a slot. -/
def slotInUse (s : State) (h : Nat) : Bool := s.ciph.ops.any fun o => o.slot == h

/-- The lowest slot that is free and has no revoked operation in flight. -/
def freeSlot (s : State) : Option Nat :=
  (List.range 48).find? fun h => !(keySlot s h).live && !slotInUse s h

/-- The live children of a set of slots. -/
def childrenOf (s : State) (l : List Nat) : List Nat :=
  (List.range 48).filter fun h => (keySlot s h).live && l.contains (keySlot s h).parent

/-- A slot with all its descendants; the tree is at most four deep (R248, R256). -/
def withDescendants (s : State) (h : Nat) : List Nat :=
  let a := childrenOf s [h]
  let b := childrenOf s a
  let c := childrenOf s b
  [h] ++ a ++ b ++ c

/-- A slot is emptied; its tag is kept for the next use (R249). -/
def emptySlot (k : KeySlot) : KeySlot := { tag := k.tag }

/-- A channel's status (R268); the engine's event line rises when the status leaves BUSY (R316). -/
def setEchStatus (s : State) (e st : Nat) : State :=
  let was := s.get (F.CIPH_ECH_W4.status e)
  let s := s.set (F.CIPH_ECH_W4.status e) st
  if was = stBusy ∧ st ≠ stBusy then raiseLine s e 0 else s

/-- A derivation's status, with event line 2 (R316). -/
def setDerStatus (s : State) (e st : Nat) : State :=
  let was := s.get (F.KEYS_DER_W28.status e)
  let s := s.set (F.KEYS_DER_W28.status e) st
  if was = stBusy ∧ st ≠ stBusy then raiseLine s e 2 else s

/-- A REUSE refusal is counted. -/
def countReuse (s : State) (st : Nat) : State := if st = stReuse then s.bump F.KEYS_STAT.reuse else s

/-- The 128 bits of a channel's IN registers, byte 0 most significant (CIPH_ECHn). -/
def echIn (s : State) (e : Nat) : Nat :=
  natBe ((List.range 4).flatMap fun w => bytesLe (s.get (F.CIPH_ECH_W10.in_ e w)) 4)

/-- Writes a channel's OUT registers. -/
def setEchOut (s : State) (e blk : Nat) : State :=
  (List.range 4).foldl (fun t w => t.set (F.CIPH_ECH_W20.out e w) (portWord blk w)) s

/-- The operation in flight of a requester. -/
def opOf (s : State) (u : KeyUser) : Option CoreOp := s.ciph.ops.find? fun o => o.who == u

/-- The register index of a privileged channel: both SEAL keys share CIPH_PCH2. -/
def pchReg (c : Nat) : Nat := if c = 3 then 2 else c

/-- Removes a requester's operation and frees the cores it holds. -/
def dropOp (s : State) (u : KeyUser) : State :=
  { s with ciph := { s.ciph with
      ops := s.ciph.ops.filter fun o => o.who != u
      cores := s.ciph.cores.map fun c => if c == some u then none else c } }

/-- Adds an operation in arrival order. -/
def addOp (s : State) (o : CoreOp) : State := { s with ciph := { s.ciph with ops := s.ciph.ops ++ [o] } }

/-- A privileged channel's status (R268); SEAL reads BUSY while another of its messages is in flight. -/
def setPchStatus (s : State) (c st : Nat) : State :=
  let other := c == 2 && s.ciph.ops.any fun o => match o.who with | .seal _ => true | _ => false
  s.set (F.CIPH_PCH.status c) (if other then stBusy else st)

/-- The slots of an export or a precomputation that ends: the key an export derived is freed. -/
def slotsOf (s : State) (u : KeyUser) : List Nat :=
  match u with
  | .exp => (s.ciph.ops.filter fun o => o.who == u).map (·.slot)
  | _ => []

/-- A hardware user's operation ended without a result, which the user finds at its own step. -/
def noteEnded (s : State) (u : KeyUser) (st : Nat) : State :=
  { s with ciph := { s.ciph with ended := (s.ciph.ended.filter fun e => e.1 != u) ++ [(u, st)] } }

/-- Ends an operation without a result (R240, R256, R265, R267): output and result registers are zeroed, a hardware user notes
the status, the slot that precomputes stays without its values, and KT has served (R263). -/
def endOp (s : State) (u : KeyUser) (st : Nat) : State :=
  let l := slotsOf s u
  let pre := (s.ciph.ops.find? fun o => o.who == u).map (·.derId)
  let s := dropOp s u
  match u with
  | .ech e => setEchStatus (s.zero (F.CIPH_ECH_W20.out e 0).addr 4) e st
  | .der e => setDerStatus (s.set (F.KEYS_DER_W28.result e) 0) e st
  | .verd => match pre with
    | some i => s.modSlotT i fun t => { t with preFail := true }
    | none => s
  | .hauth => noteEnded (setPchStatus s 0 st) u st
  | .rcode => noteEnded (setPchStatus s 1 st) u st
  | .seal _ => noteEnded (setPchStatus s 2 st) u st
  | .exp =>
    let s := l.foldl (fun t h => { t with keys := { t.keys with slots := t.keys.slots.modify h fun k => { tag := k.tag } } }) s
    { s.set F.KEYS_WRAP.status st with keys := { s.keys with kt := 0, ktMask := 0 } }

/-- Operations that are to end and that no core runs end now: they stand at a block boundary (R256, R267). -/
def settleOps (s : State) : State :=
  s.ciph.ops.foldl
    (fun t o =>
      match o.ending with
      | some st => if t.ciph.cores.contains (some o.who) then t else endOp t o.who st
      | none => t) s

/-- Invalidates a set of slots: the slots are freed and operations in flight under them are to end KEY_REVOKED (R256). -/
def revokeSlots (s : State) (l : List Nat) : State :=
  let s := l.foldl (fun t h => modSlot t h emptySlot) s
  let ops := s.ciph.ops.map fun o =>
    if l.contains o.slot then { o with ending := some (o.ending.getD stRevoked) } else o
  let pch := s.ciph.pch.map fun p => p.bind fun h => if l.contains h then none else some h
  settleOps { s with ciph := { s.ciph with ops := ops, pch := pch } }

/-- Frees a handle and revokes every descendant (R250, R256). -/
def freeSlotTree (s : State) (h : Nat) : State := revokeSlots s (withDescendants s h)

/-- Places a derived key in a slot; the tag steps from 1 to 1 023 and wraps to 1 (R249). -/
def fillSlot (s : State) (h : Nat) (k : KeySlot) : State :=
  modSlot s h fun old => { k with live := true, tag := if old.tag < 1023 then old.tag + 1 else 1 }

/-- Why an engine's raw-block operation is refused, or none (R242, R249, R250, R253, R259, R266). -/
def echRefusal (s : State) (e handle : Nat) : Option Nat :=
  if s.flag F.KEYS_STAT.blocked then some stBlocked
  else if (activeRoot s).isNone then some stDenied
  else
    match slotOfHandle s handle e with
    | none => some stBadHandle
    | some h => if 2 ^ (keySlot s h).limE < (keySlot s h).uses + 1 then some stReuse else none

/-- The block an operation runs on (R242): KSTREAM's ends in the counter, the handle's use count. -/
def rawInput (kind uses blk : Nat) : Nat := if kind = 2 then blk / 2 ^ 32 * 2 ^ 32 + uses % 2 ^ 32 else blk

/-- A raw-block operation that is not BUSY (R242, R253): it is refused with a status, or counts one use of the handle and waits
for a core. -/
def echAdmit (s : State) (e : Fin 8) (kind handle : Nat) : State :=
  match echRefusal s e handle with
  | some st => countReuse (setEchStatus s e st) st
  | none =>
    let h := handle % 64
    let uses := (keySlot s h).uses
    let input := rawInput kind uses (echIn s e)
    let s := if kind = 2 then s.set (F.CIPH_ECH_W4.ctr e) uses else s
    let s := modSlot s h fun k => { k with uses := k.uses + 1 }
    setEchStatus (addOp s { who := .ech e, left := 1, slot := h, kind := kind, input := input }) e stBusy

/-- ENC, DEC and KSTREAM (R242): the channel latches IN and the handle and waits for a core; a refusal is its status.
A start while the channel is BUSY changes nothing. -/
def echStart (s : State) (e : Fin 8) (kind : Nat) (handle : BitVec 16) : State :=
  if s.get (F.CIPH_ECH_W4.status e) = stBusy then s
  else
    echAdmit (s.sets [(F.CIPH_ECH_W0.op e, kind), (F.CIPH_ECH_W0.handle e, handle.toNat), (F.CIPH_ECH_W4.abort_late e, 0)]) e kind
      handle.toNat

def execEnc (e : Fin 8) (handle : BitVec 16) (s : State) : Host.Outcome State Fault Refusal :=
  .next (onDom s 3 (echStart s e 0 handle))
def execDec (e : Fin 8) (handle : BitVec 16) (s : State) : Host.Outcome State Fault Refusal :=
  .next (onDom s 3 (echStart s e 1 handle))
def execKstream (e : Fin 8) (handle : BitVec 16) (s : State) : Host.Outcome State Fault Refusal :=
  .next (onDom s 3 (echStart s e 2 handle))

/-- ECH_OP_RESERVED (R242): op 3 is refused with DENIED. -/
def echOpReserved (s : State) (e : Fin 8) : State :=
  if s.get (F.CIPH_ECH_W4.status e) = stBusy then s
  else setEchStatus ((s.set (F.CIPH_ECH_W0.op e) 3).set (F.CIPH_ECH_W4.abort_late e) 0) e stDenied

def execEchOpReserved (e : Fin 8) (s : State) : Host.Outcome State Fault Refusal := .next (onDom s 3 (echOpReserved s e))

/-- ECH_ABORT (R267): the operation ends ABORTED at its next block boundary: at once while its block still waits, at the
end of its block once a core runs it. An abort at the completion leaves DONE with abort_late. -/
def echAbort (s : State) (e : Fin 8) (atCompletion : Bool) : State :=
  match opOf s (.ech e) with
  | some _ =>
    if s.ciph.cores.contains (some (.ech e)) then
      let ops := s.ciph.ops.map fun o =>
        if o.who = .ech e then { o with ending := some (o.ending.getD stAborted) } else o
      { s with ciph := { s.ciph with ops := ops } }
    else setEchStatus (dropOp s (.ech e)) e stAborted
  | none =>
    if atCompletion ∧ s.get (F.CIPH_ECH_W4.status e) = stDone then s.set (F.CIPH_ECH_W4.abort_late e) 1 else s

def execEchAbort (e : Fin 8) (atCompletion : Bool) (s : State) : Host.Outcome State Fault Refusal :=
  .next (onDom s 3 (echAbort s e atCompletion))

/-- The context bytes a requester gives (KEYS_DERn). -/
def derCtxBytes (s : State) (e : Nat) : List Byte :=
  ((List.range 8).flatMap fun w => bytesLe (s.get (F.KEYS_DER_W8.ctx e w)) 4).take (s.get (F.KEYS_DER_W4.ctx_len e))

/-- The whole context of an id: the tree puts VID before the requester's bytes of ids 5 to 9 (R33, R248); none where the
length does not fit the layout. -/
def derContext (s : State) (id : Nat) (given : List Byte) : Option (List Byte) :=
  if id = 5 ∨ id = 6 ∨ id = 7 ∨ id = 8 then (if given.length = 1 then some (vidBytes s ++ given) else none)
  else if id = 9 then (if given.length = 5 then some (vidBytes s ++ given) else none)
  else if given.length ≤ 32 then some given else none

/-- The label of an id an engine may request (R248); none refuses it. -/
def derLabel (s : State) (id : Nat) : Option (List Byte) :=
  if 5 ≤ id ∧ id ≤ 9 then some (labelBytes id)
  else if 16 ≤ id then planLabel s (id - 16)
  else none

/-- The context with the generation bytes set to zero, and the generation (R254). -/
def ctxGeneration (ctx : List Byte) (genPos : Nat) : List Byte × Option Nat :=
  if genPos = 0xFF ∨ ctx.length < genPos + 2 then (ctx, none)
  else ((ctx.set genPos 0#8).set (genPos + 1) 0#8, some (natBe ((ctx.drop genPos).take 2)))

/-- The fingerprint of R254 over the path of label ids, the label id and the context without its generation. -/
def fingerprintOf (path : List Nat) (id : Nat) (ctx : List Byte) (genPos : Nat) : BitVec 64 :=
  Config.fingerprint (path.map (BitVec.ofNat 8) ++ [0xFF#8, BitVec.ofNat 8 id] ++ (ctxGeneration ctx genPos).1)

/-- Whether the retirement records refuse a derivation (R254, R255). -/
def reuseRefused (s : State) (path : List Nat) (id : Nat) (ctx : List Byte) (genPos : Nat) : Bool :=
  s.flag F.KEYS_STAT.tomb_full ||
    s.keys.tombs.any fun t => t.print == fingerprintOf path id ctx genPos &&
      (match (ctxGeneration ctx genPos).2, t.gen with
       | some g, some r => decide (g ≤ r)
       | _, _ => true)

/-- The block operations of a derivation under a parent handle (R247, R252): its PRF blocks, and the subkey block of the
first CMAC under the handle. -/
def derBlocks (labelLen ctxLen : Nat) (l256 sub : Bool) : Nat :=
  (if l256 then 2 else 1) * cmacBlocks (4 + labelLen + 1 + ctxLen + 4) + (if sub then 0 else 1)

/-- What a derivation request of an engine resolves to, or the status that refuses it (R248 to R255, R266). -/
def derResolve (s : State) (e : Nat) : Except Nat CoreOp :=
  let parent := s.get (F.KEYS_DER_W0.parent e)
  let id := s.get (F.KEYS_DER_W0.id e)
  let l256 := s.flag (F.KEYS_DER_W0.l256 e)
  let genPos := s.get (F.KEYS_DER_W4.gen_pos e)
  if s.flag F.KEYS_STAT.blocked then .error stBlocked
  else if (activeRoot s).isNone then .error stDenied
  else
    match derLabel s id, derContext s id (derCtxBytes s e) with
    | some label, some ctx =>
      if l256 ∧ id < 16 then .error stDenied
      else if parent = 0xFFF0 then
        if id ≠ 5 then .error stDenied
        else if reuseRefused s [] id ctx genPos then .error stReuse
        else if (freeSlot s).isNone then .error stFull
        else .ok { who := .der e, left := derBlocks label.length ctx.length false false, slot := 48, derId := id
                   derCtx := ctx, limE := clampE s (s.get (F.KEYS_DER_W4.lim_e e)), genPos := genPos }
      else
        match slotOfHandle s parent e with
        | none => .error stBadHandle
        | some h =>
          let k := keySlot s h
          let n := derBlocks label.length ctx.length l256 k.sub
          if id = 5 ∨ (id < 16 ∧ k.id ≠ 5) then .error stDenied
          else if 4 ≤ k.depth then .error stDenied
          else if reuseRefused s (k.path ++ [k.id]) id ctx genPos then .error stReuse
          else if 2 ^ k.limE < k.uses + n then .error stReuse
          else if (freeSlot s).isNone then .error stFull
          else .ok { who := .der e, left := n, slot := h, derId := id, derCtx := ctx, l256 := l256
                     limE := clampE s (s.get (F.KEYS_DER_W4.lim_e e)), genPos := genPos }
    | _, _ => .error stDenied

/-- DERIVE_START (R248): the request is checked, counted against its parent, and waits for cores; a start while the
engine's derivation is BUSY changes nothing. -/
def deriveStart (s : State) (e : Fin 8) : State :=
  if s.get (F.KEYS_DER_W28.status e) = stBusy then s
  else
    match derResolve s e with
    | .error st => countReuse (setDerStatus s e st) st
    | .ok o =>
      let s := if o.slot < 48 then modSlot s o.slot fun k => { k with uses := k.uses + o.left, sub := true } else s
      setDerStatus (addOp s o) e stBusy

def execDeriveStart (e : Fin 8) (s : State) : Host.Outcome State Fault Refusal := .next (onDom s 3 (deriveStart s e))

/-- HANDLE_FREE (R250): the owner frees a handle; any other handle is refused with BAD_HANDLE. -/
def handleFree (s : State) (e : Fin 8) (handle : BitVec 16) : State :=
  match slotOfHandle s handle.toNat e with
  | some h => freeSlotTree s h
  | none => if s.get (F.KEYS_DER_W28.status e) = stBusy then s else setDerStatus s e stBadHandle

def execHandleFree (e : Fin 8) (handle : BitVec 16) (s : State) : Host.Outcome State Fault Refusal :=
  .next (onDom s 3 (handleFree s e handle))

/-- Writes the retirement record of a slot, or sets tomb_full (R254, R255). -/
def writeTomb (s : State) (k : KeySlot) : State :=
  if s.keys.tombs.length < 32 then
    let r : TombRec := { print := fingerprintOf k.path k.id k.ctx k.genPos, gen := (ctxGeneration k.ctx k.genPos).2 }
    { s with keys := { s.keys with tombs := s.keys.tombs ++ [r] } }
  else s.set F.KEYS_STAT.tomb_full 1

/-- HANDLE_RETIRE (R253): a handle whose count is at the limit, with its last operation completed, is freed with its
descendants and leaves a record; hardware users renew and never retire one (R255). -/
def handleRetire (s : State) (slot : Fin 48) : State :=
  let k := keySlot s slot
  if k.live ∧ k.owner < 8 ∧ k.uses = 2 ^ k.limE ∧ ¬ slotInUse s slot then writeTomb (freeSlotTree s slot) k else s

def execHandleRetire (slot : Fin 48) (s : State) : Host.Outcome State Fault Refusal := .next (handleRetire s slot)

/-- The label id, context and owner of the privileged keys: HAUTH, RCODE, SEAL for plans, SEAL for the Loft. -/
def pchSpec (s : State) (c : Nat) : Nat × List Byte × Nat :=
  if c = 0 then (1, [], 9)
  else if c = 1 then (4, vidBytes s ++ relgenBytes s, 10)
  else if c = 2 then (2, [], 11)
  else (3, [], 11)

/-- A privileged channel derives its key (R246); the slot is taken from the tree. -/
def pchDerive (s : State) (c : Nat) : State :=
  match activeRoot s, freeSlot s with
  | some root, some h =>
    let (id, ctx, owner) := pchSpec s c
    let s := fillSlot s h { key := rootKey root id ctx, depth := 1, owner := owner, id := id, ctx := ctx, limE := maxE s }
    { s with ciph := { s.ciph with pch := s.ciph.pch.set c (some h) } }
  | _, _ => s

/-- The channel holds its key: derived at first use and after a revocation (R246). -/
def pchReady (s : State) (c : Nat) : State := if (s.ciph.pch.getD c none).isSome then s else pchDerive s c

/-- KEY_RENEW (R246): at half its key's limit the channel frees the handle and derives a new one, without a record; a message in
flight under the handle ends first. -/
def keyRenew (s : State) (c : Fin 3) : State :=
  let one := fun (t : State) (i : Nat) =>
    match t.ciph.pch.getD i none with
    | some h =>
      if 2 ^ ((keySlot t h).limE - 1) ≤ (keySlot t h).uses ∧ ¬ slotInUse t h then pchDerive (freeSlotTree t h) i else t
    | none => t
  if c.val = 2 then one (one s 2) 3 else one s c

def execKeyRenew (c : Fin 3) (s : State) : Host.Outcome State Fault Refusal := .next (keyRenew s c)

/-- The block operations of a privileged message under its key (R252): its CMAC blocks, and the subkey block of the first. -/
def pchBlocks (s : State) (c len : Nat) : Nat :=
  cmacBlocks len + (match s.ciph.pch.getD c none with | some h => b2n (!(keySlot s h).sub) | none => 1)

/-- Why a privileged operation is refused: BLOCKED but for HAUTH, DENIED without a root or with a bad length, FULL where its key
finds no slot, REUSE where its blocks pass the key's limit (R245, R250, R253, R259, R266). -/
def pchRefusal (s : State) (c len : Nat) : Option Nat :=
  if s.flag F.KEYS_STAT.blocked ∧ c ≠ 0 then some stBlocked
  else if (activeRoot s).isNone then some stDenied
  else if len = 0 ∨ (c = 0 ∧ 4096 < len) ∨ (c = 1 ∧ len ≠ 24) ∨ 262144 < len then some stDenied
  else
    match s.ciph.pch.getD c none with
    | none => if (freeSlot s).isNone then some stFull else if 2 ^ maxE s < pchBlocks s c len then some stReuse else none
    | some h => if 2 ^ (keySlot s h).limE < (keySlot s h).uses + pchBlocks s c len then some stReuse else none

/-- The use count of a privileged key grows by its message's blocks (R252). -/
def pchCount (s : State) (c len : Nat) : State :=
  match s.ciph.pch.getD c none with
  | some h => modSlot s h fun k => { k with uses := k.uses + pchBlocks s c len, sub := true }
  | none => s

/-- The blocks of the derivation of a channel's key, three under the 256-bit root, or none where it holds one (R246, R247). -/
def pchDerBlocks (s : State) (c : Nat) : Nat := if (s.ciph.pch.getD c none).isSome then 0 else 3

/-- Completed blocks are counted (CIPH_CNT). -/
def blocksRun (s : State) (n : Nat) : State := s.set F.CIPH_CNT.blocks (s.get F.CIPH_CNT.blocks + n)

/-- A privileged channel's operation completed. -/
def pchDone (s : State) (c : Nat) : State :=
  (setPchStatus s (pchReg c) stDone).bump (F.CIPH_PCH.ops (pchReg c))

/-- One whole privileged CMAC within a step, with the status it ends with (R245): it is refused, or the key is ready, its blocks
are counted, and the channel reads DONE. -/
def pchTry (s : State) (c len : Nat) : State × Nat :=
  match pchRefusal s c len with
  | some st => (countReuse (setPchStatus s (pchReg c) st) st, st)
  | none =>
    let n := pchBlocks s c len + pchDerBlocks s c
    (pchDone (blocksRun (pchCount (pchReady s c) c len) n) c, stDone)

def pchRun (s : State) (c len : Nat) : State := (pchTry s c len).1

/-- A hardware user asks a privileged channel for a CMAC (R245): a refusal is noted for him, or the operation competes for the
cores and ends by the step that brings its result. With PD_TACK off nothing starts. -/
def pchAsk (s : State) (u : KeyUser) (c len : Nat) : State :=
  let s := dropOp s u
  let s : State := { s with ciph := { s.ciph with ended := s.ciph.ended.filter fun e => e.1 != u } }
  if ¬ domOn s 3 then s
  else
    match pchRefusal s c len with
    | some st => noteEnded (countReuse (setPchStatus s (pchReg c) st) st) u st
    | none =>
      let n := pchBlocks s c len + pchDerBlocks s c
      let s := pchCount (pchReady s c) c len
      let s := addOp s { who := u, left := n, slot := (s.ciph.pch.getD c none).getD 48, kind := c }
      s.set (F.CIPH_PCH.status (pchReg c)) stBusy

/-- The result a step brings of a hardware user's operation: the status the model already holds where it ended early or is to,
else the one given; blocks that no BLOCK_DONE reported have run with it. An operation that never started runs whole. -/
def pchResult (s : State) (u : KeyUser) (c len given : Nat) : State × Nat :=
  match opOf s u, s.ciph.ended.find? fun e => e.1 == u with
  | some o, _ =>
    let st := o.ending.getD given
    let s := dropOp (blocksRun s (if st = stDone then o.left else 0)) u
    (if st = stDone then pchDone s c else setPchStatus s (pchReg c) st, st)
  | none, some e => ({ s with ciph := { s.ciph with ended := s.ciph.ended.filter fun x => x.1 != u } }, e.2)
  | none, none => if given = stDone then pchTry s c len else (setPchStatus s (pchReg c) given, given)

/-- The priority classes of R241; an export, which the table does not list, derives its key like an engine (log entry 167). -/
def userClass (u : KeyUser) : Nat :=
  match u with
  | .verd => 1
  | .rcode => 2
  | .hauth => 3
  | .seal _ => 4
  | .der _ => 5
  | .exp => 5
  | .ech _ => 6

/-- Whether an operation stands at raw blocks: an engine's, or the STS of a precomputation (R240, R484). -/
def rawOp (o : CoreOp) : Bool := match o.who with | .ech _ => true | .verd => o.kind == 6 | _ => false

/-- One core for a raw block, two for a CMAC block (R240, R241). -/
def coresNeeded (o : CoreOp) : Nat := if rawOp o then 1 else 2

/-- Operations that wait for a core: one CMAC block runs at a time, raw blocks run side by side (R241, R484). -/
def waitingOps (s : State) : List CoreOp :=
  s.ciph.ops.filter fun o =>
    let n := (s.ciph.cores.filter fun c => c == some o.who).length
    if rawOp o then decide (n < o.left) else decide (0 < o.left) && n == 0

/-- The round-robin distance of an engine channel from the one after the last served (R241). -/
def rrDist (rr e : Nat) : Nat := (e + 15 - rr) % 8

/-- The next operation by class, then arrival; engine channels round robin (R241). -/
def nextOp (s : State) : Option CoreOp :=
  let better := fun (a b : CoreOp) =>
    if userClass b.who < userClass a.who then b
    else
      match a.who, b.who with
      | .ech i, .ech j => if rrDist s.ciph.rr j < rrDist s.ciph.rr i then b else a
      | _, _ => a
  match waitingOps s with
  | [] => none
  | o :: t => some (t.foldl better o)

/-- The cores that run nothing. -/
def freeCores (s : State) : List Nat := (List.range 4).filter fun i => (s.ciph.cores.getD i none).isNone

/-- CORE_DISPATCH (R239, R241): the highest waiting request takes its cores, or nothing starts; a core without
randomness holds the block and pool_low reads 1. -/
def coreDispatch (s : State) : State :=
  match nextOp s with
  | none => s
  | some o =>
    let cs := (freeCores s).take (coresNeeded o)
    if cs.length < coresNeeded o then s
    else if cs.any fun i => s.ciph.pools.getD i 0 == 0 then s.set F.CIPH_STAT.pool_low 1
    else
      let rr := match o.who with | .ech e => e | _ => s.ciph.rr
      let s := s.set F.CIPH_STAT.pool_low 0
      { s with ciph := { s.ciph with
          cores := cs.foldl (fun l i => l.set i (some o.who)) s.ciph.cores
          pools := cs.foldl (fun l i => l.modify i (· - 1)) s.ciph.pools
          rr := rr } }

/-- The code CIPH_FAULT.last_req records for a requester. -/
def faultReq (u : KeyUser) : Nat :=
  match u with
  | .ech e => e
  | .verd => 8
  | .hauth => 9
  | .rcode => 10
  | .seal _ => 11
  | .der _ => 12
  | .exp => 12

/-- An engine's block completes: its output is released (R240, R242). -/
def echComplete (s : State) (e : Nat) (o : CoreOp) : State :=
  let k := keySlot s o.slot
  let out := if o.kind = 1 then aesDec k.k256 k.key o.input else aesEnc k.k256 k.key o.input
  setEchStatus (setEchOut (dropOp s o.who) e out) e stDone

/-- A derivation completes: the key takes a slot and the handle is returned (R247, R249). -/
def derComplete (s : State) (e : Nat) (o : CoreOp) : State :=
  let s := dropOp s o.who
  match freeSlot s with
  | none => setDerStatus s e stFull
  | some h =>
    let p := keySlot s o.slot
    let label := (derLabel s o.derId).getD []
    let rootP := decide (48 ≤ o.slot)
    let key := if rootP then kdf true ((activeRoot s).getD 0) label o.derCtx o.l256
      else kdf p.k256 p.key label o.derCtx o.l256
    let k : KeySlot := {
      key := key, k256 := o.l256, depth := if rootP then 1 else p.depth + 1, owner := e, id := o.derId
      parent := if rootP then 63 else o.slot, limE := o.limE, path := if rootP then [] else p.path ++ [p.id]
      ctx := o.derCtx, genPos := o.genPos }
    let s := fillSlot s h k
    setDerStatus (s.set (F.KEYS_DER_W28.result e) (handleOf s h)) e stDone

/-- A requester's status register alone. -/
def userStatus (s : State) (u : KeyUser) (st : Nat) : State :=
  match u with
  | .ech e => s.set (F.CIPH_ECH_W4.status e) st
  | .der e => s.set (F.KEYS_DER_W28.status e) st
  | .verd => s
  | .hauth => s.set (F.CIPH_PCH.status 0) st
  | .rcode => s.set (F.CIPH_PCH.status 1) st
  | .seal _ => s.set (F.CIPH_PCH.status 2) st
  | .exp => s.set F.KEYS_WRAP.status st

/-- Every operation in flight ends with a status and no output (R265, R267). -/
def endAllOps (s : State) (st : Nat) : State := s.ciph.ops.foldl (fun t o => endOp t o.who st) s

/-- Every slot is zeroed and freed. -/
def wipeSlots (s : State) : State :=
  { s with keys := { s.keys with slots := s.keys.slots.map emptySlot }
           ciph := { s.ciph with pch := [none, none, none, none] } }

/-- Every derived handle is lost by other means than a tamper (R256, R260, R262): operations in flight are to end KEY_REVOKED at
their next block boundary. -/
def loseHandles (s : State) : State :=
  let s := wipeSlots s
  settleOps { s with ciph := { s.ciph with ops := s.ciph.ops.map fun o => { o with ending := some (o.ending.getD stRevoked) } } }

/-- The wipe of R265: operations end TAMPER, outputs and results are zeroed, every slot is freed, blocked is set; the
RNG queue is emptied and the next request waits for a forced reseed (R278). -/
def wipeHandles (s : State) : State :=
  let s := endAllOps s stTamper
  let s := (List.range 8).foldl (fun t e => (t.zero (F.CIPH_ECH_W20.out e 0).addr 4).set (F.KEYS_DER_W28.result e) 0) s
  let s := (wipeSlots s).zero (F.KEYS_WOUT.w 0).addr 6
  let s := (s.set F.KEYS_STAT.blocked 1).set F.KEYS_STAT.wiped 1
  { s with rng := { s.rng with queue := [], forced := true } }

/-- The life-cycle state and root fields are held in antifuse: both the register and the fuse copy change (R259). -/
def setLc (s : State) (f : Fld) (v : Nat) : State :=
  let s := s.set f v
  { s with fuses := Store.put s.fuses f.addr (putBits (Store.get s.fuses f.addr) f.lo f.len v) }

/-- Root slots neither complete nor spoilt. -/
def usableRoots (s : State) : List Nat := (List.range 5).filter fun i => !(s.keys.roots.getD i {}).programmed

/-- ROOT_FILL_STEP (R258): in BLANK the next unused slot is programmed from the expander's 256 bits, its marker last; a
torn write leaves it without a marker, skipped for good. Three complete slots make the state MAKER; too few usable slots
set root_fail. -/
def rootFillStep (s : State) (torn : Bool) : State :=
  match lifeState s, s.keys.rootBuf, usableRoots s with
  | 0, a :: b :: _, i :: _ =>
    let slot : RootSlot := { key := a * 2 ^ 128 + b, programmed := true, marker := !torn }
    let s : State := { s with keys := { s.keys with roots := s.keys.roots.set i slot, rootBuf := [] } }
    let s := if torn then s else setLc s F.KEYS_LC.slots (setBit (s.get F.KEYS_LC.slots) i)
    let full := (completedRoots s).length
    if 3 ≤ full then setLc s F.KEYS_LC.state 1
    else if full + (usableRoots s).length < 3 then setLc s F.KEYS_LC.root_fail 1
    else s
  | _, _, _ => s

def execRootFillStep (torn : Bool) (s : State) : Host.Outcome State Fault Refusal := .next (rootFillStep s torn)

end Sys2Proof.Machine
end

