-- ==== Sys2Proof/Machine/Loft.lean ====
section
/-!
DEFINITION. The Loft (chapter 12): the front and its protection, gathers and commits, stores, recall, the power-fail
store, the rings and the sealed regions.
-/
namespace Sys2Proof.Machine

/-- LOFT_STAT.state codes. -/
def loftRecall : Nat := 1
def loftReady : Nat := 2
def loftStoring : Nat := 3
def loftPf : Nat := 4

/-- The LOFT_STAT.owner code of a requester; 9 is the plan loader. -/
def loftOwner (src : Src) : Nat := match src with | .host _ => 0 | .engine n => n.val + 1

/-- First offset and length in bytes of sealed region `q`; none when unused (LOFT_SEALq). -/
def sealRegion (s : State) (q : Nat) : Option (Nat × Nat) :=
  let npg := s.get (F.LOFT_SEAL.npg q)
  if 1 ≤ npg ∧ npg ≤ 16 then some (256 * s.get (F.LOFT_SEAL.page q), 256 * npg) else none

/-- The sealed regions that hold offset `off`. -/
def sealsAt (s : State) (off : Nat) : List Nat :=
  (List.range 4).filter fun q =>
    match sealRegion s q with
    | some (b, n) => decide (b ≤ off) && decide (off < b + n)
    | none => false

/-- Whether an access waits for the verification of a sealed region (R303). -/
def sealUnverified (s : State) (off : Nat) : Bool := (sealsAt s off).any fun q => !s.flag (F.LOFT_SEAL.verified q)

/-- Whether `off` is one of the tag bytes of a sealed region (R302). -/
def sealTagAt (s : State) (off : Nat) : Bool :=
  (sealsAt s off).any fun q =>
    match sealRegion s q with
    | some (b, n) => decide (b + n - 16 ≤ off)
    | none => false

/-- The first offset LOFT_CFG.bp protects (R283). -/
def bpStart (s : State) : Nat :=
  match s.get F.LOFT_CFG.bp with
  | 0 => 0x8_0000
  | 1 => 0x6_0000
  | 2 => 0x4_0000
  | _ => 0

/-- Whether a host or engine write is refused by protection (R283). -/
def loftProtected (s : State) (off : Nat) : Bool :=
  decide (off < 0x4_0000) || decide (bpStart s ≤ off) || sealTagAt s off
    || (s.yard.applied && decide (s.yard.tctrOff ≤ off) && decide (off < s.yard.tctrOff + 64))

/-- How a Loft access ended: taken, refused as busy, refused by protection (codes of yerr, R310). -/
def accOk : Nat := 0
def accBusy : Nat := 2
def accProt : Nat := 3

/-- Whether the window refuses every access: recall has not ended (R292). -/
def loftClosed (s : State) : Bool := s.get F.LOFT_STAT.state == loftRecall

/-- Whether a store is copying or about to: commits wait (R287). -/
def storeRuns (s : State) : Bool := match s.loft.store with | some r => r.begun | none => false

/-- A write of the sealing logic or the loader into the front; while a store runs it waits, so that the front does not change
during the page copy (R287). -/
def putFront (s : State) (off n : Nat) (m : Mem) : State :=
  if storeRuns s then { s with loft := { s.loft with frontWait := s.loft.frontWait ++ [(off, n, m)] } }
  else { s with loft := { s.loft with front := Store.copy s.loft.front m off 0 n } }

/-- The writes that waited for the store are made, in order. -/
def frontCatchUp (s : State) : State :=
  { s with loft := { s.loft with
      front := s.loft.frontWait.foldl (fun m e => Store.copy m e.2.2 e.1 0 e.2.1) s.loft.front, frontWait := [] } }

/-- The offset after a gather's last word. -/
def gatherNext (g : Gather) : Nat := g.start + 4 * g.words.length

/-- Opens a gather with one word. -/
def openGather (s : State) (owner off : Nat) (data : Word) : State :=
  { s with loft := { s.loft with gather := some { owner := owner, start := off, words := [data] } } }

/-- A window write by a requester (R283, R285, R292): the state after it and how it ended. -/
def loftWrite (s : State) (owner off : Nat) (data : Word) : State × Nat :=
  if loftClosed s || (owner != 9 && sealUnverified s off) then (s, accBusy)
  else if owner != 9 && loftProtected s off then (s.set F.LOFT_STAT.prot_viol 1, accProt)
  else
    match s.loft.gather with
    | none =>
      match s.loft.commit with
      | some c => if c.owner = owner then (openGather s owner off data, accOk) else (s, accBusy)
      | none => (openGather s owner off data, accOk)
    | some g =>
      if g.owner ≠ owner then (s, accBusy)
      else if off = gatherNext g then
        if 1024 ≤ g.words.length then (s, accBusy)
        else
          let g' := { g with words := g.words ++ [data], waiting := g.waiting || decide (g.words.length = 1023) }
          ({ s with loft := { s.loft with gather := some g' } }, accOk)
      else if g.waiting || s.loft.due.isSome then (s, accBusy)
      else if storeRuns s || s.loft.commit.isSome then
        (openGather { s with loft := { s.loft with due := some { g with waiting := true } } } owner off data, accOk)
      else (openGather { s with loft := { s.loft with commit := some g } } owner off data, accOk)

/-- LOFT_WINDOW_WRITE (R285, R30): an engine's refusal is recorded in its STATUS.yerr (R310). -/
def loftWindowWrite (s : State) (src : Src) (off : BitVec 19) (data : Word) : State :=
  let off := off.toNat / 4 * 4
  let (t, code) := loftWrite s (loftOwner src) off data
  match src with
  | .host _ => t
  | .engine n => if code = accOk then t else t.set (F.GROOM_STAT.yerr n) code

/-- A window write with PD_STOR off is refused (R30, R310). -/
def loftWindow (s : State) (src : Src) (off : BitVec 19) (data : Word) : State :=
  if domOn s 9 then loftWindowWrite s src off data
  else match src with | .host _ => s | .engine n => s.set (F.GROOM_STAT.yerr n) 1

/-- Makes the open gather's commit fall due (R286). -/
def commitDue (s : State) : State :=
  match s.loft.gather with
  | some g => { s with loft := { s.loft with gather := some { g with waiting := true } } }
  | none => s

/-- COMMIT (R286): the owner commits its open gather. -/
def loftCommit (s : State) (src : Src) : State :=
  match s.loft.gather with
  | some g => if g.owner = loftOwner src then commitDue s else s
  | none => s

/-- GATHER_TIMEOUT (R286): 1.000 ms after the owner's last write the gather falls due. -/
def execGatherTimeout (s : State) : Host.Outcome State Fault Refusal := .next (commitDue s)

/-- Whether the commit that would run touches a sealed region while SEAL is unavailable (R302). -/
def commitHeld (s : State) (g : Gather) : Bool :=
  (s.flag F.KEYS_STAT.blocked || !domOn s 3) &&
    (List.range g.words.length).any fun i => !(sealsAt s (g.start + 4 * i)).isEmpty

/-- The gather whose commit comes next: the one that waits already, else the open one. -/
def nextGather (s : State) : Option Gather := match s.loft.due with | some g => some g | none => s.loft.gather

/-- COMMIT_START (R286, R287): a due gather starts into the front once no store runs. -/
def commitStart (s : State) : State :=
  match nextGather s, s.loft.commit with
  | some g, none =>
    if g.waiting && !storeRuns s && !commitHeld s g then
      { s with loft := { s.loft with
          gather := if s.loft.due.isSome then s.loft.gather else none, due := none, commit := some { g with waiting := false } } }
    else s
  | _, _ => s

def execCommitStart (s : State) : Host.Outcome State Fault Refusal := .next (commitStart s)

/-- Writes the words of a gather into a byte memory. -/
def putWords (m : Mem) (off : Nat) (l : List Word) : Mem :=
  match l with
  | [] => m
  | w :: t => putWords (Mem.putWord m off w) (off + 4) t

/-- SEAL is asked for the tag of a sealed region (R302). -/
def askTag (s : State) (q : Nat) : State :=
  match sealRegion s q with
  | some (_, n) => pchAsk s (.seal q) 3 (12 + n - 16)
  | none => s

/-- Marks the regions a commit changed for a new tag and asks for it (R302). -/
def markReseal (s : State) (g : Gather) : State :=
  (List.range 4).foldl
    (fun t q =>
      match sealRegion t q with
      | some (b, n) =>
        if g.start < b + n ∧ b < gatherNext g ∧ g.words ≠ [] then askTag (t.set (F.LOFT_SEAL.resealing q) 1) q else t
      | none => t) s

/-- COMMIT_END (R286, R302): the gather is in the front; a waiting store may start. -/
def commitEnd (s : State) : State :=
  match s.loft.commit with
  | some g =>
    let front := s.loft.tctrWait.foldr (fun e m => Mem.putWord m e.1 e.2) (putWords s.loft.front g.start g.words)
    let s : State := { s with loft := { s.loft with commit := none, front := front, tctrWait := [] } }
    raiseSource ((markReseal s g).bump F.LOFT_CNT.commits) 0x10
  | none => s

/-- Discards the open gather of an owner; the one that waits before it is then the only one. -/
def dropGather (s : State) (owner : Nat) : State :=
  match s.loft.gather with
  | some g => if g.owner = owner then { s with loft := { s.loft with gather := s.loft.due, due := none } } else s
  | none => s

/-- Discards every gather whose commit has not started (R295, R304). -/
def dropGathers (s : State) : State := { s with loft := { s.loft with gather := none, due := none } }

/-- GABORT (R287): the owner discards its open gather; in the cycle in which the commit starts it is late. -/
def gabort (s : State) (src : Src) (atStart : Bool) : State :=
  if atStart then
    let t := commitStart s
    match t.loft.commit with
    | some g => if g.owner = loftOwner src then t.set F.LOFT_STAT.abort_late 1 else s
    | none => dropGather s (loftOwner src)
  else dropGather s (loftOwner src)

/-- A store is requested (R290): held during recall, merged into one pending store while one runs. -/
def requestStore (s : State) : State :=
  if loftClosed s then { s with loft := { s.loft with heldReq := true } }
  else
    match s.loft.store with
    | none => { s with loft := { s.loft with store := some {} } }
    | some r => if r.begun then s.set F.LOFT_STAT.store_pend 1 else s

/-- A store is requested by one who waits for its end: the one about to start, or the pending one while one runs. -/
def requestStoreFor (s : State) (who : Nat) : State :=
  let next := storeRuns s
  let s := requestStore s
  let put := fun (l : List Nat) => l.filter (· != who) ++ [who]
  if next then { s with loft := { s.loft with waitNext := put s.loft.waitNext } }
  else { s with loft := { s.loft with waitNow := put s.loft.waitNow } }

/-- The requesters that wait for a store: the generation, the plan loader, a life-cycle transition, standby, the farrier. -/
def wtGen : Nat := 0
def wtPlan : Nat := 1
def wtLife : Nat := 2
def wtSleep : Nat := 3
def wtFarr : Nat := 4

/-- Whether a requester's store has ended. -/
def storeOver (s : State) (who : Nat) : Bool := !s.loft.waitNow.contains who && !s.loft.waitNext.contains who

/-- LOFT_STORE (R290): the host needs a valid tag; an engine reaches the bit through its route. -/
def loftStore (s : State) (src : Src) : State :=
  match src with
  | .host false => s
  | _ => requestStore s

/-- Slots a ring uses and its interval and owner as they act (R298, LOFT_RCFGr). -/
def ringSlots (s : State) (r : Nat) : Nat := s.get (F.LOFT_RCFG.nslots r)
def ringN (s : State) (r : Nat) : Nat := orDefault (s.get (F.LOFT_RCFG.n r)) 1
def ringOwner (s : State) (r : Nat) : Nat :=
  let o := s.get (F.LOFT_RCFG.owner r)
  if 5 ≤ o then 0 else o

/-- The live value of a ring. -/
def ringLive (s : State) (r : Nat) : Nat := s.get (F.LOFT_RVAL_W0.val_lo r) + 2 ^ 32 * s.get (F.LOFT_RVAL_W4.val_hi r)

/-- The 16 bytes of a slot (R299). -/
def slotBytes (value seq : Nat) : List Byte :=
  let b := bytesLe value 8 ++ bytesLe seq 4 ++ [0#8, 0#8]
  b ++ bytesLe (crc16 b) 2

/-- Slot `i` of ring `r` as stored. -/
def storedSlot (s : State) (r i : Nat) : List Byte := Store.getList s.loft.rings (16 * (64 * r + i)) 16

/-- Value and sequence of a slot whose CRC is valid (R301). -/
def slotValid (b : List Byte) : Option (Nat × Nat) :=
  if crc16 (b.take 14) = natLe (b.drop 14) then some (natLe (b.take 8), natLe ((b.drop 8).take 4)) else none

/-- Whether the ring's live value differs from its newest slot (R289, R300). -/
def ringDirty (s : State) (r : Nat) : Bool :=
  if ringOwner s r = 0 then false
  else if s.flag (F.LOFT_RVAL_WC.empty r) then s.get (F.LOFT_RVAL_WC.pend r) != 0
  else
    let n := ringSlots s r
    let i := if n = 0 then 0 else s.get (F.LOFT_RVAL_W8.seq r) % n
    match slotValid (storedSlot s r i) with
    | some (v, _) => v != ringLive s r
    | none => true

/-- A slot write of a latched value completes (R299, R300, R301). -/
def writeSlot (s : State) (r value : Nat) : State :=
  let seq := s.get (F.LOFT_RVAL_W8.seq r)
  if seq = 0xFFFF_FFFF then s.set (F.LOFT_RVAL_WC.seq_end r) 1
  else
    let n := ringSlots s r
    let i := if n = 0 then 0 else (seq + 1) % n
    let rings := Store.putList s.loft.rings (16 * (64 * r + i)) (slotBytes value (seq + 1))
    (({ s with loft := { s.loft with rings := rings } } : State).set (F.LOFT_RVAL_W8.seq r) (seq + 1)).set
      (F.LOFT_RVAL_WC.empty r) 0

/-- A slot write falls due: the value is latched and changes count anew (R300). -/
def slotDue (s : State) (r : Nat) : State :=
  let s := s.set (F.LOFT_RVAL_WC.pend r) 0
  { s with loft := { s.loft with ringWrites := s.loft.ringWrites ++ [(r, ringLive s r)] } }

/-- A change of a ring's live value (R300): every Nth writes a slot. -/
def ringChanged (s : State) (r : Nat) : State :=
  let s := s.bump (F.LOFT_RVAL_WC.pend r)
  if ringN s r ≤ s.get (F.LOFT_RVAL_WC.pend r) then slotDue s r else s

/-- The session manager or the plan loader sets its ring's live value: one change. -/
def ringSet (s : State) (r value : Nat) : State :=
  let r := r % 16
  ringChanged ((s.set (F.LOFT_RVAL_W0.val_lo r) value).set (F.LOFT_RVAL_W4.val_hi r) (value / 2 ^ 32)) r

/-- Whether a requester owns ring `r` (R300, LOFT_RCFGr): the host needs a tag. -/
def ringOwned (s : State) (src : Src) (r : Nat) : Bool :=
  match src with
  | .host t => t && ringOwner s r == 1
  | .engine _ => ringOwner s r == 2

/-- RING_CHANGE (R300): the owner's write of val_hi is a change; anyone else's, or one during recall, is refused. -/
def ringChange (s : State) (src : Src) (r : Fin 16) (hi : Word) : State :=
  if loftClosed s || !ringOwned s src r then
    match src with
    | .host _ => s
    | .engine n => s.set (F.GROOM_STAT.yerr n) accBusy
  else ringChanged (s.setWord (F.LOFT_RVAL_W4.val_hi r).addr hi) r

/-- RING_SLOT_WRITE_DONE (R299, R300): the oldest slot write due for the ring completes. -/
def ringSlotWriteDone (s : State) (r : Fin 16) : State :=
  match s.loft.ringWrites.find? fun e => e.1 == r.val with
  | some e => writeSlot { s with loft := { s.loft with ringWrites := s.loft.ringWrites.erase e } } r e.2
  | none => s

def execRingSlotWriteDone (r : Fin 16) (s : State) : Host.Outcome State Fault Refusal :=
  .next (ringSlotWriteDone s r)

/-- Step 1 of a store: every changed ring writes a slot, those being written first (R289, R300). -/
def storeRings (s : State) : State :=
  let s := s.loft.ringWrites.foldl (fun t e => writeSlot t (e.1 % 16) e.2) s
  let s : State := { s with loft := { s.loft with ringWrites := [] } }
  (List.range 16).foldl
    (fun t r => if ringDirty t r then writeSlot (t.set (F.LOFT_RVAL_WC.pend r) 0) r (ringLive t r) else t) s

/-- Whether a copy is valid, with its generation and record (R288). -/
def copyValid (c : LoftCopy) : Option (Nat × StoreRec) :=
  match c.commit with
  | some (g, r) => if g = c.start then some (g, r) else none
  | none => none

/-- Whether the store goes into copy B: the invalid copy, or the one with the lower generation; A on a blank device
(R289). -/
def storeToB (s : State) : Bool :=
  match copyValid s.loft.copyA, copyValid s.loft.copyB with
  | some (a, _), some (b, _) => decide (b < a)
  | some _, none => true
  | _, _ => false

/-- The newest valid generation, 0 with none. -/
def newestGen (s : State) : Nat :=
  match copyValid s.loft.copyA, copyValid s.loft.copyB with
  | some (a, _), some (b, _) => max a b
  | some (a, _), none => a
  | none, some (b, _) => b
  | none, none => 0

/-- STORE_START (R289): once no commit runs, the ring slots are written and the older copy's start word is written and
its commit word erased; with the generations used up the store is refused after its rings. -/
def storeStart (s : State) : State :=
  match s.loft.store, s.loft.commit with
  | some r, none =>
    if r.begun then s
    else
      let s := storeRings s
      if newestGen s = 0xFFFF_FFFE then
        let s := s.set F.LOFT_STAT.gen_end 1
        { s with loft := { s.loft with store := some { r with begun := true, refused := true } } }
      else
        let g := newestGen s + 1
        let b := storeToB s
        let s := s.set F.LOFT_STAT.state (if r.pf then loftPf else loftStoring)
        let mark := fun (c : LoftCopy) => { c with start := g, commit := none }
        { s with loft := { s.loft with
            store := some { r with begun := true, gnew := g, toB := b }
            copyA := if b then s.loft.copyA else mark s.loft.copyA
            copyB := if b then mark s.loft.copyB else s.loft.copyB } }
  | _, _ => s

def execStoreStart (s : State) : Host.Outcome State Fault Refusal := .next (storeStart s)

/-- The store record a store writes (R288, R295). -/
def storeRecord (s : State) (r : StoreRun) : StoreRec :=
  match s.loft.torn with
  | some (page, ptr) =>
    { result := if r.pf then 2 else 1, torn := true, page := page, ptr := ptr, gatherLost := s.loft.lost, vpf := r.vpf }
  | none => { result := if r.pf then 2 else 1, gatherLost := s.loft.lost, vpf := r.vpf }

/-- The copies with the front written into the older one and its commit word set (R289). -/
def storeCopies (s : State) (r : StoreRun) : State :=
  let c : LoftCopy := { mem := s.loft.front, start := r.gnew, commit := some (r.gnew, storeRecord s r) }
  let l := s.loft
  ({ s with loft := { l with copyA := if r.toB then l.copyA else c, copyB := if r.toB then c else l.copyB
                             torn := none, lost := false } } : State).sets
    [(F.LOFT_GEN.g, r.gnew), (F.LOFT_STAT.gen_end, b2n (r.gnew == 0xFFFF_FFFE))]

/-- PD_STOR loses its supply: front and live ring values are lost, recall runs at the next power-up (R291, R304). A tag being
computed stops short (R245). -/
def storPowerOff (s : State) : State :=
  let s := [0, 1, 2, 3].foldl (fun t q => if (opOf t (.seal q)).isSome then endOp t (.seal q) stCut else t) s
  let s := s.zero (F.LOFT_RVAL_W0.val_lo 0).addr 64
  let s := s.set F.LOFT_STAT.state loftRecall
  { s with loft := { copyA := s.loft.copyA, copyB := s.loft.copyB, rings := s.loft.rings } }

/-- The end of the running store for the Loft itself (R289, R290): the commit word, the counters, the pending store. -/
def storeEnd (s : State) (r : StoreRun) : State :=
  let s := if r.refused then s else (storeCopies s r).bump F.LOFT_CNT.stores
  let s := if r.refused then s else tallyEvent s 0x0D
  let s := raiseSource s 0x11
  if r.pf then storPowerOff s
  else
    let s := frontCatchUp (s.set F.LOFT_STAT.state loftReady)
    let s : State := { s with loft := { s.loft with waitNow := s.loft.waitNext, waitNext := [] } }
    if s.flag F.LOFT_STAT.store_pend then
      let s := s.set F.LOFT_STAT.store_pend 0
      { s with loft := { s.loft with store := some {} } }
    else { s with loft := { s.loft with store := none } }

/-- DROOP_MEASURE_END (R297): droop and capacitance estimate; below the alarm level hold_low is set and the drift is
reported. A droop of 0 has no quotient, so the estimate is a free value. -/
def droopMeasureEnd (s : State) (mv : BitVec 12) : State :=
  match s.loft.store with
  | some r =>
    if r.begun && !r.pf then
      let (k, s) := s.fresh
      let est := if mv = 0 then (Config.freeWord k).toNat % 4096 else min 4095 (divRound 100000 mv.toNat).toNat
      let s := (s.set F.LOFT_HOLD.droop mv.toNat).set F.LOFT_HOLD.c_est est
      let s : State := if s.get F.HLTH_STAT.farr_step = 4 then { s with hlth := { s.hlth with cEst := some est } } else s
      if est < orDefault (s.get F.LOFT_CFG.c_min) 470 then driftBit (s.set F.LOFT_STAT.hold_low 1) F.HLTH_DRIFT.hold 0
      else s
    else s
  | none => s

def execDroopMeasureEnd (mv : BitVec 12) (s : State) : Host.Outcome State Fault Refusal :=
  .next (droopMeasureEnd s mv)

/-- The tag of a sealed region (R302). -/
def sealTag (s : State) (key q : Nat) : Nat :=
  match sealRegion s q with
  | some (b, n) =>
    cmac false key (ascii "LOFT" ++ bytesBe b 4 ++ bytesBe n 4 ++ Store.getList s.loft.front b (n - 16))
  | none => 0

/-- The stored tag of a sealed region. -/
def storedTag (s : State) (q : Nat) : Nat :=
  match sealRegion s q with
  | some (b, n) => natBe (Store.getList s.loft.front (b + n - 16) 16)
  | none => 0

/-- Writes a region's tag into the front. -/
def putTag (s : State) (q tag : Nat) : State :=
  match sealRegion s q with
  | some (b, n) => putFront s (b + n - 16) 16 (Store.putList [] 0 (bytesBe tag 16))
  | none => s

/-- The state a transition leads to, its code in KEYS_LC (R259). -/
def lcCode (t : LcTarget) : Nat :=
  match t with
  | .field => 2
  | .shop => 3
  | .retired => 4

/-- The root sealed objects are written under: the active one, or the next state's while a transition waits for its store
(R260). -/
def sealRoot (s : State) : Option Nat :=
  match s.keys.lcPend with
  | some .retired => activeRoot s
  | some t => rootOf s (lcCode t)
  | none => activeRoot s

/-- SEAL_TAG_DONE (R245, R302): a recomputed tag goes into the front; an operation that ended without a tag is asked for again. -/
def sealTagDone (s : State) (q : Fin 4) : State :=
  match sealRoot s, sealRegion s q with
  | some root, some (_, n) =>
    if s.flag (F.LOFT_SEAL.resealing q) ∧ domOn s 3 then
      let (s, st) := pchResult s (.seal q) 3 (12 + n - 16) stDone
      if st = stDone then (putTag s q (sealTag s (kSealL root) q)).set (F.LOFT_SEAL.resealing q) 0 else askTag s q
    else s
  | _, _ => s

def execSealTagDone (q : Fin 4) (s : State) : Host.Outcome State Fault Refusal := .next (sealTagDone s q)

/-- Whether a stored slot was ever written: an all-zero slot is blank. -/
def slotBlank (b : List Byte) : Bool := b.all fun x => x == 0#8

/-- The scan of one ring (R301): the valid slot with the highest sequence becomes the live value. -/
def scanRing (s : State) (r : Nat) : State :=
  let slots := (List.range 64).map fun i => storedSlot s r i
  let best := slots.foldl
    (fun a b =>
      match slotValid b, a with
      | some (v, q), some (_, q0) => if q0 < q then some (v, q) else a
      | some (v, q), none => some (v, q)
      | none, _ => a) (none : Option (Nat × Nat))
  let bad := (slots.filter fun b => (slotValid b).isNone && !slotBlank b).length
  let s := s.sets [(F.LOFT_RVAL_WC.pend r, 0), (F.LOFT_RVAL_WC.seq_end r, 0), (F.LOFT_RVAL_WC.slot_bad r, min bad 63)]
  match best with
  | some (v, q) =>
    s.sets [(F.LOFT_RVAL_W0.val_lo r, v), (F.LOFT_RVAL_W4.val_hi r, v / 2 ^ 32), (F.LOFT_RVAL_W8.seq r, q),
      (F.LOFT_RVAL_WC.empty r, 0), (F.LOFT_RVAL_WC.seq_end r, b2n (q == 0xFFFF_FFFF))]
  | none =>
    s.sets [(F.LOFT_RVAL_W0.val_lo r, 0), (F.LOFT_RVAL_W4.val_hi r, 0), (F.LOFT_RVAL_W8.seq r, 0),
      (F.LOFT_RVAL_WC.empty r, 1)]

/-- The copy recall takes: true for B (R291). -/
def newestCopy (s : State) : Option Bool :=
  match copyValid s.loft.copyA, copyValid s.loft.copyB with
  | some (a, _), some (b, _) => some (decide (a < b))
  | some _, none => some false
  | none, some _ => some true
  | none, none => none

/-- RECALL_START (R291): at a power-up of PD_STOR the rings are scanned and the headers read. -/
def recallStart (s : State) : State :=
  if loftClosed s ∧ domOn s 9 then
    let s := (List.range 16).foldl scanRing s
    { s with loft := { s.loft with recallFrom := newestCopy s } }
  else s

def execRecallStart (s : State) : Host.Outcome State Fault Refusal := .next (recallStart s)

/-- A copy by name. -/
def loftCopy (s : State) (b : Bool) : LoftCopy := if b then s.loft.copyB else s.loft.copyA

/-- The recalled copy's pages and record are loaded (R291, R293). -/
def loadCopy (s : State) (b : Bool) (mem : Mem) (code : Nat) : State :=
  let c := loftCopy s b
  let other := loftCopy s (!b)
  let g := match copyValid c with | some (g, _) => g | none => 0
  let rec_ := match copyValid c with | some (_, r) => r | none => {}
  let cut := decide (g < other.start)
  let s := s.sets [(F.LOFT_LAST.result, if cut then 3 else rec_.result), (F.LOFT_LAST.torn, b2n rec_.torn),
    (F.LOFT_LAST.gather_lost, b2n rec_.gatherLost), (F.LOFT_LAST.recall, code), (F.LOFT_LAST.copy, b2n b),
    (F.LOFT_TORN.page, rec_.page), (F.LOFT_TORN.ptr, rec_.ptr), (F.LOFT_TORN.valid, b2n rec_.torn),
    (F.LOFT_HOLD.v_pf, rec_.vpf), (F.LOFT_GEN.g, newestGen s),
    (F.LOFT_STAT.gen_end, b2n (newestGen s == 0xFFFF_FFFE))]
  { s with loft := { s.loft with front := mem } }

/-- Recall ends: READY, and the store requests it held start (R292). -/
def recallEnd (s : State) : State :=
  let s := s.set F.LOFT_STAT.state loftReady
  let held := s.loft.heldReq
  let s : State := { s with loft := { s.loft with recallFrom := none, heldReq := false } }
  if held then requestStore s else s

/-- A word with an uncorrectable error reads as 0 (R293). -/
def dropWords (m : Mem) (l : List Nat) : Mem := l.foldl (fun t a => Store.clear t (a / 4 * 4) 4) m

/-- RECALL_DONE (R291, R293): the newest valid copy is in the front; a double-bit error falls back to the other copy, or
leaves the failing words 0. -/
def recallDone (s : State) (ecc : RecallEcc) : State :=
  if loftClosed s ∧ domOn s 9 then
    match s.loft.recallFrom with
    | none =>
      recallEnd (({ s with loft := { s.loft with front := [] } } : State).sets [(F.LOFT_LAST.recall, 1),
        (F.LOFT_LAST.result, 0), (F.LOFT_GEN.g, 0)])
    | some b =>
      match ecc with
      | .clean => recallEnd (loadCopy s b (loftCopy s b).mem 2)
      | .single => recallEnd ((loadCopy s b (loftCopy s b).mem 2).set F.LOFT_STAT.ecc_corr 1)
      | .double words =>
        if (copyValid (loftCopy s (!b))).isSome then recallEnd (loadCopy s (!b) (loftCopy s (!b)).mem 3)
        else recallEnd (healthFault (loadCopy s b (dropWords (loftCopy s b).mem words) 4) F.HLTH_EVT.loft)
  else s

/-- PF_TRIP (R294, R295): with pf_en the open gather is discarded, a running store goes on as the power-fail store and a
pending one merges; a recall stops and nothing is written. -/
def pfTrip (s : State) (vhold : Nat) : State :=
  if !s.flag F.LOFT_CFG.pf_en then s
  else if loftClosed s then storPowerOff s
  else
    let lost := s.loft.gather.isSome
    let s := dropGathers s
    let s := (s.set F.LOFT_HOLD.v_pf vhold).set F.LOFT_STAT.store_pend 0
    let run : StoreRun := match s.loft.store with
      | some r => { r with pf := true, vpf := vhold }
      | none => { pf := true, vpf := vhold }
    let s := s.set F.LOFT_STAT.state loftPf
    { s with loft := { s.loft with lost := lost, pf := true, store := some run } }

def execPfTrip (vhold : BitVec 8) (s : State) : Host.Outcome State Fault Refusal := .next (pfTrip s vhold.toNat)

/-- VHOLD_BELOW_CUTOFF (R295): the commit stops after the words already transferred; the store record names the first
word not transferred. -/
def vholdBelowCutoff (s : State) (words : Nat) : State :=
  match s.loft.commit with
  | some g =>
    if s.loft.pf ∧ words < g.words.length then
      let a := g.start + 4 * words
      { s with loft := { s.loft with
          commit := none, torn := some (a / 256, a % 256)
          front := putWords s.loft.front g.start (g.words.take words) } }
    else s
  | none => s

def execVholdBelowCutoff (words : BitVec 11) (s : State) : Host.Outcome State Fault Refusal :=
  .next (vholdBelowCutoff s words.toNat)

/-- VHOLD_STORE_STOP (R295): the power-fail store stops before its commit word; the copy stays invalid. -/
def vholdStoreStop (s : State) : State :=
  match s.loft.store with
  | some r => if r.pf then storPowerOff s else s
  | none => s

def execVholdStoreStop (s : State) : Host.Outcome State Fault Refusal := .next (vholdStoreStop s)

/-- A running commit and a running store end before PD_STOR takes a reset; the open gather is discarded (R304). After a
VDD33 brown-out they go on, on VHOLD (R294, R295). -/
def loftSettle (s : State) : State :=
  let s := dropGathers s
  let s : State := { s with loft := { s.loft with waitNow := [], waitNext := [] } }
  if s.loft.pf then s
  else
    let s := commitEnd s
    match s.loft.store with
    | some r =>
      if r.begun then storeEnd (s.set F.LOFT_STAT.store_pend 0) r else { s with loft := { s.loft with store := none } }
    | none => s

/-- Commits the copying of the loader counts (R286, R352): one per 4 KiB gather. -/
def loaderCommits (s : State) (n : Nat) : State :=
  s.set F.LOFT_CNT.commits (min 0xFFFF (s.get F.LOFT_CNT.commits + (n + 4095) / 4096))

/-- LOFT_GATHER as it reads: the open gather's offset and bytes. -/
def gatherWord (s : State) : Word :=
  match s.loft.gather with
  | some g => BitVec.ofNat 32 (g.start + 2 ^ 19 * (4 * g.words.length))
  | none => 0

end Sys2Proof.Machine
end

