-- ==== Sys2Proof/Machine/Reset.lean ====
section
/-!
DEFINITION. What resets restore (R7, R421, R437): the chip
reset, the reset of a range of registers, and a domain's loss.
-/
namespace Sys2Proof.Machine

/-- Everything a chip reset keeps outside the registers: fuses, the timestamp, roots, retirement records, the Loft, the
test port, the commands waiting; the rest starts anew (R304, R421). -/
def resetState (s : State) : State :=
  let d : State := {}
  { d with
    regs := s.regs, fuses := s.fuses, fuseSerial := s.fuseSerial, fuseKey := s.fuseKey
    aonTs := s.aonTs, msAcc := s.msAcc, ctr := s.ctr
    keys := { roots := s.keys.roots, tombs := s.keys.tombs, boot := s.keys.boot, exits := s.keys.exits }
    loft := s.loft, tap := { s.tap with fused := 2 ^ 28 - 1, aer := 2 ^ 12 - 1 }
    rst := { d.rst with strapDone := s.rst.strapDone, nrstLow := s.rst.nrstLow, bor33 := s.rst.bor33, bor18 := s.rst.bor18 }
    pending := s.pending }

/-- The registers of every window at the reset values of the chosen fields; RNG_CTRL.en reads 1 until a plan applies
(R281). -/
def resetAll (s : State) (p : FRow → Bool) : State :=
  ({ s with regs := resetRange s.regs 0 0x14_0000 p } : State).set F.RNG_CTRL.en 1

/-- Sets the phase record of a domain. -/
def setDom (s : State) (d : Nat) (p : DomState) : State := { s with doms := s.doms.set d p }

/-- A switch-on is requested: it begins, or is held while the domain switches off (R403, R405). -/
def domWant (s : State) (d : Nat) : State :=
  let p := s.doms.getD d {}
  match p.phase with
  | .off => setDom s d { p with phase := .switchOn }
  | .switchOff => setDom s d { p with held := true }
  | _ => s

/-- A switch-off is requested: it begins, or waits for the end of a switch-on (R404, R405). -/
def domUnwant (s : State) (d : Nat) : State :=
  match (s.doms.getD d {}).phase with
  | .on => setDom s d { phase := .switchOff }
  | .switchOn => setDom s d { phase := .switchOn, held := true }
  | .waitClock => setDom s d { phase := .waitClock, held := true }
  | _ => s

/-- Where the fuse array holds the trim of a register: the chain delays of channel 9 stand 0x100_0000 above those of channel 5
(R140; the place is the model's own, log entry 4). -/
def fuseAddr (s : State) (a : Nat) : Nat :=
  if (a = F.UWB_TXDLY.dly.addr ∨ (0x07_0030 ≤ a ∧ a < 0x07_0040)) ∧ bit (s.get F.UWB_CFG.profile) 0 then a + 0x100_0000 else a

/-- A register's fuse fields from the fuse array, or the chain delays at their design centre (R140, R185, R431, R432). -/
def fuseWord (s : State) (safe : Bool) (fs : List FRow) (a : Nat) : Word :=
  let delay := a / 0x1_0000 = 6 ∨ a / 0x1_0000 = 7 ∨ a / 0x1_0000 = 9
  let src := if safe ∧ delay then Config.safeTrim (fuseAddr s a) else Store.get s.fuses (fuseAddr s a)
  fs.foldl (fun w f => if f.rst = .fuse then putBits w f.lo f.len (bitsOf src f.lo f.len) else w) (s.word a)

/-- Every field of reset value fuse takes its trim (R431). -/
def loadFuses (s : State) (safe : Bool) : State :=
  (List.range 0x14).foldl
    (fun t w =>
      ((windowRows w).filter fun r => r.fields.any fun f => f.rst == .fuse).foldl
        (fun t r => (rowAddrs r.base r.dims).foldl (fun t a => t.setWord a (fuseWord t safe r.fields a)) t) t) s

/-- The chain delays read the values for the channel of the plan (R140). -/
def uwbTrims (s : State) : State :=
  (windowRows 7).foldl
    (fun t r =>
      if r.fields.any fun f => f.rst == .fuse then
        (rowAddrs r.base r.dims).foldl (fun t a => t.setWord a (fuseWord t (t.flag F.RST_STAT.safe_trim) r.fields a)) t
      else t) s

/-- The release sequence starts with PD_STOR (R425). -/
def startRelease (s : State) : State :=
  let s : State := { s with rst := { s.rst with pos := 0, gap := false } }
  domWant (s.set F.RST_STAT.step 2) 9

/-- The third failed or interrupted load in a row: safe trims, and the sequence goes on (R432). -/
def safeTrims (s : State) : State :=
  let s : State := { s with rst := { s.rst with trimSkip := false } }
  let s := (s.set F.RST_STAT.safe_trim 1).set F.RST_CAUSE.trim_fail 1
  startRelease (healthFault (loadFuses s true) F.HLTH_EVT.trim)

/-- The trims load, or are skipped (R431, R432). -/
def startTrim (s : State) : State := if s.rst.trimSkip then safeTrims s else s.set F.RST_STAT.step 1

/-- The reset controller goes on once nRST is high, the strap is read and REF runs (R423, R427, R428). -/
def beginSeq (s : State) : State :=
  if s.rst.nrstLow ∨ ¬ s.rst.strapDone then s
  else if s.bitAt F.CLK_STAT.good 2 then startTrim s
  else s.set F.RST_STAT.step 13

/-- A load failed or was interrupted: it is counted, and the third skips the next attempt (R432). -/
def trimFailed (s : State) : State :=
  let n := min 3 (s.get F.RST_STAT.trim_tries + 1)
  let s := s.set F.RST_STAT.trim_tries n
  { s with rst := { s.rst with trimSkip := n == 3 } }

/-- A chip reset other than POR (R420 to R422): the cause bit is set, a running commit or store ends, fields of scope sys
and blk are restored, the clocks that keep running stay good, and the trims load again. -/
def chipReset (s : State) (cause : Fld) : State :=
  let s := loftSettle (s.set cause 1)
  let aon := s.bitAt F.CLK_STAT.good 0
  let ref := s.bitAt F.CLK_STAT.good 2
  let wait := s.get F.RST_STAT.aon_wait
  let loading := s.get F.RST_STAT.step == 1
  let skip := s.rst.trimSkip
  let s := resetAll (resetState s) chipScope
  let s := ((s.putBit F.CLK_STAT.good 0 aon).putBit F.CLK_STAT.good 2 ref).set F.RST_STAT.aon_wait wait
  let s : State := { s with rst := { s.rst with trimSkip := skip } }
  beginSeq (if loading then trimFailed s else s)

/-- The power domain that holds a host address's block (R26, R30): the POLL window, the AON timestamp and the tamper
registers answer in PD_AON, the LF window in PD_SBY, the frame assembler's check register, records and entries in PD_CORE. -/
def addrDomain (a : Nat) : Nat :=
  let w := a / 0x1_0000
  if w = 0x01 ∨ w = 0x03 ∨ w = 0x04 ∨ w = 0x0B then 0
  else if w = 0x05 then 1
  else if w = 0x06 then (if a = 0x06_0030 ∨ 0x06_0400 ≤ a then 2 else 6)
  else if w = 0x07 then 7
  else if w = 0x0C ∨ w = 0x0D ∨ w = 0x0E then 3
  else if w = 0x0F ∨ (0x40_0000 ≤ a ∧ a < 0x48_0000) then 9
  else if w = 0x12 ∨ w = 0x14 then 8
  else if (0x13_0018 ≤ a ∧ a < 0x13_0028) ∨ (0x13_0040 ≤ a ∧ a < 0x13_0050) then 0
  else 2

/-- A critical-state error requests the chip reset with cause crit and records its region (R446). -/
def criticalError (s : State) (region : Nat) (ecc : Bool) : State :=
  chipReset ((s.set F.RST_CRIT.region region).put F.RST_CRIT.ecc ecc) F.RST_CAUSE.crit

end Sys2Proof.Machine
end

