-- ==== Sys2Proof/Machine/Pwr.lean ====
section
/-!
DEFINITION. The manger (R412 to R418): requests, grants, the thermal derating of VDRV and the VDD33 check; and the clock
windows of R409.
-/
namespace Sys2Proof.Machine

/-- Class code of a requester: 0 ranging, 1 sweep, 2 poll, 3 calibration (R413). -/
def reqClass (r : Nat) : Nat := match r with | 0 => 1 | 1 => 2 | 2 => 3 | 3 => 0 | _ => 3

/-- The rail of a requester: false VDRV, true VDD33 (R413). -/
def reqRail (r : Nat) : Bool := r == 3 || r == 4

/-- The budget of a rail as it acts (R412, R415). -/
def effBudget (s : State) (vdd33 : Bool) : Nat :=
  if vdd33 then orDefault (s.get F.PWR_BUD_VDD33.budget) 60
  else orDefault (s.get F.PWR_BUD_VDRV.budget) 400 * s.get F.PWR_MGR_STAT.derate / 16

/-- The reserve of a rail. -/
def railReserve (s : State) (vdd33 : Bool) : Nat :=
  s.get (if vdd33 then F.PWR_BUD_VDD33.reserve else F.PWR_BUD_VDRV.reserve)

/-- The standing grants counted on a rail (R417). -/
def standing (s : State) (vdd33 : Bool) : Nat :=
  if vdd33 then (if domOn s 6 then s.get F.PWR_STAND_RF.uhf else 0) + (if domOn s 7 then s.get F.PWR_STAND_RF.uwb else 0)
  else 0

/-- The grants held on a rail. -/
def grantsHeld (s : State) (vdd33 : Bool) : Nat :=
  ((List.range 5).filter fun r => reqRail r == vdd33 && s.get (F.PWR_REQ.state r) == 2).foldl
    (fun a r => a + s.get (F.PWR_REQ.grant r)) 0

/-- Reserve, standing and grants held on a rail (PWR_MGR_STAT). -/
def railAlloc (s : State) (vdd33 : Bool) : Nat := railReserve s vdd33 + standing s vdd33 + grantsHeld s vdd33

/-- What a rail still has to give (R414). -/
def railAvail (s : State) (vdd33 : Bool) : Nat := effBudget s vdd33 - railAlloc s vdd33

/-- The queued requests by class priority, then arrival, then lower r (R414). -/
def manOrder (s : State) : List Nat :=
  let q := (s.man.queue.map (·.1)).filter fun r => decide (r < 5)
  (List.range 4).flatMap fun c => q.filter fun r => reqClass r == c

/-- One queued request is offered what its rail has (R414); calibration begins when it gets its grant (R93). -/
def manTry (s : State) (r : Nat) : State :=
  let avail := railAvail s (reqRail r)
  let amount := s.get (F.PWR_REQ.req r)
  let part := orDefault (s.get F.PWR_PART.part_min) 8
  let give := fun (t : State) (g : Nat) =>
    let t := (t.set (F.PWR_REQ.grant r) g).set (F.PWR_REQ.state r) 2
    let t : State := { t with man := { t.man with queue := t.man.queue.filter fun e => e.1 != r } }
    if r = 2 then calBegin t else t
  if amount ≤ avail then give s amount
  else if r = 0 ∧ amount * part ≤ avail * 16 then give (s.bump F.PWR_MGR_CNT.partial_) avail
  else s

/-- The manger allocates (R414). -/
def manAllocate (s : State) : State := (manOrder s).foldl manTry s

/-- A request joins the queue and the manger allocates (R413, R414). A requester holds one request at a time. -/
def manRequest (s : State) (r amount : Nat) (deadline : Bool) : State :=
  let s := s.sets [(F.PWR_REQ.req r, amount), (F.PWR_REQ.grant r, 0), (F.PWR_REQ.state r, 1),
    (F.PWR_REQ.class_ r, reqClass r), (F.PWR_REQ.rail r, b2n (reqRail r))]
  manAllocate { s with man := { s.man with queue := (s.man.queue.filter fun e => e.1 != r) ++ [(r, deadline)] } }

/-- A grant is released or a request withdrawn, and the manger allocates (R414, R416). -/
def manRelease (s : State) (r : Nat) : State :=
  let s := (s.set (F.PWR_REQ.grant r) 0).set (F.PWR_REQ.state r) 0
  manAllocate { s with man := { s.man with queue := s.man.queue.filter fun e => e.1 != r } }

/-- Whether a requester holds its grant. -/
def manGranted (s : State) (r : Nat) : Bool := s.get (F.PWR_REQ.state r) == 2

/-- The derating factor of the hotter bank sensor, in sixteenths (R415); sensor codes are °C + 64. -/
def derateFactor (code : Nat) : Nat :=
  let t : Int := (code : Int) - 64
  if t ≤ 125 then 16 else if 150 ≤ t then 8 else max 8 (16 - ((t - 125) * 8 / 25).toNat)

/-- A sweep grant above what the effective budget leaves is lowered to the largest value that fits (R415). -/
def lowerSweep (s : State) : State :=
  if manGranted s 0 then
    let g := s.get (F.PWR_REQ.grant 0)
    let room := effBudget s false - (railAlloc s false - g)
    if room < g then s.set (F.PWR_REQ.grant 0) room else s
  else s

/-- DERATE_TICK (R415): every 1 ms the bank sensors are read and the VDRV budget follows the hotter one. -/
def derateTick (s : State) (tempA tempB : BitVec 8) : State :=
  let s := (s.set F.LF_TEMP.lfa_temp tempA.toNat).set F.LF_TEMP.lfb_temp tempB.toNat
  let f := if s.flag F.PWR_PART.derate_en then derateFactor (max tempA.toNat tempB.toNat) else 16
  manAllocate (lowerSweep (s.set F.PWR_MGR_STAT.derate f))

def execDerateTick (tempA tempB : BitVec 8) (s : State) : Host.Outcome State Fault Refusal :=
  .next (derateTick s tempA tempB)

/-- VDD33_SENSE (R418): both currents are recorded; two VDD33 measurements in a row above the budget set the alarm. -/
def vdd33Sense (s : State) (vdd33 vdrv : BitVec 10) : State :=
  let s := (s.set F.PWR_ISENSE.vdd33 vdd33.toNat).set F.PWR_ISENSE.vdrv vdrv.toNat
  let above := decide (effBudget s true < vdd33.toNat)
  let s := if above && s.man.above then healthFault (s.set F.PWR_MGR_STAT.alarm 1) F.HLTH_EVT.mgr else s
  { s with man := { s.man with above := above } }

def execVdd33Sense (vdd33 vdrv : BitVec 10) (s : State) : Host.Outcome State Fault Refusal :=
  .next (vdd33Sense s vdd33 vdrv)

/-- The tolerance of a clock domain in units of 0.01 %: 0.5 % per code, with the defaults of CLK_MARG0 and CLK_MARG1;
none for the domains R409 does not check. -/
def clkTolerance (s : State) (c : Nat) : Option Nat :=
  match c with
  | 0 => some (50 * orDefault (s.get F.CLK_MARG1.aon) 2)
  | 1 => some (50 * orDefault (s.get F.CLK_MARG0.sby) 60)
  | 2 => some (50 * orDefault (s.get F.CLK_MARG0.ref) 1)
  | 3 => some (50 * orDefault (s.get F.CLK_MARG0.core) 4)
  | 4 => some (50 * orDefault (s.get F.CLK_MARG0.ciph) 40)
  | 5 => some (50 * orDefault (s.get F.CLK_MARG0.lfs) 2)
  | 6 => some (50 * orDefault (s.get F.CLK_MARG1.uhf) 4)
  | 7 => some (50 * orDefault (s.get F.CLK_MARG1.uwb) 4)
  | 8 => some (50 * orDefault (s.get F.CLK_MARG1.stmp) 4)
  | 10 => some (50 * orDefault (s.get F.CLK_MARG1.stor) 50)
  | _ => none

/-- The power domains that run on a clock domain (R401). -/
def clkDomains (c : Nat) : List Nat :=
  match c with
  | 0 => [0]
  | 1 => [1]
  | 3 => [2]
  | 4 => [3]
  | 5 => [1, 4, 5]
  | 6 => [6]
  | 7 => [7]
  | 8 => [2, 7]
  | 9 => [8]
  | 10 => [9]
  | _ => []

/-- Whether a released domain uses the clock; REF serves every PLL (R406, R409). A domain being switched off does not
count. -/
def clkReleased (s : State) (c : Nat) : Bool :=
  (if c = 2 then (List.range 10).drop 1 else clkDomains c).any fun d =>
    domOn s d && (s.doms.getD d {}).phase != .switchOff

/-- A loss of clock-good in a released domain: recorded, and a chip reset with the clock-loss cause (R409). -/
def clockLoss (s : State) (c : Nat) : State :=
  chipReset ((s.set F.CLK_LOSS.domain c).set F.CLK_LOSS.valid 1) F.RST_CAUSE.clk_loss

/-- CLOCK_CHECK_WINDOW (R409, R439): the deviation of one window, signed in 0.01 %; two windows in a row outside the
tolerance drop clock-good. AON and STOR are checked only while REF runs. The largest deviation since the last farrier pass is
kept. -/
def clockCheckWindow (s : State) (c : Fin 12) (dev : BitVec 16) : State :=
  match clkTolerance s c with
  | none => s
  | some tol =>
    if ¬ s.bitAt F.CLK_STAT.good c ∨ ((c.val = 0 ∨ c.val = 10) ∧ ¬ s.bitAt F.CLK_STAT.good 2) then s
    else
      let mag := dev.toInt.natAbs
      let s := s.set (F.HLTH_CLKDEV.dev c) (max (s.get (F.HLTH_CLKDEV.dev c)) (min mag 0xFFFF))
      let bad := decide (tol < mag)
      let runs := if bad then s.man.badWin.getD c 0 + 1 else 0
      let s : State := { s with man := { s.man with badWin := s.man.badWin.set c runs } }
      if 2 ≤ runs then
        let s := s.putBit F.CLK_STAT.good c false
        if clkReleased s c then clockLoss s c else s
      else s

def execClockCheckWindow (c : Fin 12) (dev : BitVec 16) (s : State) : Host.Outcome State Fault Refusal :=
  .next (clockCheckWindow s c dev)

end Sys2Proof.Machine
end

