-- ==== Sys2Proof/Machine/LfBase.lean ====
section
/-!
DEFINITION. The synthesiser's ownership and the start of a transaction (R79 to R81, R87), shared by the session manager
and by LF_TXN.start.
-/
namespace Sys2Proof.Machine

/-- Lanes, ACK width and response width in microseconds (R52). -/
def lanesOf (s : State) : Nat := if s.flag F.LF_TXN.lanes then 2 else 1
def rateOf (s : State) : Nat := s.get F.LF_TXN.rate
def wAck (s : State) : Nat := if rateOf s = 0 then 1800 else 7000
def wRsp (s : State) : Nat := if rateOf s = 0 then 2500 else 9000

/-- k of R81 for a sweep of `n` patterns: the ceiling is taken by adding 575. -/
def kOf (s : State) (n : Nat) : Nat := max n ((1136 + 8 / lanesOf s * wAck s + 575) / 576)

/-- The report row's frame time, width, report phase and D in microseconds, for `k` periods (R54). -/
def tRep (s : State) (k : Nat) : Nat :=
  let bits := 104 + 24 * min k 32
  let rate := if rateOf s = 0 then 76800 else 19200
  (bits * 1000000 + rate - 1) / rate
def wRow (s : State) (k : Nat) : Nat := 1200 + 100 + tRep s k + 150
def repPhase (s : State) (k : Nat) : Nat := 200 + 8 / lanesOf s * wRow s k
def dOf (s : State) (k : Nat) : Nat := repPhase s k - 32225

/-- Lane and row of a slot (R52). -/
def laneOf (s : State) (slot : Nat) : Nat := slot % lanesOf s
def rowOf (s : State) (slot : Nat) : Nat := slot / lanesOf s

/-- The cost word of a vector. -/
def vecCost (s : State) (v : Nat) : Nat := s.get (F.LF_VCOST.cost v)

/-- Whether the sweep definition admits a start (LF_SWEEP_DEFn). -/
def sweepOk (s : State) (sel : Nat) : Bool :=
  let n := s.get (F.LF_SWEEP_DEF.npat sel)
  let b := s.get (F.LF_SWEEP_DEF.base sel)
  decide (1 ≤ n) && decide (n ≤ 32) && decide (b + n ≤ 64)

/-- The grant a transaction asks for: the largest cost among its vectors (R87). -/
def txnCost (s : State) (base n : Nat) : Nat :=
  ((List.range n).map fun j => vecCost s (base + j)).foldl max
    (max (vecCost s (s.get F.LF_FRAME_VEC.wake_vec)) (vecCost s (s.get F.LF_FRAME_VEC.chal_vec)))

/-- Whether an installed aerial of a bank has an amplitude in vector `v`. -/
def bankUsed (s : State) (v : Nat) (lfb : Bool) : Bool :=
  (List.range 6).any fun i =>
    let n := if lfb then i + 6 else i
    s.flag (F.LF_AER_CFG.installed n) && s.flag (F.LF_VEC.amp v n)

/-- Whether a vector of a transaction uses the bank. -/
def txnUsesBank (s : State) (base n : Nat) (lfb : Bool) : Bool :=
  bankUsed s (s.get F.LF_FRAME_VEC.wake_vec) lfb || bankUsed s (s.get F.LF_FRAME_VEC.chal_vec) lfb
    || (List.range n).any fun j => bankUsed s (base + j) lfb

/-- The policy code of domains 4 to 7 (R402); every other domain is ON. -/
def domPolicy (s : State) (d : Nat) : Nat :=
  match d with
  | 4 => s.get F.PWR_DOM_CFG.lfa
  | 5 => s.get F.PWR_DOM_CFG.lfb
  | 6 => s.get F.PWR_DOM_CFG.uhf
  | 7 => s.get F.PWR_DOM_CFG.uwb
  | _ => 0

/-- Work is requested of an AUTO domain that is off or switching off (R402, R405). -/
def domWork (s : State) (d : Nat) : State := if domPolicy s d = 1 ∧ ¬ domUp s d then domWant s d else s

/-- Whether the domains a transaction needs are released (R402): an AUTO domain is waited for. -/
def txnDomainsUp (s : State) (base n : Nat) : Bool :=
  let up := fun d => domPolicy s d != 1 || domUp s d
  up 6 && up 7 && (!txnUsesBank s base n false || up 4) && (!txnUsesBank s base n true || up 5)

/-- The transaction takes the idle synthesiser and asks for its grant, with the 2.0 ms deadline (R79, R87). -/
def lfAcquire (s : State) : State :=
  let sel := s.get F.LF_TXN.sweep_sel
  let base := s.get (F.LF_SWEEP_DEF.base sel)
  let n := s.get (F.LF_SWEEP_DEF.npat sel)
  let k := kOf s n
  let s := setOwner s ownTxn
  let s := setLfCode (s.sets [(F.LF_TXN_STAT.abort_late, 0), (F.LF_TXN_STAT.j, 0), (F.LF_TXN_STAT.k, k),
    (F.LF_TXN_STAT.chal_sent, 0)]) lfRunning
  let s := s.modLf fun l => { l with
    stage := .wait, base := base, npat := n, k := k, cut := none, sweepCut := false, noChal := false, txnWait := false }
  manRequest s 0 (txnCost s base n) true

/-- A transaction start meets calibration: it ends at the end of its current step, or at once while it waits (R79). -/
def cutCal (s : State) : State :=
  if s.lf.stage = .wait then
    let s := setLfCode (setOwner (s.set F.LF_CAL_CTRL.cal_cut 1) ownIdle) lfAborted
    (manRelease s 2).modLf fun l => { l with stage := .idle }
  else s.modLf fun l => { l with cut := some lfAborted }

/-- A running port check ends cut when a transaction starts (R141). -/
def cutPortCheck (s : State) : State :=
  if s.uwb.calRun then
    let s := manRelease (s.set F.UWB_STAT.cal_cut 1) 4
    let s : State := { s with uwb := { s.uwb with calRun := false } }
    s.set F.UWB_STAT.state (if s.flag F.UWB_STAT.ts_ready then 1 else 0)
  else s

/-- Whether a transaction start is refused (R79, R80, R262, LF_SWEEP_DEFn). -/
def txnRefused (s : State) (kind sel : Nat) : Bool :=
  lifeState s == 4 || kind == 3 || !s.flag F.LF_CTRL.syn_en || lfOwner s == ownTxn || lfOwner s == ownHp
    || s.lf.txnWait || s.lf.next.isSome || !sweepOk s sel

/-- The quiet point (R20): no transaction or hitching exchange open, no sweep running, no session-manager command executing. -/
def quiet (s : State) : Bool :=
  !s.flag F.SESS_STAT.txn_open && !s.txn.open_ && lfOwner s != ownTxn && lfOwner s != ownHp && s.sess.rcode.isNone

/-- Correction tables from tscal_start are applied at a quiet point (R125). -/
def tscalAdopt (s : State) : State :=
  match s.uwb.tablesNext with
  | some l => if quiet s then { s with uwb := { s.uwb with tables := l, tablesNext := none } } else s
  | none => s

/-- A transaction opens (R79, R80): it takes the synthesiser at once, or waits for a burst or for calibration. -/
def txnBegin (s : State) (kind : Nat) (sess : Bool) (pres : Option Nat) : State :=
  let s : State := { tscalAdopt s with txn := { open_ := true, kind := kind, sess := sess, pres := pres } }
  let s := ((s.set F.SESS_STAT.txn_open 1).set F.VERD_STAT.open_ 1).set F.LF_TXN.kind kind
  let s := cutPortCheck (domWork (domWork s 6) 7)
  let sel := s.get F.LF_TXN.sweep_sel
  let base := s.get (F.LF_SWEEP_DEF.base sel)
  let n := s.get (F.LF_SWEEP_DEF.npat sel)
  let s := if txnUsesBank s base n false then domWork s 4 else s
  let s := if txnUsesBank s base n true then domWork s 5 else s
  let s := if lfOwner s = ownCal then cutCal s else s
  if lfOwner s = ownIdle then lfAcquire s else s.modLf fun l => { l with txnWait := true }

/-- Whether an earlier transaction or exchange still runs: it is open, or its air work holds the synthesiser (R196). -/
def txnBusy (s : State) : Bool := s.txn.open_ || lfOwner s == ownTxn || lfOwner s == ownHp

/-- A transaction starts, or follows the one that still runs (R79; log entry 39). -/
def txnOpen (s : State) (kind : Nat) (sess : Bool) (pres : Option Nat) : State :=
  if txnBusy s then
    let s := if lfOwner s = ownCal then cutCal s else s
    (s.set F.SESS_STAT.txn_open 1).modLf fun l => { l with next := some { kind := kind, sess := sess, pres := pres } }
  else txnBegin s kind sess pres

/-- The hitching aerial (R95), and the power domain of its bank. -/
def hpAer (s : State) : Nat := s.get F.LF_HP_CFG.hp_aer
def hpDom (s : State) : Nat := if inLfb (hpAer s) then 5 else 4

/-- A hitching exchange opens (R87, R95, R206): it is its own START transaction and asks for its grant; its trigger requests the
AUTO domains of R402. -/
def hpOpen (s : State) : State :=
  let s : State := { tscalAdopt s with txn := { open_ := true, hp := true, kind := 1 } }
  let s := (s.set F.SESS_STAT.txn_open 1).set F.VERD_STAT.open_ 1
  let r : SessReq := { source := 18, kind := 1, mask := s.get F.SESS_STARTMASK.mask }
  let s : State := { s with sess := { s.sess with cur := some r } }
  let s := domWork (domWork (domWork s (hpDom s)) 6) 7
  let s := setLfCode (setOwner (s.set F.LF_TXN_STAT.abort_late 0) ownHp) lfRunning
  let s := s.modLf fun l => { l with stage := .wait, cut := none }
  manRequest s 0 (s.get F.LF_HP_CFG.hp_cost) true

/-- Once nothing is open and the synthesiser is free of it, the start that waited follows (R79). -/
def txnNext (s : State) : State :=
  match s.lf.next with
  | none => s
  | some n =>
    if txnBusy s then s
    else
      let s := s.modLf fun l => { l with next := none }
      if n.hp then hpOpen s else txnBegin s n.kind n.sess n.pres

/-- TXN_START (R79, R80): LF_TXN.start written by the host or a stall. -/
def txnStart (s : State) (kind sweep : BitVec 2) : State :=
  let s := (s.set F.LF_TXN.kind kind.toNat).set F.LF_TXN.sweep_sel sweep.toNat
  if txnRefused s kind.toNat sweep.toNat then s.set F.LF_STAT.txn_refused 1 else txnOpen s kind.toNat false none

def execTxnStart (kind sweep : BitVec 2) (s : State) : Host.Outcome State Fault Refusal :=
  .next (onDom s 1 (txnStart s kind sweep))

/-- UHF_CFG and UHF_CHANn as they act: with PD_CORE off the poll shadow's (R227). -/
def uhfCfg (s : State) : Word := if domOn s 2 then s.word F.UHF_CFG.mode.addr else s.word (F.POLL_SHADOW.copy 25).addr
def uhfChan (s : State) (n : Nat) : Nat :=
  if domOn s 2 then s.get (F.UHF_CHAN.freq n) else s.get (F.POLL_SHADOW.copy (26 + n))

/-- The receive mode (R99): independent, else diversity. -/
def uhfIndep (s : State) : Bool := bitsOf (uhfCfg s) F.UHF_CFG.mode.lo F.UHF_CFG.mode.len == 1

/-- The lane count of the listen of a poll burst, from the poll shadow (R227). -/
def pollLanes (s : State) : Nat := if bit (s.get (F.POLL_SHADOW.copy 25)) 0 then 2 else 1

/-- Whether receiver U1 takes a placement in independent mode: its lane (R52, R64, R99). -/
def laneRx (s : State) (p : Placement) : Bool :=
  match p with
  | .poll q => q.val % pollLanes s == 1
  | .ack i => laneOf s i == 1
  | .report i => laneOf s i == 1
  | .response i => laneOf s i == 1

/-- Whether a receiver is enabled (UHF_CTRL). -/
def rxEn (s : State) (u1 : Bool) : Bool := s.flag (if u1 then F.UHF_CTRL.u1_en else F.UHF_CTRL.u0_en)

/-- Whether a receiver no longer receives later placements (R117). -/
def rxOff (s : State) (u1 : Bool) : Bool := !rxEn s u1 || (if u1 then s.uhf.cut1 else s.uhf.cut0)

/-- Sets a receiver's state; the LO is locked in READY and LISTEN (R115). -/
def setRx (s : State) (u1 : Bool) (v : Nat) : State :=
  if u1 then (s.set F.UHF_STAT.u1_state v).put F.UHF_STAT.u1_lock (decide (2 ≤ v))
  else (s.set F.UHF_STAT.u0_state v).put F.UHF_STAT.u0_lock (decide (2 ≤ v))

/-- Whether a receiver has an open window or a frame in progress. -/
def rxListens (s : State) (u1 : Bool) : Bool := s.uhf.open_.any fun p => !uhfIndep s || laneRx s p == u1

/-- Whether a placement of a receiver is still to come in the transaction (R115). -/
def rxLeft (s : State) (u1 : Bool) : Bool :=
  s.txn.open_ && s.txn.wakeEnd && (List.range 8).any fun i =>
    let t := s.slotT i
    (!uhfIndep s || (laneOf s i == 1) == u1)
      && ((!s.txn.ackEnd && !t.ackOver) || (t.tracked && t.rsp.isNone && !t.published))

/-- The state of a receiver (R115, R117): OFF unpowered or when both are disabled, IDLE once disabled or cut, LISTEN in a
window, READY while a placement of its own is to come. Between two placements of a burst's listen it is READY (log entry 157). -/
def rxState (s : State) (u1 : Bool) : Nat :=
  if ¬ domOn s 6 ∨ (¬ rxEn s false ∧ ¬ rxEn s true) then 0
  else if rxListens s u1 then 3
  else if rxOff s u1 then 1
  else if s.lf.stage = .listen ∨ rxLeft s u1 then 2
  else 1

/-- Both receivers take the states of R115. -/
def settleRx (s : State) : State := setRx (setRx s false (rxState s false)) true (rxState s true)

/-- The source releases the synthesiser and its grant (R87); a waiting transaction takes it (R79). -/
def lfRelease (s : State) : State :=
  let r := lfRequester (lfOwner s)
  let s := manRelease (setOwner s ownIdle) r
  let s := s.modLf fun l => { l with stage := .idle, cut := none }
  if s.lf.txnWait ∧ s.txn.open_ then lfAcquire s else s.modLf fun l => { l with txnWait := false }

end Sys2Proof.Machine
end

