-- ==== Sys2Proof/Machine/Sess.lean ====
section
/-!
DEFINITION. The session manager (chapter 08): triggers, the decision at transaction end, sessions and their ends, the
start-lock outputs, the release code, the generation and the failed attempts.
-/
namespace Sys2Proof.Machine

/-- Changes the session manager's state. -/
def State.modSess (s : State) (f : SessState → SessState) : State := { s with sess := f s.sess }

/-- SESS_LASTREQ.outcome codes. -/
def outOpened : Nat := 1
def outLocated : Nat := 2
def outNoToken : Nat := 3
def outNoDoor : Nat := 4
def outGenSat : Nat := 5
def outGenWait : Nat := 6
def outSlkFault : Nat := 7
def outRcodeFail : Nat := 8
def outRefused : Nat := 9

/-- End causes (R210). -/
def endDoor : Nat := 1
def endTimeout : Nat := 2
def endHost : Nat := 3
def endReplaced : Nat := 4
def endPlan : Nat := 5
def endTamper : Nat := 6
def endSlk : Nat := 7
def endDisabled : Nat := 8

/-- Sets the latched triggers; SESS_STAT.latched follows (R203). -/
def setTrigs (s : State) (l : List SessReq) : State :=
  (s.modSess fun m => { m with trigs := l }).set F.SESS_STAT.latched
    (l.foldl (fun a r => setBit a r.source) 0)

/-- gen as the registers hold it (R219). -/
def genOf (s : State) : Nat := s.get F.SESS_GEN_LO.gen + 2 ^ 32 * s.get F.SESS_GEN_HI.gen

/-- The largest generation. -/
def genMax : Nat := 0xFFFF_FFFF_FFFF

/-- Reports gen saturated (R219). -/
def genSat (s : State) : State := sessEvent (s.set F.SESS_STAT.gen_sat 1) F.SESS_EVT.gen_sat

/-- Sets gen and its ring's live value (R219, R220); reaching the top is reported. -/
def setGen (s : State) (g : Nat) : State :=
  let s := (s.set F.SESS_GEN_LO.gen g).set F.SESS_GEN_HI.gen (g / 2 ^ 32)
  let s := ringSet s s.yard.genRing g
  if genMax ≤ g then genSat s else s

/-- A failed attempt is counted (R221). -/
def sessFail (s : State) (code cause idx : Nat) : State :=
  let s := s.bump F.SESS_FAIL.count
  let s := if s.yard.applied then ringSet s s.yard.failRing (s.get F.SESS_FAIL.count) else s
  let s := s.sets [(F.SESS_LASTFAIL.code, code), (F.SESS_LASTFAIL.cause, cause), (F.SESS_LASTFAIL.idx, idx)]
  sessEvent s F.SESS_EVT.fail

/-- The end of a session is recorded (R210). -/
def lastEnd (s : State) (kind cause : Nat) : State :=
  sessEvent ((s.set F.SESS_LASTEND.kind kind).set F.SESS_LASTEND.cause cause) F.SESS_EVT.sess_end

/-- Ends the ENTRY session if one is open (R210). -/
def endEntrySess (s : State) (cause : Nat) : State :=
  if s.flag F.SESS_STAT.entry_open then
    let s := s.sets [(F.SESS_STAT.entry_open, 0), (F.SESS_ENTRY_W0.open_, 0), (F.SESS_ENTRY_W0.cause, cause),
      (F.SESS_ENTRY_W8.remain, 0)]
    lastEnd (s.modSess fun m => { m with entryMs := 0 }) 0 cause
  else s

/-- Ends the START session if one is open: both start-lock balls go low (R210, R214). -/
def endStartSess (s : State) (cause : Nat) : State :=
  if s.flag F.SESS_STAT.start_open then
    let s := s.sets [(F.SESS_STAT.start_open, 0), (F.SESS_START_W0.open_, 0), (F.SESS_START_W0.cause, cause),
      (F.SESS_START_W8.remain, 0), (F.SESS_SLK.cmd, 0)]
    lastEnd (s.modSess fun m => { m with startMs := 0, slkB := false, bRun := 0 }) 1 cause
  else s

/-- Ends every open session. -/
def endSessions (s : State) (cause : Nat) : State := endStartSess (endEntrySess s cause) cause

/-- Opens an ENTRY session (R207, R209). -/
def openEntry (s : State) (idx slot paddock gen seq : Nat) : State :=
  let s := endEntrySess s endReplaced
  let tmo := orDefault (s.get F.SESS_TMO.entry) 100
  let s := s.sets [(F.SESS_STAT.entry_open, 1), (F.SESS_ENTRY_W0.open_, 1), (F.SESS_ENTRY_W0.idx, idx),
    (F.SESS_ENTRY_W0.slot, slot), (F.SESS_ENTRY_W0.paddock, paddock),
    (F.SESS_ENTRY_W0.doors, s.get (F.SESS_DOOR.doors paddock)), (F.SESS_ENTRY_W0.cause, 0),
    (F.SESS_ENTRY_W4.gen_lo, gen), (F.SESS_ENTRY_W8.gen_hi, gen / 2 ^ 32), (F.SESS_ENTRY_W8.remain, tmo),
    (F.SESS_ENTRY_WC.seq, seq)]
  sessEvent (s.modSess fun m => { m with entryMs := 100 * tmo }) F.SESS_EVT.entry_open

/-- Opens a START session: SLK_A high, SLK_B with a rising edge (R208, R209, R214). -/
def openStart (s : State) (idx slot paddock gen seq : Nat) : State :=
  let s := endStartSess s endReplaced
  let tmo := orDefault (s.get F.SESS_TMO.start) 300
  let s := s.sets [(F.SESS_STAT.start_open, 1), (F.SESS_START_W0.open_, 1), (F.SESS_START_W0.idx, idx),
    (F.SESS_START_W0.slot, slot), (F.SESS_START_W0.paddock, paddock), (F.SESS_START_W0.doors, 0),
    (F.SESS_START_W0.cause, 0), (F.SESS_START_W4.gen_lo, gen), (F.SESS_START_W8.gen_hi, gen / 2 ^ 32),
    (F.SESS_START_W8.remain, tmo), (F.SESS_START_WC.seq, seq), (F.SESS_SLK.cmd, 1)]
  sessEvent (s.modSess fun m => { m with startMs := 100 * tmo, slkB := true, bRun := 0 }) F.SESS_EVT.start_open

/-- SESS_LASTREQ and its event (R205). -/
def lastReq (s : State) (outcome kind source : Nat) : State :=
  sessEvent (s.sets [(F.SESS_LASTREQ.outcome, outcome), (F.SESS_LASTREQ.kind, kind), (F.SESS_LASTREQ.source, source)])
    F.SESS_EVT.req_done

/-- Whether the session manager is taken: a transaction is open, a decision waits for its code, or a plan applies
(R20, R203). -/
def sessTaken (s : State) : Bool :=
  s.flag F.SESS_STAT.txn_open || s.sess.rcode.isSome || s.flag F.SYS_GATE_STAT.plan_apply

/-- Whether a start of the session manager is refused (R80, R262, LF_SWEEP_DEFn): its transaction waits for LF work that still
runs to its boundary. -/
def sessRefused (s : State) (kind : Nat) : Bool :=
  lifeState s == 4 || kind == 3 || !s.flag F.LF_CTRL.syn_en || !sweepOk s (s.get F.LF_TXN.sweep_sel)

/-- A trigger starts its transaction (R202); a refused start ends the request with NO_TOKEN. -/
def startTrig (s : State) (r : SessReq) : State :=
  let r := if r.kind = 1 then { r with mask := s.get F.SESS_STARTMASK.mask } else r
  if sessRefused s r.kind then lastReq (s.set F.LF_STAT.txn_refused 1) outNoToken r.kind r.source
  else
    let s := s.modSess fun m => { m with cur := some r }
    let pres := if r.source = 17 ∧ s.sess.presCheck = 1 then some (s.get F.VERD_PRES.index) else none
    txnOpen s r.kind true pres

/-- The latched triggers in order until one starts: one whose start is refused ends at once and the next follows (R203). -/
def runTrigs (l : List SessReq) (s : State) : State :=
  match l with
  | [] => setTrigs s []
  | r :: t =>
    let s := startTrig (setTrigs s t) r
    if sessTaken s then s else runTrigs t s

/-- The next latched trigger runs once nothing is open and the gap has ended (R203). -/
def nextTrig (s : State) : State :=
  if sessTaken s || s.lf.gap then s else runTrigs s.sess.trigs s

/-- SESS_STAT.txn_open follows the transaction, a start that waits for it, and a decision that waits for its code. -/
def sessClose (s : State) : State :=
  nextTrig (s.put F.SESS_STAT.txn_open (s.txn.open_ || s.lf.next.isSome || s.sess.rcode.isSome))

/-- A trigger of R202: dropped when disabled, latched while something is open or waits, else started (R203). -/
def trigger (s : State) (source kind mask : Nat) : State :=
  if kind = 3 ∨ ¬ s.flag F.SESS_CTRL.en then s
  else
    let r : SessReq := { source := source, kind := kind, mask := mask }
    if sessTaken s || !s.sess.trigs.isEmpty then
      if s.sess.trigs.any fun q => q.source == source then s else setTrigs s (s.sess.trigs ++ [r])
    else startTrig s r

/-- A request ends with an outcome; the transaction closes for the session manager and a latched trigger may run
(R203, R205). -/
def sessOutcome (s : State) (outcome : Nat) (r : SessReq) : State :=
  sessClose ((lastReq s outcome r.kind r.source).modSess fun m => { m with cur := none })

/-- A candidate of R176: slot, index, paddock, time of flight, confidence and sequence. -/
structure Cand where
  slot : Nat
  idx : Nat
  paddock : Nat
  tof : Int
  conf : Nat
  seq : Nat
deriving DecidableEq, Repr

/-- The transaction's slots with PASS and a paddock in the requested set, in slot order (R176, R205): a slot it has not published
carries an earlier transaction's record. -/
def candidates (s : State) (mask : Nat) : List Cand :=
  (List.range 8).filterMap fun i =>
    let p := s.get (F.VERD_REC_W4.paddock i)
    if (s.slotT i).published ∧ s.get (F.VERD_REC_W0.code i) = 1 ∧ p < 24 ∧ bit mask p then
      some { slot := i, idx := s.get (F.VERD_REC_W0.idx_a i), paddock := p
             tof := sxt 32 (s.get (F.VERD_REC_W10.tof i)), conf := s.get (F.VERD_REC_W4.conf i)
             seq := s.get (F.VERD_REC_W4.seq i) }
    else none

/-- The hitching candidate (R206), from VERD_LAST. -/
def hpCandidates (s : State) (mask : Nat) : List Cand :=
  let p := s.get F.VERD_LAST_W4.paddock
  if s.get F.VERD_LAST_W0.code = 1 ∧ p < 24 ∧ bit mask p then
    [{ slot := 0, idx := s.get F.VERD_LAST_W0.idx_a, paddock := p, tof := 0, conf := s.get F.VERD_LAST_W4.conf
       seq := s.get F.VERD_LAST_W4.seq }]
  else []

/-- The better of two candidates: smaller time of flight, then higher confidence, then lower slot (R176). -/
def betterCand (a b : Cand) : Cand :=
  if b.tof < a.tof then b else if b.tof = a.tof ∧ a.conf < b.conf then b else a

/-- The winner of R176. -/
def winner (l : List Cand) : Option Cand :=
  match l with
  | [] => none
  | c :: t => some (t.foldl betterCand c)

/-- The 24-byte message of the release code (R217). -/
def rcodeMsg (s : State) (gen idx paddock mnonce : Nat) : List Byte :=
  ascii "RLSE" ++ bytesBe gen 6 ++ bytesBe idx 1 ++ bytesBe paddock 1 ++ vidBytes s ++ bytesBe mnonce 8

/-- The release code: the leftmost 96 bits of the CMAC under K_REL (R217). -/
def rcodeOf (s : State) (root gen idx paddock mnonce : Nat) : Nat :=
  cmac false (kRel s root) (rcodeMsg s gen idx paddock mnonce) / 2 ^ 32

/-- The RCODE channel is asked for the code of a START decision (R217); a refusal of the channel ends it RCODE_FAIL
(R208). -/
def askRcode (s : State) (r : SessReq) (w : Cand) (gen : Nat) : State :=
  match pchRefusal s 1 24, activeRoot s with
  | none, some root =>
    let q : RcodeReq := {
      gen := gen, idx := w.idx, slot := w.slot, paddock := w.paddock, seq := w.seq, source := r.source
      code := rcodeOf s root gen w.idx w.paddock r.mnonce }
    (pchAsk s .rcode 1 24).modSess fun m => { m with rcode := some q, cur := none }
  | st, _ =>
    let st := st.getD stDenied
    sessOutcome (countReuse (setPchStatus s 1 st) st) outRcodeFail r

/-- The decision at transaction end (R205). -/
def decide_ (s : State) (r : SessReq) (cands : List Cand) : State :=
  if r.kind = 2 then sessOutcome s outLocated r
  else
    match winner cands with
    | none => sessOutcome s outNoToken r
    | some w =>
      if r.kind = 0 ∧ s.get (F.SESS_DOOR.doors w.paddock) = 0 then sessOutcome s outNoDoor r
      else if genMax ≤ genOf s then sessOutcome (genSat s) outGenSat r
      else if ¬ s.flag F.SESS_STAT.gen_ready then sessOutcome s outGenWait r
      else if r.kind = 1 ∧ s.flag F.SESS_SLK.fault then sessOutcome s outSlkFault r
      else
        let g := genOf s + 1
        let s := setGen s g
        if r.kind = 0 then sessOutcome (openEntry s w.idx w.slot w.paddock g w.seq) outOpened r
        else askRcode s r w g

/-- The session manager's part of a transaction's end: its own transaction is decided; one that LF_TXN.start began only
closes. -/
def sessTxnEnd (s : State) : State :=
  match s.txn.sess, s.sess.cur with
  | true, some r => decide_ s r (candidates s r.mask)
  | _, _ => sessClose s

/-- The decision on a hitching record (R206). With SESS_CTRL.en 0 a PASS record is a trigger that is dropped (R202, R203). -/
def sessHpEnd (s : State) : State :=
  if ¬ s.flag F.SESS_CTRL.en ∧ s.get F.VERD_LAST_W0.code = 1 then sessClose (s.modSess fun m => { m with cur := none })
  else
  let r : SessReq := s.sess.cur.getD { source := 18, kind := 1, mask := s.get F.SESS_STARTMASK.mask }
  decide_ s r (hpCandidates s r.mask)

/-- mnonce is latched for the START transaction that starts, and both registers are cleared (R204). -/
def latchMnonce (s : State) : State :=
  match s.sess.cur with
  | some r =>
    if r.kind = 1 then
      let v := s.get (F.SESS_MNONCE.nonce 0) + 2 ^ 32 * s.get (F.SESS_MNONCE.nonce 1)
      let s := s.modSess fun m => { m with cur := some { r with mnonce := v } }
      (s.set (F.SESS_MNONCE.nonce 0) 0).set (F.SESS_MNONCE.nonce 1) 0
    else s
  | none => s

/-- START_SESSION_OPEN (R208, R218): the RCODE channel ends with a status, its own where the operation ended early or is to (R256,
R265, R267); only DONE opens the session. -/
def startSessionOpen (s : State) (status : BitVec 4) : State :=
  match s.sess.rcode with
  | none => s
  | some q =>
    let r : SessReq := { source := q.source, kind := 1, mask := 0 }
    let (s, st) := pchResult (s.modSess fun m => { m with rcode := none }) .rcode 1 24 status.toNat
    if st = stDone then
      let b := bytesBe q.code 12
      let s := (List.range 3).foldl
        (fun (t : State) n => t.set (F.SESS_RCODE.code n) (natLe ((b.drop (4 * n)).take 4))) s
      sessOutcome (openStart s q.idx q.slot q.paddock q.gen q.seq) outOpened r
    else sessOutcome s outRcodeFail r

def execStartSessionOpen (status : BitVec 4) (s : State) : Host.Outcome State Fault Refusal :=
  .next (startSessionOpen s status)

/-- SESS_START_CMD (R202): the fields are PRIV; kind 3 is refused, otherwise the host triggers. -/
def sessStartCmd (s : State) (kind : BitVec 2) (tagged : Bool) : State :=
  if tagged then
    let s := s.set F.SESS_CMD.kind kind.toNat
    if kind = 3 then lastReq s outRefused 3 16 else trigger s 16 kind.toNat (s.get F.SESS_CMD_MASK.mask)
  else s

def execSessStartCmd (kind : BitVec 2) (tagged : Bool) (s : State) : Host.Outcome State Fault Refusal :=
  .next (onControl s (sessStartCmd s kind tagged))

/-- END_ENTRY and END_START (R210): cause HOST. -/
def execEndEntry (s : State) : Host.Outcome State Fault Refusal := .next (onControl s (endEntrySess s endHost))
def execEndStart (s : State) : Host.Outcome State Fault Refusal := .next (onControl s (endStartSess s endHost))

/-- SESS_EN_WRITE (R203, R210): 0 drops every latched trigger and ends every session with cause DISABLED. -/
def sessEnWrite (s : State) (v : Bool) : State :=
  let s := s.put F.SESS_CTRL.en v
  if v then s else endSessions (setTrigs s []) endDisabled

def execSessEnWrite (v : Bool) (s : State) : Host.Outcome State Fault Refusal := .next (onControl s (sessEnWrite s v))

/-- SESSION_TIMEOUT (R210): a session's timer reaches 0. -/
def sessionTimeout (s : State) (start : Bool) : State :=
  if start then endStartSess s endTimeout else endEntrySess s endTimeout

def execSessionTimeout (start : Bool) (s : State) : Host.Outcome State Fault Refusal :=
  .next (sessionTimeout s start)

/-- SLK_B_HALF_PERIOD (R214): SLK_B toggles while a START session is open. -/
def slkBHalfPeriod (s : State) : State :=
  if s.flag F.SESS_STAT.start_open then s.modSess fun m => { m with slkB := !m.slkB } else s

def execSlkBHalfPeriod (s : State) : Host.Outcome State Fault Refusal := .next (slkBHalfPeriod s)

/-- A readback fault (R215). -/
def slkFault (s : State) : State :=
  endStartSess (sessEvent (s.set F.SESS_SLK.fault 1) F.SESS_EVT.slk_fault) endSlk

/-- SLK_READBACK_SAMPLE (R215): both balls are sampled; two samples in a row that differ from SLK_A's command, or four equal
ones on SLK_B in a START session, are a readback fault. -/
def slkReadbackSample (s : State) (a b : Bool) : State :=
  let cmd := s.flag F.SESS_SLK.cmd
  let was := s.flag F.SESS_SLK.b_rb
  let aRun := if a = cmd then 0 else s.sess.aRun + 1
  let bRun := if cmd then (if b = was ∧ 0 < s.sess.bRun then s.sess.bRun + 1 else 1) else 0
  let s := (s.put F.SESS_SLK.a_rb a).put F.SESS_SLK.b_rb b
  let s := s.modSess fun m => { m with aRun := aRun, bRun := bRun }
  if (2 ≤ aRun ∨ 4 ≤ bRun) ∧ (cmd ∨ ¬ s.flag F.SESS_SLK.fault) then slkFault s else s

def execSlkReadbackSample (a b : Bool) (s : State) : Host.Outcome State Fault Refusal :=
  .next (slkReadbackSample s a b)

/-- SLK_FAULT_CLEAR (R215): refused while the mismatch persists: SLK_A off its command, SLK_B standing in a session, or SLK_B high
against its low command. -/
def slkFaultClear (s : State) : State :=
  let bHigh := s.flag F.SESS_SLK.b_rb && !s.flag F.SESS_SLK.cmd
  if 0 < s.sess.aRun ∨ 4 ≤ s.sess.bRun ∨ bHigh then s else s.set F.SESS_SLK.fault 0

def execSlkFaultClear (s : State) : Host.Outcome State Fault Refusal := .next (onControl s (slkFaultClear s))

/-- Whether a door event is the edge the plan chose as a trigger (R202). -/
def doorTrig (s : State) (n : Nat) (opening : Bool) : Bool :=
  let t := s.get (F.SESS_DS.trig n)
  t == 3 || (opening && t == 1) || (!opening && t == 2)

/-- A door event (R202, R210): an opening ends every open session; the edge the plan chose is a trigger. -/
def sessDoor (s : State) (n : Nat) (opening : Bool) : State :=
  let s := if opening then endSessions s endDoor else s
  if doorTrig s n opening then
    trigger s (8 + n) (s.get (F.SESS_DS.kind n)) (s.get (F.SESS_DS.mask n))
  else s

/-- An accepted touch (R202). -/
def sessTouch (s : State) (n : Nat) : State :=
  trigger s n (s.get (F.SESS_HS.kind n)) (s.get (F.SESS_HS.mask n))

/-- The generation is made ready (R220): the ring's value plus N, the larger of that and gen on a live change, written to
the ring, and a store commanded. -/
def genResume (s : State) (live : Bool) : State :=
  let r := s.yard.genRing
  let v := min genMax (ringLive s r % 2 ^ 48 + ringN s r)
  let s := setGen s (if live then max (genOf s) v else v)
  let s := s.set F.SESS_STAT.gen_ready 0
  requestStoreFor (s.modSess fun m => { m with genWait := true }) wtGen

/-- The failed-attempt counter resumes from its ring (R221). -/
def failResume (s : State) : State := s.set F.SESS_FAIL.count (min 0xFFFF_FFFF (ringLive s s.yard.failRing))

/-- Whether a paddock is used by the plan (R173). -/
def paddockUsed (s : State) (p : Nat) : Bool :=
  decide (p < 24) && decide (1 ≤ s.get (F.SOLV_PAD_W0.nparts p)) && decide (s.get (F.SOLV_PAD_W0.nparts p) ≤ 4)

/-- Sessions whose paddock a plan change dropped end (R21, R210). -/
def sessPlanCheck (s : State) : State :=
  let s := if paddockUsed s (s.get F.SESS_ENTRY_W0.paddock) then s else endEntrySess s endPlan
  if paddockUsed s (s.get F.SESS_START_W0.paddock) then s else endStartSess s endPlan

/-- The end of the store it asked for completes the generation (R220). -/
def genStoreDone (s : State) : State :=
  if s.sess.genWait ∧ storeOver s wtGen then (s.set F.SESS_STAT.gen_ready 1).modSess fun m => { m with genWait := false } else s

/-- A millisecond passes on the session timers (R211). -/
def sessMs (s : State) : State :=
  let s :=
    if s.flag F.SESS_STAT.entry_open then
      if s.sess.entryMs ≤ 1 then endEntrySess s endTimeout
      else (s.modSess fun m => { m with entryMs := m.entryMs - 1 }).set F.SESS_ENTRY_W8.remain
        ((s.sess.entryMs - 1 + 99) / 100)
    else s
  if s.flag F.SESS_STAT.start_open then
    if s.sess.startMs ≤ 1 then endStartSess s endTimeout
    else (s.modSess fun m => { m with startMs := m.startMs - 1 }).set F.SESS_START_W8.remain
      ((s.sess.startMs - 1 + 99) / 100)
  else s

end Sys2Proof.Machine
end

