-- ==== Sys2Proof/Machine/Verd.lean ====
section
/-!
DEFINITION. The verdict latch (chapter 07): precomputation, the time of flight and the turnaround, the verdict list, the
records, the end of a transaction, and what cuts the latch's work.
-/
namespace Sys2Proof.Machine

/-- Verdict codes (R189). -/
def vNone : Nat := 0
def vPass : Nat := 1
def vLate : Nat := 2
def vEarly : Nat := 3
def vWrong : Nat := 4
def vPartial : Nat := 5

/-- Causes (R189). -/
def cOk : Nat := 0x00
def cNoFrame : Nat := 0x01
def cRxCut : Nat := 0x02
def cCollision : Nat := 0x03
def cNoTrack : Nat := 0x04
def cAckLate : Nat := 0x05
def cNotReady : Nat := 0x06
def cLfEnd : Nat := 0x07
def cNoGrant : Nat := 0x08
def cUwbCut : Nat := 0x09
def cTsLost : Nat := 0x0A
def cAborted : Nat := 0x0B
def cCut : Nat := 0x0C
def cAckBad : Nat := 0x10
def cPresBad : Nat := 0x11
def cReportBad : Nat := 0x12
def cContent : Nat := 0x13
def cSts : Nat := 0x14
def cSplit : Nat := 0x15
def cUhfEarly : Nat := 0x16
def cTofEarly : Nat := 0x17
def cHpEarly : Nat := 0x18
def cUhfLate : Nat := 0x19
def cTofLate : Nat := 0x1A
def cHpLate : Nat := 0x1B
def cCrc : Nat := 0x1C
def cUwbMiss : Nat := 0x1D

/-- Placement statuses (R105). -/
def plEmpty : Nat := 0
def plBusy : Nat := 1
def plOk : Nat := 2
def plCrcBad : Nat := 3
def plTrunc : Nat := 4
def plDiscard : Nat := 5
def plRxCut : Nat := 6

/-- Exchange statuses (R147). -/
def rsNotRun : Nat := 0
def rsOk : Nat := 1
def rsNoRr1 : Nat := 2
def rsNoRr2 : Nat := 3
def rsStsFail : Nat := 4
def rsSplit : Nat := 5
def rsNoRef : Nat := 6
def rsNoGrant : Nat := 7
def rsCut : Nat := 8
def rsAborted : Nat := 9

/-- A verdict record before publication (VERD_RECs). -/
structure VRec where
  code : Nat
  cause : Nat
  slot : Option Nat := none
  late : Bool := false
  hp : Bool := false
  two : Bool := false
  idxA : Nat := 0
  idxB : Nat := 0
  paddock : Nat := 0xFF
  conf : Nat := 0
  x : Nat := 0
  y : Nat := 0
  z : Nat := 0
  fstat : Nat := 0
  tof : Nat := 0x8000_0000
  err : Nat := 0x8000_0000
  lim : Nat := 0
  hpStart : Nat := 0xFFFF
deriving DecidableEq, Repr

/-- The seven words of a record. -/
def VRec.words (r : VRec) (seq : Nat) : List Word :=
  [BitVec.ofNat 32 (r.code + 2 ^ 4 * r.cause + 2 ^ 9 * r.slot.getD 0 + 2 ^ 12 * b2n r.slot.isNone + 2 ^ 13 * b2n r.late
      + 2 ^ 14 * b2n r.hp + 2 ^ 15 * b2n r.two + 2 ^ 16 * r.idxA + 2 ^ 20 * r.idxB),
    BitVec.ofNat 32 (seq + 2 ^ 16 * r.paddock + 2 ^ 24 * r.conf),
    BitVec.ofNat 32 (r.x + 2 ^ 16 * r.y),
    BitVec.ofNat 32 (r.z + 2 ^ 16 * r.fstat),
    BitVec.ofNat 32 r.tof,
    BitVec.ofNat 32 r.err,
    BitVec.ofNat 32 (r.lim + 2 ^ 16 * r.hpStart)]

/-- Writes words to consecutive register addresses. -/
def State.setWords (s : State) (a : Nat) (l : List Word) : State :=
  match l with
  | [] => s
  | w :: t => State.setWords (s.setWord a w) (a + 4) t

/-- The VERDICT ball's pulse of R194. -/
def verdictPulse (s : State) (code : Nat) : State :=
  let m := s.get F.VERD_PIN.mode
  if m = 2 ∨ (m = 1 ∧ code = vPass) then { s with verdPulse := true } else s

/-- Whether a code counts as a failed attempt (R221). -/
def failCode (c : Nat) : Bool := c == vWrong || c == vEarly || c == vLate

/-- Tracked slots without a published record, in slot order (VERD_STAT.pend). -/
def pendSlots (s : State) : List Nat :=
  (List.range 8).filter fun i => (s.slotT i).tracked && !(s.slotT i).published

/-- VERD_STAT.pend and VERD_STAT.ready follow the slots (R181, R403). -/
def updReady (s : State) : State :=
  let l := pendSlots s
  let ok := s.flag F.VERD_CTRL.en && !l.isEmpty && l.all (fun i => (s.slotT i).ready) && domOn s 7
    && s.bitAt F.CLK_STAT.good 8
  (s.set F.VERD_STAT.pend (l.foldl setBit 0)).put F.VERD_STAT.ready ok

/-- A record is published (R13, R191): sequence, VERD_LAST, the slot's record, counters, events, failed attempts. -/
def putRecordV (s : State) (r : VRec) : State :=
  let s := s.wrapInc F.SYS_GATE_STAT.verd_seq
  let w := r.words (s.get F.SYS_GATE_STAT.verd_seq)
  let s := s.setWords F.VERD_LAST_W0.code.addr w
  let s := match r.slot with
    | some i =>
      (s.setWords (F.VERD_REC_W0.code i).addr w).modSlotT i fun t => { t with published := true, expect := [] }
    | none => s
  let s := (s.set F.VERD_STAT.last_code r.code).set F.VERD_STAT.last_cause r.cause
  let s := if r.code = vPass then s.bump F.VERD_CNT.pass else if failCode r.code then s.bump F.VERD_CNT.fail else s
  let s := verdictPulse (updReady s) r.code
  let s := tallyEvent s 0x01
  let s := if r.code = vPass then tallyEvent s 0x02 else if failCode r.code then tallyEvent s 0x03 else s
  let s := raiseSource s 0x0D
  if failCode r.code then sessFail s r.code r.cause r.idxA else s

/-- A record is published unless a block reset holds the latch, which publishes CUT on its release (R197). -/
def publish (s : State) (r : VRec) : State := if heldBlock s 4 then s else putRecordV s r

/-- The fix of a slot put into its record. -/
def withFix (s : State) (i : Nat) (r : VRec) : VRec :=
  { r with
    paddock := s.get (F.SOLV_FIX_W0.paddock i), conf := s.get (F.SOLV_FIX_W0.conf i), x := s.get (F.SOLV_FIX_W4.x i)
    y := s.get (F.SOLV_FIX_W4.y i), z := s.get (F.SOLV_FIX_W8.z i), fstat := s.get (F.SOLV_FIX_W0.fstat i) }

/-- A 32-bit signed field of a record: the value saturated, or the mark of "not evaluated". -/
def recInt (v : Option Int) : Nat :=
  match v with
  | none => 0x8000_0000
  | some x => truncTo 32 (clampI (-2147483648) 2147483647 x)

/-- The reach applied to slot `i` (R186). -/
def reachOf (s : State) (i : Nat) : Nat :=
  let p := s.get (F.SOLV_FIX_W0.paddock i)
  let f := s.get (F.SOLV_FIX_W0.fstat i)
  if p = 0xFF ∨ f = 4 ∨ f = 6 ∨ f = 7 then s.get F.VERD_REACH_ANY.reach else s.get (F.VERD_REACH.reach p)

/-- The turnaround tolerance and the early limit as they act. -/
def tolOf (s : State) : Int := orDefault (s.get F.VERD_TURN.tol) 63898
def earlyOf (s : State) : Int := orDefault (s.get F.VERD_WIN.early) 32

/-- The verdict list of R190: the first line that applies. -/
def verdictOf (repBad : Bool) (rsp : Nat) (contentBad : Bool) (rstat : Nat) (tsLost : Bool) (err tof : Option Int)
    (tol early lim : Int) : Nat × Nat :=
  let errIs := fun (p : Int → Bool) => rsp == plOk && (match err with | some e => p e | none => false)
  let tofIs := fun (p : Int → Bool) => rstat == rsOk && (match tof with | some e => p e | none => false)
  if repBad then (vWrong, cReportBad)
  else if rsp = plOk ∧ contentBad then (vWrong, cContent)
  else if rstat = rsStsFail then (vWrong, cSts)
  else if rstat = rsSplit then (vEarly, cSplit)
  else if tsLost then (vNone, cTsLost)
  else if errIs fun e => decide (e < -tol) then (vEarly, cUhfEarly)
  else if tofIs fun t => decide (t < -early) then (vEarly, cTofEarly)
  else if errIs fun e => decide (tol < e) then (vLate, cUhfLate)
  else if tofIs fun t => decide (lim < t) then (vLate, cTofLate)
  else if rsp = plRxCut then (vNone, cRxCut)
  else if rstat = rsNoGrant then (vNone, cNoGrant)
  else if rstat = rsCut ∨ rstat = rsAborted then (vNone, cUwbCut)
  else if rsp = plCrcBad ∨ rsp = plTrunc then (vPartial, cCrc)
  else if rsp = plOk ∧ rstat ≠ rsOk then (vPartial, cUwbMiss)
  else if rsp ≠ plOk then (vNone, cNoFrame)
  else (vPass, cOk)

/-- The limit field: reach + guard, free where the sum passes its 16 bits, for which the spec states no value (log entry 76). -/
def limField (lim : Nat) : Nat := if lim < 2 ^ 16 then lim else truncTo 16 (Config.solvOver 32 lim)

/-- The record of a tracked slot decided under R190; an abort that met its forming marks it (R196). -/
def slotVerdict (s : State) (i : Nat) (tsLost : Bool) : VRec :=
  let t := s.slotT i
  let lim := reachOf s i + s.get F.VERD_WIN.guard
  let v := verdictOf t.repBad (t.rsp.getD plEmpty) t.contentBad t.rstat tsLost t.err t.tof
    (tolOf s) (earlyOf s) lim
  withFix s i { code := v.1, cause := v.2, slot := some i, late := t.late, idxA := t.idx, tof := recInt t.tof
                err := recInt t.err, lim := limField lim }

/-- A record without a decision under R190 for a tracked slot; what was evaluated of it stands (VERD_RECs). -/
def slotNone (s : State) (i cause : Nat) : VRec :=
  let t := s.slotT i
  withFix s i { code := vNone, cause := cause, slot := some i, idxA := t.idx, tof := recInt t.tof, err := recInt t.err }

/-- Publishes a NONE record with a cause for every tracked slot without one, in slot order. -/
def publishRest (s : State) (cause : Nat) : State := (pendSlots s).foldl (fun t i => publish t (slotNone t i cause)) s

/-- The ranging grant is released once no window of the transaction can follow (R144). -/
def rangingRelease (s : State) : State :=
  let s := manRelease s 3
  if s.get F.UWB_STAT.state = 0 then s else s.set F.UWB_STAT.state (if s.flag F.UWB_STAT.ts_ready then 1 else 0)

/-- The verdict latch's precomputation stops and its handles are freed (R250, R256; when, log entry 46). -/
def verdFree (s : State) : State :=
  let s := dropOp s .verd
  (List.range 48).foldl
    (fun t h => if (keySlot t h).live ∧ (keySlot t h).owner = 8 then freeSlotTree t h else t) s

/-- The transaction ends (R56); its air work that still runs has no effect on records; the receivers rest (R115), the session
manager decides, and a start that waited follows (R79). -/
def txnEnd (s : State) : State :=
  let s := s.modTxn fun t => { t with open_ := false, slots := t.slots.map fun q => { q with expect := [] }, hpExpect := [] }
  let s := updReady (verdFree (s.set F.VERD_STAT.open_ 0))
  let s := settleRx (if s.flag (F.UWB_STRB_W4.valid 2) then s else rangingRelease s)
  txnNext (sessTxnEnd s)

/-- The transaction ends once the ACK phase is over and every tracked slot has its record (R56). -/
def txnMaybeEnd (s : State) : State :=
  if s.txn.open_ ∧ ¬ s.txn.hp ∧ s.txn.ackEnd ∧ (pendSlots s).isEmpty then txnEnd s else s

/-- A NONE record that names no slot. -/
def noSlotRec (cause : Nat) : VRec := { code := vNone, cause := cause }

/-- The transaction ends with the record of its last tracked slot (R56). -/
def txnEndAll (s : State) : State := if (pendSlots s).isEmpty then txnEnd s else s

/-- The decision of R192 for a transaction whose LF work ended early. -/
def decideLfEnd (s : State) : State :=
  let s := s.modTxn fun t => { t with ackEnd := true }
  if (pendSlots s).isEmpty then
    if s.txn.slots.any (·.tracked) then txnEnd s else txnEnd (publish s (noSlotRec cLfEnd))
  else txnEndAll (publishRest s cLfEnd)

/-- The seed's slot mask (R51). -/
def seedMask (seed : Nat) : Nat := match seed with | 0 => 1 | 1 => 2 | 2 => 4 | _ => 7

/-- The slot of an index under the WAKE byte's seed (R51). -/
def slotOfIndex (w i : Nat) : Nat := if i < 8 then i else (i % 8) ^^^ seedMask (w / 16 % 4)

/-- The second candidate index of a slot (R51). -/
def highIndex (w slot : Nat) : Nat := 8 + (slot ^^^ seedMask (w / 16 % 4))

/-- A collision's record (R57). -/
def collisionRec (s : State) (i : Nat) : VRec :=
  { code := vNone, cause := cCollision, slot := some i, two := true, idxA := i, idxB := highIndex s.lf.w i }

/-- C as loaded: 16 bytes, byte 0 first (LF_CHALn). -/
def chalBytes (s : State) : List Byte := (List.range 4).flatMap fun n => bytesLe (s.word (F.LF_CHAL.c0 n).addr).toNat 4

/-- The Halter working keys of R33 under K_tok. -/
def kMac (s : State) (root idx : Nat) : Nat := childKey (kTok s root idx) 6 (vidBytes s ++ bytesBe idx 1)
def kRsp (s : State) (root idx : Nat) : Nat := childKey (kTok s root idx) 7 (vidBytes s ++ bytesBe idx 1)
def kHp (s : State) (root idx : Nat) : Nat := childKey (kTok s root idx) 8 (vidBytes s ++ bytesBe idx 1)
def kTxn (s : State) (root idx tctr : Nat) : Nat :=
  childKey (kTok s root idx) 9 (vidBytes s ++ bytesBe idx 1 ++ bytesBe tctr 4)

/-- The tag of R36: the leftmost 32 bits. -/
def tagOf (s : State) (root idx w tctr : Nat) (f : List Byte) : Nat :=
  cmac false (kMac s root idx) (vidBytes s ++ bytesBe w 1 ++ bytesBe tctr 4 ++ f) / 2 ^ 96

/-- RSP in a transaction and at the hitching post (R37): the leftmost 64 bits. -/
def rspOf (s : State) (root idx w tctr : Nat) (c : List Byte) : Nat :=
  cmac false (kRsp s root idx) (c ++ vidBytes s ++ bytesBe w 1 ++ bytesBe tctr 4 ++ bytesBe idx 1) / 2 ^ 64
def rspHpOf (s : State) (root idx : Nat) (c : List Byte) : Nat :=
  cmac false (kHp s root idx) (c ++ vidBytes s ++ bytesBe 0xE0 1 ++ bytesBe idx 1) / 2 ^ 64

/-- The expected RESPONSE of variant `v` (R37, R49, R50, R179): bit 2 is lb, bit 1 the reserved bit of byte 0, bit 0 that
of byte 1. -/
def expectedFrame (s : State) (root idx slot w tctr v : Nat) (c : List Byte) : List Byte :=
  let f := bytesBe (0x30 + v / 2 % 4) 1 ++ bytesBe (16 * idx + 2 * slot + v % 2) 1 ++ bytesBe (rspOf s root idx w tctr c) 8
  let m := f ++ bytesBe (tagOf s root idx w tctr f) 4
  m ++ bytesBe (crc16 m) 2

/-- The variant a received header selects (R183). -/
def variantOf (b : List Byte) : Nat :=
  ((b.getD 0 0).toNat % 4) * 2 + (b.getD 1 0).toNat % 2

/-- The STS blocks of the four frames (R132). -/
def stsBlocks (s : State) (root idx slot w tctr : Nat) : List Nat :=
  let k := kTxn s root idx tctr
  let ctx := bytesBe w 1 ++ bytesBe slot 1
  let ks := childKey k 10 ctx
  let v := childKey k 11 ctx
  let n := if bit (s.get F.UWB_CFG.profile) 4 then 64 else 32
  (List.range 4).flatMap fun f => (List.range n).map fun i =>
    aesEnc false ks (v / 2 ^ 32 * 2 ^ 32 + (v % 2 ^ 32 + 256 * f + i) % 2 ^ 32)

/-- The slot the latch precomputes next: the first accepted one without its values (R484). -/
def nextPre (s : State) : Option Nat :=
  s.txn.order.find? fun i =>
    (s.slotT i).tracked && !(s.slotT i).published && !(s.slotT i).ready && !(s.slotT i).preFail

/-- The context of a key of slot `i` (R33, R132, R248). -/
def latchCtx (s : State) (i id : Nat) : List Byte :=
  let t := s.slotT i
  if 10 ≤ id then bytesBe s.lf.w 1 ++ bytesBe i 1
  else vidBytes s ++ bytesBe t.idx 1 ++ (if id = 9 then bytesBe t.tctr 4 else [])

/-- The label id of the parent of a key (R248); 0 for the active root. -/
def latchParent (id : Nat) : Nat := if id = 5 then 0 else if 10 ≤ id then 9 else 5

/-- The verdict latch's handle of a key of slot `i`. -/
def latchHandle (s : State) (i id : Nat) : Option Nat :=
  (List.range 48).find? fun h =>
    let k := keySlot s h
    k.live && k.owner == 8 && k.id == id && k.ctx == latchCtx s i id

/-- The stages of a precomputation (R484): the key whose handle the blocks run under, the keys they derive, and their number. -/
def preStage (s : State) (stage : Nat) : Nat × List Nat × Nat :=
  match stage with
  | 1 => (0, [5], 3)
  | 2 => (5, [6, 7, 9], 7)
  | 3 => (9, [10, 11], 5)
  | 4 => (7, [], 3)
  | 5 => (6, [], 17)
  | _ => (10, [], if bit (s.get F.UWB_CFG.profile) 4 then 256 else 128)

/-- A precomputation that cannot go on: the slot stays without its values (R181, R250, R253). -/
def preFailed (s : State) (i : Nat) : State := s.modSlotT i fun t => { t with preFail := true }

/-- A stage begins: its handle is checked and counted, the slots for the keys it derives must be free, and its blocks compete for
the cores (R241, R250, R252, R253). -/
def preBegin (s : State) (i stage : Nat) : State :=
  let (under, ids, n) := preStage s stage
  let free := ((List.range 48).filter fun h => !(keySlot s h).live && !slotInUse s h).length
  if free < ids.length then preFailed s i
  else
    let o : CoreOp := { who := .verd, left := n, kind := stage, derId := i }
    if under = 0 then addOp s o
    else
      match latchHandle s i under with
      | none => preFailed s i
      | some h =>
        if 2 ^ (keySlot s h).limE < (keySlot s h).uses + n then countReuse (preFailed s i) stReuse
        else addOp (modSlot s h fun k => { k with uses := k.uses + n, sub := true }) { o with slot := h }

/-- A key of the slot takes a handle of the latch's own (R248 to R250, R252). -/
def preKey (s : State) (i root : Nat) (id : Nat) : State :=
  let ctx := latchCtx s i id
  match freeSlot s with
  | none => preFailed s i
  | some h =>
    if id = 5 then
      fillSlot s h { key := rootKey root 5 ctx, depth := 1, owner := 8, id := 5, ctx := ctx, limE := maxE s }
    else
      match latchHandle s i (latchParent id) with
      | none => preFailed s i
      | some p =>
        let k := keySlot s p
        fillSlot s h { key := childKey k.key id ctx, depth := k.depth + 1, owner := 8, id := id, parent := p, ctx := ctx
                       path := k.path ++ [k.id], limE := maxE s }

/-- The last block of a stage has run: its keys are held, and the next stage begins; after the last the values await
PRECOMPUTE_DONE. -/
def preStageEnd (s : State) (o : CoreOp) : State :=
  let s := dropOp s .verd
  let i := o.derId
  match activeRoot s with
  | none => preFailed s i
  | some root =>
    let s := (preStage s o.kind).2.1.foldl (fun t id => preKey t i root id) s
    if (s.slotT i).preFail then s
    else if o.kind < 6 then preBegin s i (o.kind + 1)
    else addOp s { who := .verd, left := 0, kind := 7, derId := i }

/-- The latch takes up its next slot once C is loaded, before the preface (R179, R180, R484). Nothing starts without an active
root, while the tack room is blocked or off, or while a block reset holds the latch. -/
def verdKick (s : State) : State :=
  if (opOf s .verd).isNone ∧ s.txn.open_ ∧ ¬ s.txn.hp ∧ ¬ s.txn.preface ∧ s.lf.cLoaded ∧ ¬ s.flag F.KEYS_STAT.blocked
      ∧ domOn s 3 ∧ (activeRoot s).isSome ∧ ¬ heldBlock s 4 then
    match nextPre s with
    | some i => preBegin s i 1
    | none => s
  else s

/-- The stages that no BLOCK_DONE reported have run too. -/
def preFinish (s : State) (fuel : Nat) : State :=
  match fuel with
  | 0 => s
  | n + 1 =>
    match opOf s .verd with
    | some o => if o.kind = 7 then s else preFinish (preStageEnd (blocksRun s o.left) o) n
    | none => s

/-- PRECOMPUTE_DONE (R179, R180, R484): the values of the slot are complete; the handles of K_MAC and K_RSP have served. Then the
next slot is taken up. -/
def precomputeDone (s : State) (i : Fin 8) : State :=
  let s := verdKick s
  match opOf s .verd, activeRoot s with
  | some o, some root =>
    if o.derId = i.val ∧ o.ending = none then
      let s := preFinish s 7
      if (s.slotT i).preFail then verdKick s
      else
        let t := s.slotT i
        let c := chalBytes s
        let e := (List.range 8).map fun v => expectedFrame s root t.idx i s.lf.w t.tctr v c
        let b := stsBlocks s root t.idx i s.lf.w t.tctr
        let s := (dropOp s .verd).modSlotT i fun q => { q with ready := true, expect := e }
        let s := [6, 7].foldl (fun t id => match latchHandle t i id with | some h => freeSlotTree t h | none => t) s
        verdKick (updReady { s with uwb := { s.uwb with sts := s.uwb.sts.set i b } })
    else s
  | _, _ => s

def execPrecomputeDone (i : Fin 8) (s : State) : Host.Outcome State Fault Refusal := .next (precomputeDone s i)

/-- The precomputation of every tracked slot restarts from a new C before the preface (R180). -/
def precomputeRestart (s : State) : State :=
  if (pendSlots s).isEmpty ∨ s.txn.preface then s
  else
    let s := verdFree (s.set F.VERD_STAT.chal_restart 1)
    verdKick (updReady (s.modTxn fun t =>
      { t with slots := t.slots.map fun q => { q with ready := false, preFail := false, expect := [] } }))

/-- A 40-bit field pair as a timestamp. -/
def stmp40 (lo hi : Nat) : Stmp := BitVec.ofNat 40 (lo + 2 ^ 32 * hi)

/-- The raw captures of an exchange record (R147). -/
def recPoll (s : State) (i : Nat) : Stmp := stmp40 (s.get (F.UWB_REC_W4.poll_lo i)) (s.get (F.UWB_REC_W8.poll_hi i))
def recFin (s : State) (i : Nat) : Stmp := stmp40 (s.get (F.UWB_REC_WC.fin_lo i)) (s.get (F.UWB_REC_W10.fin_hi i))
def recR1 (s : State) (i k : Nat) : Stmp := stmp40 (s.get (F.UWB_REC_W20.r1_lo i k)) (s.get (F.UWB_REC_W24.r1_hi i k))
def recR2 (s : State) (i k : Nat) : Stmp := stmp40 (s.get (F.UWB_REC_W28.r2_lo i k)) (s.get (F.UWB_REC_W2C.r2_hi i k))

/-- A timestamp moved by a signed number of LSB. -/
def stmpAdd (t : Stmp) (n : Int) : Stmp := t + BitVec.ofInt 40 n

/-- The corrected transmit and receive times of R140. -/
def corrTx (s : State) (t : Stmp) : Stmp := stmpAdd t (s.get F.UWB_TXDLY.dly + s.get F.UWB_WTCABLE.cable)
def corrRx (s : State) (k : Nat) (t : Stmp) : Stmp :=
  stmpAdd t (-(s.get (F.UWB_CHDLY.dly k) + s.get (F.UWB_PORT.cable k) : Int))

/-- The path sum of port `k` (R130, R159). -/
def pathSum (s : State) (i k : Nat) : Int :=
  2 * stmpDiff (corrRx s k (recR1 s i k)) (corrTx s (recPoll s i))
    - stmpDiff (corrRx s k (recR2 s i k)) (corrTx s (recFin s i))

/-- The reference port (R136). -/
def refPort (s : State) : Nat := s.get F.UWB_CFG.ref_port

/-- The time of flight of R184: half the path sum less the token's bias, rounded half up. -/
def tofOf (s : State) (i : Nat) : Int := (pathSum s i (refPort s) - sxt 16 (s.get F.VERD_CAL1.tok_bias) + 1) / 2

/-- The exact LSB of `us` microseconds as R187 rounds them. -/
def usLsb (us : Nat) : Nat := (us * 319488 + 5) / 10

/-- What R187 needs of T_END is fixed: the instant corrected by the envelope and the strobe's path, and k (R188). -/
def fixBounds (s : State) (raw : Stmp) : State :=
  let envLsb := (s.txn.env * 319488 + 5000) / 10000
  let k := s.lf.k
  s.modTxn fun t => { t with bound := stmpAdd raw ((envLsb : Int) - s.get F.VERD_CAL0.strobe_dly), k := k }

/-- The error of R187 of a frame that ended at `ts` with residual `res` on receiver `rx`. -/
def errOf (s : State) (i : Nat) (rx : Bool) (ts : Stmp) (res : Nat) : Int :=
  let tEnd := s.txn.bound
  let off := 400 + dOf s s.txn.k + rowOf s i * wRsp s
  let bitLsb := if rateOf s = 0 then 416000 else 1664000
  let expEnd := stmpAdd tEnd (usLsb off + 160 * bitLsb : Nat)
  let m := 2 * b2n rx + rateOf s
  let ball := stmpAdd ts (-(s.get (F.UHF_DLY.dly m) + res : Int))
  stmpDiff ball expEnd

/-- Whether a fix status is final (R177). -/
def fixFinal (f : Nat) : Bool := decide (3 ≤ f)

/-- Whether a slot's last input has arrived, so that its code is formed (R193). -/
def codeFormed (s : State) (i : Nat) : Bool :=
  s.txn.open_ && (s.slotT i).tracked && !(s.slotT i).published && (s.slotT i).rsp.isSome

/-- Whether a slot's record may be published (R193, R197). -/
def publishReady (s : State) (i : Nat) : Bool :=
  codeFormed s i && fixFinal (s.get (F.SOLV_FIX_W0.fstat i)) && !heldBlock s 4

/-- VERDICT_PUBLISH (R193): the slot's record is decided under R190 and published. -/
def verdictPublish (s : State) (i : Fin 8) : State :=
  if publishReady s i then txnMaybeEnd (publish s (slotVerdict s i s.txn.tsLost)) else s

def execVerdictPublish (i : Fin 8) (s : State) : Host.Outcome State Fault Refusal := .next (verdictPublish s i)

/-- VERDICT_PULSE_END (R194). -/
def execVerdictPulseEnd (s : State) : Host.Outcome State Fault Refusal := .next { s with verdPulse := false }

/-- Every tracked slot without a record ends NONE, but one whose code an abort met; the transaction ends with the last record
(R56, R196). -/
def verdStop (s : State) (cause : Nat) : State :=
  if s.txn.open_ ∧ ¬ s.txn.hp ∧ ¬ (pendSlots s).isEmpty then
    txnEndAll (((pendSlots s).filter fun i => !(s.slotT i).late).foldl (fun t i => publish t (slotNone t i cause)) s)
  else s

/-- VERD_ABORT (R196): a slot whose code is being formed keeps its record, with abort_late; it is published once its fix is
final. -/
def verdAbort (s : State) (forming : Option (Fin 8)) : State :=
  match forming with
  | some i =>
    if codeFormed s i then
      let s := (s.set F.VERD_STAT.abort_late 1).modSlotT i fun t => { t with late := true }
      verdStop (verdictPublish s i) cAborted
    else verdStop s cAborted
  | none => verdStop s cAborted

def execVerdAbort (forming : Option (Fin 8)) (s : State) : Host.Outcome State Fault Refusal :=
  .next (onDom s 2 (verdAbort s forming))

/-- VERD_EN_WRITE (R196): 0 acts as abort with cause CUT. -/
def verdEnWrite (s : State) (v : Bool) : State :=
  let s := updReady (s.put F.VERD_CTRL.en v)
  if v then s else if s.txn.open_ then verdStop (s.set F.VERD_STAT.cut 1) cCut else s

def execVerdEnWrite (v : Bool) (s : State) : Host.Outcome State Fault Refusal := .next (onDom s 2 (verdEnWrite s v))

/-- The tamper wipe (R182, R196): expected frames and the STS store are zeroed, and open slots end CUT. -/
def verdWipe (s : State) : State :=
  let s := s.modTxn fun t =>
    { t with slots := t.slots.map fun q => { q with ready := false, expect := [] }, hpExpect := [] }
  let s : State := { s with uwb := { s.uwb with sts := List.replicate 8 [] } }
  verdStop (updReady s) cCut

/-- ts_ready fell during a transaction (R126, R195): every tracked slot without a record is decided with ts_lost. -/
def verdTsLost (s : State) : State :=
  if s.txn.open_ ∧ ¬ s.txn.hp then
    let s := s.set F.VERD_STAT.ts_lost 1
    let l := pendSlots s
    let s := l.foldl (fun t i => publish t (slotVerdict t i true)) s
    if l.isEmpty then s.modTxn fun t => { t with tsLost := true } else txnEndAll s
  else s

/-- A presence record is published (R199); it starts a LOCATE transaction (R202). -/
def publishPresence (s : State) (idx p : Nat) : State :=
  let s := s.wrapInc F.SYS_GATE_STAT.verd_seq
  let s := s.sets [(F.VERD_PRES.index, idx), (F.VERD_PRES.p, p), (F.VERD_PRES.valid, 1),
    (F.VERD_PRES.seq, s.get F.SYS_GATE_STAT.verd_seq)]
  let s := raiseSource (tallyEvent s 0x04) 0x0E
  trigger (s.modSess fun m => { m with presCheck := 1 }) 17 2 0

/-- A slot's tracking begins with its accepted ACK (R56). -/
def trackSlot (s : State) (i idx tctr : Nat) : State :=
  let s := s.modSlotT i fun t => { t with tracked := true, idx := idx, tctr := tctr, ackOver := true }
  verdKick (updReady (s.modTxn fun t => { t with order := t.order ++ [i] }))

end Sys2Proof.Machine
end

