-- ==== Sys2Proof/Machine/Uhf.lean ====
section
/-!
DEFINITION. The UHF receivers and the frame assembler (chapter 04): placements and their outcomes, quarantine, checks, the
poll latch and presence, and the queueing of fixes.
-/
namespace Sys2Proof.Machine

/-- Changes the receivers' state. -/
def State.modUhf (s : State) (f : UhfState → UhfState) : State := { s with uhf := f s.uhf }

/-- A quarantine entry's record words (R109). -/
def entryOf (p : Placement) : Nat :=
  match p with
  | .ack i => i
  | .poll p => p
  | .report i => 8 + i
  | .response i => 16 + i

/-- The slot of a transaction placement. -/
def slotOf (p : Placement) : Option Nat :=
  match p with
  | .ack i => some i
  | .report i => some i
  | .response i => some i
  | .poll _ => none

/-- Whether a placement belongs to a poll burst. -/
def isPoll (p : Placement) : Bool := match p with | .poll _ => true | _ => false

/-- The enrolled-index map of the poll shadow (R227). -/
def enrolMap (s : State) : Nat := s.get (F.POLL_SHADOW.copy 28)

/-- The receiver a record names (R99): the lane's; in diversity the branch with the higher RSSI code, or U0 when both are equal,
among the branches that receive (R117). -/
def rxOf (s : State) (p : Placement) (u0 u1 : RssiIn) : Bool :=
  if uhfIndep s then laneRx s p
  else if rxOff s false then true
  else if rxOff s true then false
  else decide (u0.avg.toNat < u1.avg.toNat)

/-- The RSSI codes, bit by bit, that a placement's tests read: the lane receiver's; in diversity the higher of the branches that
receive (log entry 158). -/
def rssiBits (s : State) (p : Placement) (u0 u1 : RssiIn) : List Nat :=
  let l0 := u0.bits.map (·.toNat)
  let l1 := u1.bits.map (·.toNat)
  if uhfIndep s then (if laneRx s p then l1 else l0)
  else if rxOff s false then l1
  else if rxOff s true then l0
  else (List.range (max l0.length l1.length)).map fun i => max (l0.getD i 0) (l1.getD i 0)

/-- Whether a list holds `n` in a row that pass a test, `run` of them just before it. -/
def hasRun (n run : Nat) (f : Nat → Bool) (l : List Nat) : Bool :=
  match l with
  | [] => decide (n ≤ run)
  | x :: t => decide (n ≤ run) || hasRun n (if f x then run + 1 else 0) f t

/-- The carrier-energy test of R104: at or above busy_thr for eight bit times in a row. -/
def carrierEnergy (s : State) (l : List Nat) : Bool :=
  hasRun 8 0 (fun r => decide (bitsOf (uhfCfg s) F.UHF_CFG.busy_thr.lo F.UHF_CFG.busy_thr.len ≤ r)) l

/-- The truncation test of R102: below the floor for eight bit times in a row. -/
def belowFloor (s : State) (l : List Nat) : Bool :=
  hasRun 8 0 (fun r => decide (r < bitsOf (uhfCfg s) F.UHF_CFG.floor.lo F.UHF_CFG.floor.len)) l

/-- Whether a placement ends RX_CUT (R105, R117): its receiver, or in diversity both, are off. -/
def placementCut (s : State) (p : Placement) : Bool :=
  if uhfIndep s then rxOff s (laneRx s p) else rxOff s false && rxOff s true

/-- The bytes of a frame of a placement (R101). -/
def frameLen (s : State) (p : Placement) (b : List Byte) : Nat :=
  match p with
  | .ack _ => 12
  | .poll _ => 12
  | .response _ => 16
  | .report _ =>
    if (b.getD 0 0).toNat / 16 = 4 then 10
    else
      let k := (b.getD 2 0).toNat
      9 + 3 * (if k = 0 ∨ 32 < k then min s.lf.k 32 else k)

/-- Whether the CRC-16 of R38 over all but the last two bytes matches them. -/
def crcOk (b : List Byte) : Bool := decide (4 ≤ b.length) && crc16 (b.take (b.length - 2)) == natBe (b.drop (b.length - 2))

/-- Header fields of R49. -/
def hdrType (b : List Byte) : Nat := (b.getD 0 0).toNat / 16
def hdrVersion (b : List Byte) : Nat := (b.getD 0 0).toNat / 4 % 4
def hdrIndex (b : List Byte) : Nat := (b.getD 1 0).toNat / 16
def hdrSlot (b : List Byte) : Nat := (b.getD 1 0).toNat / 2 % 8

/-- Whether a placement carries a frame type (R50, R105): a response placement takes every type that is not reserved. -/
def typeCarried (p : Placement) (t : Nat) : Bool :=
  match p with
  | .ack _ => t == 1
  | .poll _ => t == 1
  | .report _ => t == 2 || t == 4
  | .response _ => decide (1 ≤ t) && decide (t ≤ 4)

/-- The status of a frame that reached its length (R105). -/
def frameStatus (p : Placement) (b : List Byte) (len : Nat) : Nat :=
  if b.length < len ∨ ¬ crcOk (b.take len) then plCrcBad
  else if hdrVersion b ≠ 0 ∨ ¬ typeCarried p (hdrType b) then plDiscard
  else plOk

/-- The bytes of a quarantine entry. -/
def quarBytes (s : State) (e n : Nat) : List Byte := Store.getList s.uhf.quar (128 * e) n

/-- The state of a quarantine entry (R110). -/
def qstate (s : State) (e : Nat) : Nat := s.get (F.UHF_REC_W0.qstate e)

/-- Wipes an entry (R111): its bytes are zeroed and it is FREE; a wipe for failure or lateness is counted. -/
def wipeEntry (s : State) (e : Nat) : State :=
  let s := s.modUhf fun u => { u with quar := Store.clear u.quar (128 * e) 128 }
  (s.set (F.UHF_REC_W0.qstate e) 0).bump F.UHF_CNT2.wiped

/-- Entries and records `lo` to `lo + n - 1` are cleared, which counts as no failure (R113). -/
def clearEntries (s : State) (lo n : Nat) : State :=
  let s := s.modUhf fun u => { u with quar := Store.clear u.quar (128 * lo) (128 * n) }
  s.zero (F.UHF_REC_W0.status lo).addr (4 * n)

/-- Writes the record of a placement (UHF_RECe); the entry's state is not the record's to change (R110). What the spec gives no
value for reads 0: rssi, len and type of a placement without a frame, foff of a frame that is not OK (log entry 159). -/
def putRecord (s : State) (p : Placement) (status : Nat) (rx : Bool) (b : List Byte) (rssi foff : Nat) (ts : Stmp)
    (res : Nat) : State :=
  let e := entryOf p
  let framed := decide (2 ≤ status ∧ status ≤ 5)
  let timed := status = plOk ∨ status = plCrcBad ∨ status = plTrunc
  s.sets [(F.UHF_REC_W0.status e, status), (F.UHF_REC_W0.rx e, b2n rx),
    (F.UHF_REC_W0.rssi e, if framed then rssi else 0), (F.UHF_REC_W0.foff e, if status = plOk then foff else 0),
    (F.UHF_REC_W4.ts_lo e, if timed then ts.toNat else 0),
    (F.UHF_REC_W8.ts_hi e, if timed then ts.toNat / 2 ^ 32 else 0), (F.UHF_REC_W8.end_res e, if timed then res else 0),
    (F.UHF_REC_W8.rate e, if isPoll p then 0 else rateOf s), (F.UHF_REC_WC.len e, if framed then b.length else 0),
    (F.UHF_REC_WC.type_ e, if framed ∧ b ≠ [] then hdrType b else 0)]

/-- An OK frame enters its entry as UNVERIFIED (R109, R110). -/
def quarantine (s : State) (e : Nat) (b : List Byte) : State :=
  let s := s.modUhf fun u => { u with quar := Store.putList (Store.clear u.quar (128 * e) 128) (128 * e) b }
  raiseSource (s.set (F.UHF_REC_W0.qstate e) 2) 0x0A

/-- Whether a placement status collides in an ACK placement (R105). -/
def collides (status : Nat) : Bool := status == plBusy || status == plCrcBad || status == plTrunc

/-- The counters and events of a placement's end (R105, R316, R359). -/
def countPlacement (s : State) (p : Placement) (status : Nat) : State :=
  let s := if status = plOk then s.bump F.UHF_CNT0.ok
    else if status = plCrcBad then s.bump F.UHF_CNT0.crc_bad
    else if status = plDiscard then s.bump F.UHF_CNT1.discard
    else if status = plTrunc then s.bump F.UHF_CNT2.trunc else s
  let s := match p with
    | .ack _ => if collides status then s.bump F.UHF_CNT1.collide else s
    | _ => s
  let s := if status = plOk then tallyEvent s 0x0A
    else if status = plCrcBad ∨ status = plTrunc then tallyEvent s 0x0B else s
  raiseSource s (match p with | .ack _ => 0x07 | .poll _ => 0x07 | .report _ => 0x08 | .response _ => 0x09)

/-- The fix of a slot joins the queue when both its inputs are complete (R151, R174); with the solver disabled it ends CUT,
and one held in reset marks every tracked slot on its release (R177). -/
def tryQueueFix (s : State) (i : Nat) : State :=
  let t := s.slotT i
  if t.tracked ∧ ¬ t.published ∧ t.repOver ∧ t.uwbOver ∧ s.get (F.SOLV_FIX_W0.fstat i) = 0 ∧ s.txn.open_ ∧ ¬ heldBlock s 3 then
    if s.flag F.SOLV_CTRL.en then
      let s : State := { s with solv := { s.solv with queue := s.solv.queue ++ [i] } }
      (s.set (F.SOLV_FIX_W0.fstat i) 1).set F.SOLV_STAT.queued s.solv.queue.length
    else
      let s := (s.set (F.SOLV_FIX_W0.fstat i) 6).set F.SOLV_STAT.cut 1
      raiseSource (s.bump F.SOLV_CNT.fixes) 0x0C
  else s

/-- The report placement of a slot has its outcome. -/
def reportOver (s : State) (i : Nat) (field bad : Bool) : State :=
  tryQueueFix (s.modSlotT i fun t => { t with repOver := true, repField := field, repBad := bad }) i

/-- An invalid ACK (R58): wiped, recorded WRONG, its slot not tracked. -/
def ackBad (s : State) (i idx : Nat) : State :=
  publish (wipeEntry s i) { code := vWrong, cause := cAckBad, slot := some i, idxA := idx }

/-- The end of an ACK placement (R57, R58, R105). -/
def ackPlacement (s : State) (i status : Nat) (b : List Byte) : State :=
  if ¬ (s.txn.open_ ∧ s.txn.wakeEnd ∧ ¬ s.txn.ackEnd ∧ ¬ (s.slotT i).ackOver) then s
  else
    let s := s.modSlotT i fun t => { t with ackOver := true }
    if collides status then publish (s.modSlotT i fun t => { t with collided := true }) (collisionRec s i)
    else if status = plOk then
      let idx := hdrIndex b
      if bit s.yard.enrolMap idx ∧ slotOfIndex s.lf.w idx = i then
        s.modSlotT i fun t => { t with idx := idx, tctr := natBe ((b.drop 2).take 4) }
      else ackBad s i idx
    else s

/-- The end of a report placement (R59, R61, R105). -/
def reportPlacement (s : State) (i status : Nat) (b : List Byte) : State :=
  if ¬ (s.txn.open_ ∧ (s.slotT i).tracked ∧ ¬ (s.slotT i).repOver) then s
  else if status = plOk then
    if hdrIndex b = (s.slotT i).idx ∧ hdrSlot b = i then s
    else reportOver (wipeEntry s (8 + i)) i false true
  else reportOver s i false false

/-- The end of a response placement (R183, R187): the compare and the error, for an OK frame of a tracked slot. -/
def responsePlacement (s : State) (i status : Nat) (rx : Bool) (b : List Byte) (ts : Stmp) (res : Nat) : State :=
  let t := s.slotT i
  if ¬ (s.txn.open_ ∧ t.tracked ∧ ¬ t.published ∧ t.rsp.isNone) then s
  else if status = plOk then
    let bad := (b.take 16) != t.expect.getD (variantOf b) []
    let e := errOf s i rx ts res
    let s := s.modSlotT i fun q => { q with rsp := some status, contentBad := bad, err := some e }
    if bad then wipeEntry s (16 + i) else s.set (F.UHF_REC_W0.qstate (16 + i)) 3
  else s.modSlotT i fun q => { q with rsp := some status }

/-- The AON ticks of the current rung's dwell (R223). -/
def dwellTicks (s : State) : Nat :=
  let r := s.get F.POLL_STAT.rung
  let d := match r with | 0 => 2 | 1 => 10 | 2 => 60 | 3 => 360 | 4 => 1440 | 5 => 4320 | _ => 10080
  orDefault (s.get (F.POLL_DWELL.dwell r)) d * 60 * 32768

/-- The dwell of the current rung starts anew (R224). -/
def dwellRestart (s : State) : State :=
  let s : State := { s with poll := { s.poll with dwellEnd := s.aonTs + dwellTicks s } }
  s.set F.POLL_LVL.dwell_left (if s.get F.POLL_STAT.rung = 7 then 0 else (dwellTicks s + 1966079) / 1966080)

/-- Whether the chip sleeps: STANDBY or BURST (R234). -/
def asleep (s : State) : Bool := s.get F.POLL_STAT.state == 1 || s.get F.POLL_STAT.state == 2

/-- The first qualifying ACK of a burst (R65): with PD_CORE on its presence record is published at once; with PD_CORE off it
goes to the poll latch and is a wake event (R114, R230, R236). -/
def pollPlacement (s : State) (p status : Nat) (b : List Byte) : State :=
  let idx := hdrIndex b
  if status = plOk ∧ bit (enrolMap s) idx ∧ idx % (2 * pollLanes s) = p ∧ s.uhf.pollLatch.isNone
      ∧ (¬ domOn s 2 ∨ ¬ s.flag F.VERD_PRES.valid) then
    if domOn s 2 then publishPresence (dwellRestart s) idx p
    else
      let s := s.modUhf fun u => { u with pollLatch := some (b.take 12, p) }
      let s := s.set F.POLL_WAKE.presence 1
      { s with poll := { s.poll with wakeDue := true } }
  else s

/-- A placement ends with a status (R105): record, counters, quarantine, then the outcome of its kind; its receivers rest
(R115). -/
def endPlacement (s : State) (p : Placement) (status : Nat) (rx : Bool) (b : List Byte) (rssi foff : Nat) (ts : Stmp)
    (res : Nat) : State :=
  let s := s.modUhf fun u => { u with open_ := u.open_.erase p, sync := u.sync.erase p }
  let core := domOn s 2
  let s := if core then putRecord s p status rx b rssi foff ts res else s
  let s := if core ∧ status = plOk then quarantine s (entryOf p) b else s
  let s := countPlacement s p status
  let s := if status = plOk then
      { s with hlth := { s.hlth with samples := s.hlth.samples ++
        [(-(sxt 16 foff) * 500000000, uhfChan s (if uhfIndep s then b2n rx else 0))] } }
    else s
  let s := match p with
    | .ack i => ackPlacement s i status b
    | .poll q => pollPlacement s q status b
    | .report i => reportPlacement s i status b
    | .response i => responsePlacement s i status rx b ts res
  settleRx s

/-- A placement without a frame ends; its record names the lane's receiver, or U0 in diversity (log entry 159). -/
def endEmpty (s : State) (p : Placement) (status : Nat) : State :=
  endPlacement s p status (uhfIndep s && laneRx s p) [] 0 0 0 0

/-- Whether the receivers open a window for a placement (R103). -/
def windowDue (s : State) (p : Placement) : Bool :=
  match p with
  | .ack i => s.txn.open_ && s.txn.wakeEnd && !s.txn.ackEnd && !(s.slotT i).ackOver
  | .poll q => s.lf.stage == .listen && decide (q.val < 2 * pollLanes s)
  | .report i => s.txn.open_ && (s.slotT i).tracked && s.flag (F.UWB_STRB_W4.valid 2) && !(s.slotT i).repOver
  | .response i => s.txn.open_ && (s.slotT i).tracked && s.txn.tEnd && (s.slotT i).rsp.isNone

/-- HUNT_WINDOW_OPEN (R103, R117): a placement of a receiver that is off ends RX_CUT. -/
def huntWindowOpen (s : State) (p : Placement) : State :=
  if windowDue s p ∧ ¬ s.uhf.open_.contains p then
    if placementCut s p then endEmpty s p plRxCut
    else settleRx (s.modUhf fun u => { u with open_ := u.open_ ++ [p] })
  else s

def execHuntWindowOpen (p : Placement) (s : State) : Host.Outcome State Fault Refusal := .next (huntWindowOpen s p)

/-- UHF_RSSIn follows the bit times of a receiver in LISTEN (R107). -/
def refreshRssi (s : State) (u1 : Bool) (r : RssiIn) : State :=
  match r.bits.getLast? with
  | some x => if rxState s u1 = 3 then s.set (F.UHF_RSSI.rssi (b2n u1)) x.toNat else s
  | none => s

/-- Both receivers' current RSSI (R107). -/
def refreshBoth (s : State) (u0 u1 : RssiIn) : State := refreshRssi (refreshRssi s false u0) true u1

/-- HUNT_WINDOW_CLOSE (R103, R104): without a sync the placement is EMPTY, or BUSY with carrier energy. -/
def huntWindowClose (s : State) (p : Placement) (u0 u1 : RssiIn) : State :=
  if s.uhf.open_.contains p ∧ ¬ s.uhf.sync.contains p then
    let st := if carrierEnergy s (rssiBits s p u0 u1) then plBusy else plEmpty
    endEmpty (refreshBoth s u0 u1) p st
  else s

def execHuntWindowClose (p : Placement) (rssi : RssiIn × RssiIn) (s : State) : Host.Outcome State Fault Refusal :=
  .next (huntWindowClose s p rssi.1 rssi.2)

/-- SYNC_DETECT (R100): the frame is received to its end; its entry is FILLING (R110). -/
def syncDetect (s : State) (p : Placement) : State :=
  if s.uhf.open_.contains p ∧ ¬ s.uhf.sync.contains p then
    let s := s.modUhf fun u => { u with sync := u.sync ++ [p] }
    if domOn s 2 then s.set (F.UHF_REC_W0.qstate (entryOf p)) 1 else s
  else s

def execSyncDetect (p : Placement) (s : State) : Host.Outcome State Fault Refusal := .next (syncDetect s p)

/-- The RSSI code of the branch a record names (R99, R107). -/
def rssiOf (rx : Bool) (u0 u1 : RssiIn) : Nat := if rx then u1.avg.toNat else u0.avg.toNat

/-- FRAME_TRUNCATED (R102): the RSSI stays below the floor for eight bit times before the frame has its length. -/
def frameTruncated (s : State) (p : Placement) (u0 u1 : RssiIn) (b : List Byte) (ts : Stmp) (res : Nat) : State :=
  if s.uhf.sync.contains p ∧ belowFloor s (rssiBits s p u0 u1) ∧ b.length < frameLen s p b then
    let rx := rxOf s p u0 u1
    endPlacement (refreshBoth s u0 u1) p plTrunc rx b (rssiOf rx u0 u1) 0 ts res
  else s

def execFrameTruncated (p : Placement) (u0 u1 : RssiIn) (b : List Byte) (ts : Stmp) (res : BitVec 11)
    (s : State) : Host.Outcome State Fault Refusal :=
  .next (frameTruncated s p u0 u1 b ts res.toNat)

/-- UHF_FRAME_END (R101, R105, R106): the frame has its length; CRC, version and type decide the status. -/
def uhfFrameEnd (s : State) (p : Placement) (u0 u1 : RssiIn) (b : List Byte) (foff : Nat) (ts : Stmp) (res : Nat) :
    State :=
  if s.uhf.sync.contains p then
    let n := frameLen s p b
    let rx := rxOf s p u0 u1
    endPlacement (refreshBoth s u0 u1) p (frameStatus p b n) rx (b.take n) (rssiOf rx u0 u1) foff ts res
  else s

def execUhfFrameEnd (p : Placement) (u0 u1 : RssiIn) (b : List Byte) (foff : BitVec 16) (ts : Stmp)
    (res : BitVec 11) (s : State) : Host.Outcome State Fault Refusal :=
  .next (uhfFrameEnd s p u0 u1 b foff.toNat ts res.toNat)

/-- The place of an index's kept TCTR in the Loft front (R339). -/
def tctrAddr (s : State) (idx : Nat) : Nat := s.yard.tctrOff + 4 * idx

/-- The kept TCTR of an index (R35): a value that waits for a commit to end counts already. -/
def keptTctr (s : State) (idx : Nat) : Nat :=
  match s.loft.tctrWait.find? fun e => e.1 == tctrAddr s idx with
  | some e => e.2.toNat
  | none => (Mem.word s.loft.front (tctrAddr s idx)).toNat

/-- A kept TCTR is replaced in the front, at once or when the commit that runs has ended (R35). -/
def setTctr (s : State) (idx v : Nat) : State :=
  let a := tctrAddr s idx
  let w : Word := BitVec.ofNat 32 v
  if s.loft.commit.isSome then { s with loft := { s.loft with tctrWait := (a, w) :: s.loft.tctrWait.filter fun e => e.1 != a } }
  else { s with loft := { s.loft with front := Mem.putWord s.loft.front a w } }

/-- The check of an ACK ends (R35, R58). -/
def ackChecked (s : State) (i : Nat) (pass : Bool) : State :=
  let t := s.slotT i
  if pass ∧ keptTctr s t.idx < t.tctr then
    trackSlot (setTctr (s.set (F.UHF_REC_W0.qstate i) 3) t.idx t.tctr) i t.idx t.tctr
  else ackBad s i t.idx

/-- A STATUS code as it acts (R50): reserved codes act as 0x03. -/
def statusCode (b : Nat) : Nat := if b = 1 ∨ b = 2 then b else 3

/-- The check of a REPORT or STATUS ends (R50, R59, R61, R111): the slot takes the STATUS code; the host reads a verified frame in
its entry. -/
def reportChecked (s : State) (i : Nat) (pass : Bool) : State :=
  if pass then
    let s := s.set (F.UHF_REC_W0.qstate (8 + i)) 3
    let b := quarBytes s (8 + i) 3
    let s := if hdrType b = 4 then s.modSlotT i fun t => { t with status := statusCode (b.getD 2 0).toNat } else s
    reportOver s i (hdrType b == 2 && (b.getD 2 0).toNat == min s.lf.k 32) false
  else reportOver (wipeEntry s (8 + i)) i false true

/-- The transaction a presence record started ends before its WAKE (R65), also while it waits for an earlier one. -/
def presenceAbort (s : State) : State :=
  let own := s.txn.open_ && s.txn.pres.isSome
  let s := if own then updReady ((s.modTxn fun t => { t with pres := none, open_ := false }).set F.VERD_STAT.open_ 0)
    else s.modLf fun l => { l with next := none }
  let s := if ¬ own then s
    else if lfOwner s = ownTxn then lfRelease (setLfCode s lfAborted)
    else s.modLf fun l => { l with txnWait := false }
  let s := match s.sess.cur with
    | some r => sessOutcome s outLocated r
    | none => sessClose s
  txnNext s

/-- Whether the transaction of the presence record has not begun its WAKE (R65). -/
def presencePending (s : State) : Bool :=
  (s.txn.open_ && s.txn.pres.isSome && !s.txn.woke) || (match s.lf.next with | some n => n.pres.isSome | none => false)

/-- The presence ACK is checked: its transaction need not wait any more (R65). -/
def presencePassed (s : State) : State :=
  let s := (s.modSess fun m => { m with presCheck := 2 }).modTxn fun t => { t with pres := none }
  s.modLf fun l => { l with next := l.next.map fun n => { n with pres := none } }

/-- PRESENCE_CHECK_DONE (R65): tag and TCTR of the presence ACK; a failure counts a failed attempt, publishes PRES_BAD and
ends the transaction, or drops its trigger while it is still latched. -/
def presenceCheckDone (s : State) (pass : Bool) : State :=
  if s.sess.presCheck = 1 then
    let idx := s.get F.VERD_PRES.index
    let p := s.get F.VERD_PRES.p
    let tctr := natBe ((quarBytes s p 6).drop 2)
    if pass ∧ keptTctr s idx < tctr then
      let s := setTctr (if qstate s p = 2 then s.set (F.UHF_REC_W0.qstate p) 3 else s) idx tctr
      presencePassed s
    else
      let s := if qstate s p = 2 then wipeEntry s p else s
      let s := s.modSess fun m => { m with presCheck := 0 }
      let s := setTrigs s (s.sess.trigs.filter fun r => r.source != 17)
      let s := publish s { code := vWrong, cause := cPresBad, idxA := idx }
      if presencePending s then presenceAbort s else s
  else s

def execPresenceCheckDone (pass : Bool) (s : State) : Host.Outcome State Fault Refusal :=
  .next (presenceCheckDone s pass)

/-- Whether an engine runs the stall with the CHECK role (R344). -/
def isCheckEngine (s : State) (e : Nat) : Bool :=
  s.yard.stalls.any fun d => d.check && d.index == s.get (F.GROOM_STAT.stall e)

/-- A check that decides nothing more than its entry (R111). -/
def entryChecked (s : State) (entry : Nat) (pass : Bool) : State :=
  if pass then s.set (F.UHF_REC_W0.qstate entry) 3 else wipeEntry s entry

/-- UHF_QCHK_WRITE (R65, R111, R113, R344): only the checking stall's write acts; one that names an entry that is not UNVERIFIED
is ignored, and so is one that names a response entry, whose check the latch's compare is (log entry 160). -/
def uhfQchkWrite (s : State) (e : Fin 8) (entry : Nat) (pass : Bool) : State :=
  if ¬ isCheckEngine s e then s.set (F.GROOM_STAT.wr_refused e) 1
  else if 16 ≤ entry ∨ qstate s entry ≠ 2 then s.set F.UHF_STAT.qchk_bad 1
  else if entry < 8 then
    if s.txn.open_ ∧ s.txn.woke then ackChecked s entry pass
    else if s.sess.presCheck = 1 ∧ entry = s.get F.VERD_PRES.p then presenceCheckDone s pass
    else entryChecked s entry pass
  else if s.txn.open_ then reportChecked s (entry - 8) pass
  else entryChecked s entry pass

def execUhfQchkWrite (e : Fin 8) (entry : BitVec 5) (pass : Bool) (s : State) : Host.Outcome State Fault Refusal :=
  .next (onDom s 2 (uhfQchkWrite s e entry.toNat pass))

/-- ACK checks that are late at ACK phase end (R112); a transaction that has ended publishes nothing more. -/
def ackLate (s : State) : State :=
  (List.range 8).foldl
    (fun t i =>
      if qstate t i = 2 ∧ (t.slotT i).ackOver then
        let t := wipeEntry (t.set F.UHF_STAT.chk_late 1) i
        if t.txn.open_ then publish t { code := vNone, cause := cAckLate, slot := some i, idxA := (t.slotT i).idx } else t
      else t) s

/-- Report checks that are late at T_END (R112). -/
def reportLate (s : State) : State :=
  (List.range 8).foldl
    (fun t i =>
      if qstate t (8 + i) = 2 then reportOver (wipeEntry (t.set F.UHF_STAT.chk_late 1) (8 + i)) i false false else t) s

/-- Whether a receiver has work in flight: a placement of its own to come, or the listen of a burst (R117). -/
def rxBusy (s : State) (u1 : Bool) : Bool := rxLeft s u1 || rxListens s u1 || s.lf.stage == .listen

/-- U_EN_WRITE (R115, R117): 0 cuts the receiver's later placements of the transaction; in diversity the other branch goes on,
and no placement and no flag shows the cut (log entry 161). -/
def uEnWrite (s : State) (rx v : Bool) : State :=
  let busy := rxBusy s rx
  let was := rxEn s rx
  let s := s.put (if rx then F.UHF_CTRL.u1_en else F.UHF_CTRL.u0_en) v
  if v ∨ ¬ was then settleRx s
  else
    let s := if busy && (uhfIndep s || !rxEn s (!rx)) then s.set F.UHF_STAT.cut 1 else s
    let s := if busy then s.modUhf fun u => { u with cut0 := u.cut0 || !rx, cut1 := u.cut1 || rx } else s
    settleRx s

def execUEnWrite (rx v : Bool) (s : State) : Host.Outcome State Fault Refusal := .next (onDom s 6 (uEnWrite s rx v))

/-- UHF_STAT_CLR: clears UHF_CNT0 to UHF_CNT2. -/
def uhfStatClr (s : State) : State := s.zero F.UHF_CNT0.ok.addr 3

def execUhfStatClr (s : State) : Host.Outcome State Fault Refusal := .next (onDom s 6 (uhfStatClr s))

/-- POLL_LATCH_COPY (R114, R199, R224): with PD_CORE up the latch becomes an UNVERIFIED entry, its presence record is published and
the dwell restarts. The latch holds 12 bytes only, so the record names U0 with rssi, foff, ts_end and end_res 0 (log entry 159). -/
def pollLatchCopy (s : State) : State :=
  match s.uhf.pollLatch with
  | some (b, p) =>
    if domOn s 2 then
      let s := s.modUhf fun u => { u with pollLatch := none }
      let s := putRecord s (.poll (Fin.ofNat 4 p)) plOk false b 0 0 0 0
      publishPresence (dwellRestart (quarantine s p b)) (hdrIndex b) p
    else s
  | none => s

def execPollLatchCopy (s : State) : Host.Outcome State Fault Refusal := .next (pollLatchCopy s)

end Sys2Proof.Machine
end

