-- ==== Sys2Proof/Machine/Uwb.lean ====
section
/-!
DEFINITION. The UWB ranging transceiver (chapter 05): first path and reception, the exchange and its record, angles, cuts,
the port check, the interpolator calibration and the strobe captures.
-/
namespace Sys2Proof.Machine

/-- Changes the transceiver's state. -/
def State.modUwb (s : State) (f : UwbState → UwbState) : State := { s with uwb := f s.uwb }

/-- Sets UWB_STAT.state (R142). -/
def setUwbState (s : State) (v : Nat) : State := s.set F.UWB_STAT.state v

/-- TIMER while the counter runs, else OFF. -/
def uwbTimer (s : State) : State := setUwbState s (if domOn s 7 then 1 else 0)

/-- A capture on a channel of R124 as its correction table makes it: the interpolator phase corrected to the nearest LSB (R122,
R125). A channel without a table keeps its phase (log entry 56). -/
def capture (s : State) (ch : Nat) (ts : Stmp) : Stmp :=
  match s.uwb.tables[ch]? with
  | some l => (ts &&& ~~~31#40) + BitVec.ofNat 40 (l.getD (ts.toNat % 32) (ts.toNat % 32))
  | none => ts

/-- An LF strobe is captured on channel 5 while PD_UWB runs, and pulses to the engines (R84, R124, R316). -/
def strobe (s : State) (n : Nat) (ts : Stmp) : State :=
  let c := capture s 5 ts
  let s := if domOn s 7 then
      (s.sets [(F.UWB_STRB_W0.ts_lo n, c.toNat), (F.UWB_STRB_W4.ts_hi n, c.toNat / 2 ^ 32), (F.UWB_STRB_W4.valid n, 1)]).modUwb
        fun u => { u with stmp := ts }
    else s
  raiseSource s (n + 1)

/-- The largest magnitude and its first index. -/
def peakOf (h : List Nat) : Nat × Nat :=
  (h.zipIdx.foldl (fun a e => if a.1 < e.1 then e else a) (0, 0))

/-- The sum of squares of the last 256 taps. -/
def tailSquares (h : List Nat) : Nat := (h.drop (h.length - 256)).foldl (fun a x => a + x * x) 0

/-- 65 536 times the square of the threshold of R134: the larger of the noise and the peak fraction. -/
def thrSquare (s : State) (h : List Nat) : Nat :=
  let nm := orDefault (s.get F.UWB_FP_CFG.nmult) 0x60
  let pr := orDefault (s.get F.UWB_FP_CFG.pk_ratio) 26
  max (nm * nm * tailSquares h) ((pr * (peakOf h).1) ^ 2)

/-- Whether a tap reaches the threshold. A tap past the end of the estimate is 0 (log entry 165). -/
def tapOver (h : List Nat) (m i : Nat) : Bool := decide (m ≤ 65536 * (h.getD i 0) ^ 2)

/-- The tap at which the search of R134 stops: the first from `i_pk - back` with itself and its successor over the
threshold, else the one after the peak, where the loop's index stands (log entry 165). -/
def fpTap (s : State) (h : List Nat) (m : Nat) : Nat :=
  let pk := (peakOf h).2
  let start := pk - max 8 (s.get F.UWB_FP_CFG.back)
  ((List.range (pk + 1 - start)).map (· + start)).find? (fun i => tapOver h m i && tapOver h m (i + 1)) |>.getD (pk + 1)

/-- The floor of `(√(m / 64) − 32 h0) / d` for `d` other than 0, and whether the quotient is exact (R134). -/
def edgeQuot (m : Nat) (h0 d : Int) : Int × Bool :=
  let r := isqrt (m / 64)
  let whole := decide (64 * (r * r) = m)
  let num : Int := r - 32 * h0
  let q := if 0 < d then num.fdiv d else (-(num + if whole then 0 else 1)).fdiv (-d)
  (q, whole && decide (q * d = num))

/-- The first path of R134 in LSB: the linear edge, floored or one above by a free bit where the quotient is not exact; free
where the formula has no value. -/
def firstPath (s : State) (h : List Nat) : Int × State :=
  let m := thrSquare s h
  let i := fpTap s h m
  let (k, t) := s.fresh
  let h0 : Int := h.getD (i - 1) 0
  let d : Int := h.getD i 0 - h0
  if i = 0 ∨ d = 0 then (sxt 16 (Config.freeWord k).toNat, t)
  else
    let q := edgeQuot m h0 d
    (32 * ((i : Int) - 1) + q.1 + (if q.2 then 0 else (b2n (Config.freeBit k) : Int)), t)

/-- The STS quality threshold and the agreement limit as they act (R135). -/
def qMin (s : State) : Nat := orDefault (s.get F.UWB_STS_CFG.q_min) 153
def fpAgree (s : State) : Int := orDefault (s.get F.UWB_FP_CFG.fp_agree) 96

/-- Whether port `k` is enabled: only W0 in single mode (R136). -/
def portOn (s : State) (k : Nat) : Bool :=
  if s.get F.UWB_CFG.mode = 2 then k == 0 else s.bitAt F.UWB_CFG.port_en k

/-- SP1 frames carry a PSDU (R119). -/
def sp1 (s : State) : Bool := bit (s.get F.UWB_CFG.profile) 5

/-- One byte of the frame check sequence of IEEE 802.15.4: x^16 + x^12 + x^5 + 1, least significant bit first (log entry 163). -/
def fcsByte (c : Nat) (b : Byte) : Nat :=
  (List.range 8).foldl (fun a i => (a / 2) ^^^ (if bit a 0 != bit b.toNat i then 0x8408 else 0)) c

/-- The frame check sequence of IEEE 802.15.4, initial value 0. -/
def fcs (l : List Byte) : Nat := l.foldl fcsByte 0

/-- Frame kinds of R121. -/
def kPoll : Nat := 1
def kRr1 : Nat := 2
def kFinal : Nat := 3
def kRr2 : Nat := 4

/-- The PSDU of a frame that is sent (R121): kind with version 0b00, index and slot, and the FCS, low octet first. -/
def psduOf (kind idx slot : Nat) : List Byte :=
  let m := [BitVec.ofNat 8 (16 * kind), BitVec.ofNat 8 (16 * idx + 2 * slot)]
  m ++ bytesLe (fcs m) 2

/-- Whether a received PSDU passes R121: four octets, the FCS, kind, version 0b00, index and slot; reserved bits are ignored. -/
def psduOk (kind idx slot : Nat) (b : List Byte) : Bool :=
  let o := fun i => (b.getD i 0).toNat
  decide (b.length = 4) && fcs (b.take 2) == o 2 + 256 * o 3 && o 0 / 16 == kind && o 0 / 4 % 4 == 0 && o 1 / 16 == idx
    && o 1 / 2 % 8 == slot

/-- What a port makes of a frame of a kind from a token (R134, R135, R121). The tests follow the order of the frame's parts: STS
quality, agreement, then the PSDU, so a frame that fails the quality test counts as such whatever its PSDU (log entry 164). -/
def receive (s : State) (kind idx slot k : Nat) (x : PortRx) : PortRes × State :=
  if ¬ (portOn s k ∧ x.heard) then ({}, s)
  else
    let (fs, s) := firstPath s x.hSts
    let (fp, s) := firstPath s x.hPre
    let raw := stmpAdd (capture s (k + 1) x.tap0) fs
    let base : PortRes := { heard := true, raw := raw, fp := x.fp.toNat, pk := x.pk.toNat, q := x.q.toNat
                            re := x.fpRe.toInt, im := x.fpIm.toInt }
    if x.q.toNat < qMin s then ({ base with qFail := true }, s)
    else if fpAgree s < (fs - (fp + x.preShift)).natAbs then ({ base with split := true }, s)
    else if sp1 s ∧ ¬ psduOk kind idx slot x.psdu then ({}, s)
    else ({ base with ok := true }, s)

/-- The four ports' results, in port order. -/
def receiveAll (s : State) (kind idx slot : Nat) (l : List PortRx) (k : Nat) : List PortRes × State :=
  match l with
  | [] => ([], s)
  | x :: t =>
    let (r, s) := receive s kind idx slot k x
    let (rs, s) := receiveAll s kind idx slot t (k + 1)
    (r :: rs, s)

/-- A port's result. -/
def portOf (l : List PortRes) (k : Nat) : PortRes := l.getD k {}

/-- A mask over the four ports. -/
def portMask (p : Nat → Bool) : Nat := (List.range 4).foldl (fun a k => if p k then setBit a k else a) 0

/-- The status of a completed exchange, in the order of R147. -/
def rstatOf (s : State) (r1 r2 : List PortRes) : Nat :=
  let ref := refPort s
  let a := portOf r1 ref
  let b := portOf r2 ref
  if ¬ r1.any (·.ok) then rsNoRr1
  else if ¬ r2.any (·.ok) then rsNoRr2
  else if a.qFail ∨ b.qFail then rsStsFail
  else if a.split ∨ b.split then rsSplit
  else if ¬ (a.ok ∧ b.ok) then rsNoRef
  else rsOk

/-- The wavelength of the plan's channel in micrometres (R137). -/
def lamUm (s : State) : Int := if bit (s.get F.UWB_CFG.profile) 0 then 37534 else 46196

/-- The sine of R137 with its clip flag. -/
def sinOf (s : State) (pair : Nat) (dphi : Int) : Int × Bool :=
  let d := s.get (F.UWB_PAIR.d pair)
  let v := divRound (dphi * lamUm s * 4) (d * 100)
  if 16384 < v then (16384, true) else if v < -16384 then (-16384, true) else (v, false)

/-- Rotations by 2π / 4096 times a power of two, as (steps, cosine, sine) in units of 2⁻⁶⁰. -/
def argSteps : List (Nat × Int × Int) := [
  (512, 815238614083298888, 815238614083298888),
  (256, 1065160580698383124, 441203958630471860),
  (128, 1130768441178740757, 224923827593068887),
  (64, 1147369872436662991, 113006068906017470),
  (32, 1151532760162549490, 56571176913125535),
  (16, 1152574266204915294, 28294110113536504),
  (8, 1152834691737939372, 14148120384212745),
  (4, 1152899801185339687, 7074193361797233),
  (2, 1152916078738702569, 3537113327227485),
  (1, 1152920148139012899, 1768558744408523)]

/-- The whole steps of 2π / 4096 in the argument of a point of the first quadrant: each rotation of the list that keeps it above the
axis is taken. -/
def argQuad (x y : Int) (l : List (Nat × Int × Int)) : Nat :=
  match l with
  | [] => 0
  | (n, c, w) :: t =>
    let x' := c * x + w * y
    let y' := c * y - w * x
    if 0 ≤ y' then n + argQuad x' y' t else argQuad x y t

/-- The argument of a complex number other than 0 in units of 2π / 4096, rounded down (R137). -/
def argUnits (x y : Int) : Nat :=
  if 0 < x ∧ 0 ≤ y then argQuad x y argSteps
  else if x ≤ 0 ∧ 0 < y then 1024 + argQuad y (-x) argSteps
  else if x < 0 ∧ y ≤ 0 then 2048 + argQuad (-x) (-y) argSteps
  else 3072 + argQuad (-y) x argSteps

/-- The combined first-path value of a pair over RR1 and RR2 (R137). -/
def pairSum (a1 b1 a2 b2 : PortRes) : Int × Int :=
  (b1.re * a1.re + b1.im * a1.im + (b2.re * a2.re + b2.im * a2.im), b1.im * a1.re - b1.re * a1.im + (b2.im * a2.re - b2.re * a2.im))

/-- The argument of a pair: exact on the axes and diagonals, else down or up by a free bit, and free where the sum is 0 (R137; log
entries 8 and 11). -/
def pairArg (s : State) (z : Int × Int) : Int × State :=
  let (k, t) := s.fresh
  if z = (0, 0) then ((Config.freeWord k).toNat % 4096, t)
  else if z.1 = 0 ∨ z.2 = 0 ∨ z.1.natAbs = z.2.natAbs then (argUnits z.1 z.2, t)
  else ((argUnits z.1 z.2 + b2n (Config.freeBit k) : Nat), t)

/-- The wrapped phase difference of a pair (R137). -/
def dphiOf (s : State) (pair : Nat) (arg : Int) : Int :=
  sxt 12 (truncTo 12 (arg - sxt 12 (s.get (F.UWB_PAIR.off pair))))

/-- The fields of a pair: valid where both frames are received on both its ports in PDoA mode (R137). -/
def pairFields (s : State) (i pair a b : Nat) (r1 r2 : List PortRes) : State :=
  let ok := s.get F.UWB_CFG.mode == 0 && (portOf r1 a).ok && (portOf r1 b).ok && (portOf r2 a).ok && (portOf r2 b).ok
  if ok then
    let (arg, s) := pairArg s (pairSum (portOf r1 a) (portOf r1 b) (portOf r2 a) (portOf r2 b))
    let dphi := dphiOf s pair arg
    let sn := sinOf s pair dphi
    if pair = 0 then
      s.sets [(F.UWB_REC_W0.val_a i, 1), (F.UWB_REC_W0.clip_a i, b2n sn.2), (F.UWB_REC_W14.dphi_a i, truncTo 12 dphi),
        (F.UWB_REC_W18.sin_a i, truncTo 16 sn.1)]
    else
      s.sets [(F.UWB_REC_W0.val_b i, 1), (F.UWB_REC_W0.clip_b i, b2n sn.2), (F.UWB_REC_W14.dphi_b i, truncTo 12 dphi),
        (F.UWB_REC_W18.sin_b i, truncTo 16 sn.1)]
  else s

/-- The fields of a received frame on each port; those of a frame not received read 0 (R147). -/
def rr1Fields (i : Nat) (r : List PortRes) : List (Fld × Nat) :=
  (List.range 4).flatMap fun k =>
    let p := portOf r k
    if p.ok then
      [(F.UWB_REC_W20.r1_lo i k, p.raw.toNat), (F.UWB_REC_W24.r1_hi i k, p.raw.toNat / 2 ^ 32), (F.UWB_REC_W24.r1_fp i k, p.fp),
        (F.UWB_REC_W24.r1_pk i k, p.pk), (F.UWB_REC_W24.r1_q i k, p.q)]
    else []
def rr2Fields (i : Nat) (r : List PortRes) : List (Fld × Nat) :=
  (List.range 4).flatMap fun k =>
    let p := portOf r k
    if p.ok then
      [(F.UWB_REC_W28.r2_lo i k, p.raw.toNat), (F.UWB_REC_W2C.r2_hi i k, p.raw.toNat / 2 ^ 32), (F.UWB_REC_W2C.r2_fp i k, p.fp),
        (F.UWB_REC_W2C.r2_pk i k, p.pk), (F.UWB_REC_W2C.r2_q i k, p.q)]
    else []

/-- The end of a slot's exchange: the record is complete, the time of flight is evaluated where rstat is OK, and the fix may
queue (R147, R151, R184). -/
def exchangeOver (s : State) (i rstat : Nat) : State :=
  let s := s.set (F.UWB_REC_W0.rstat i) rstat
  let tof := if rstat = rsOk then some (clampI (-2147483648) 2147483647 (tofOf s i)) else none
  let s := s.modSlotT i fun t => { t with uwbOver := true, rstat := rstat, tof := tof }
  let s := if rstat = rsOk then
      { tallyEvent s 0x0C with hlth := { s.hlth with samples := s.hlth.samples ++ [(-(sxt 16 (s.get (F.UWB_REC_W1C.cfo i))), 10)] } }
    else s
  tryQueueFix (raiseSource s 0x0B) i

/-- Writes the record of an exchange (R147): captures so far, port masks, and the pairs once RR2 was listened for. -/
def endExchange (s : State) (e : UwbExch) (rstat : Nat) (r2 : List PortRes) : State :=
  let i := e.slot
  let fin := e.fin.getD 0
  let s := s.zero (F.UWB_REC_W0.rstat i).addr 24
  let s := s.sets ([(F.UWB_REC_W0.rr1_ok i, portMask fun k => (portOf e.rr1 k).ok),
    (F.UWB_REC_W0.rr2_ok i, portMask fun k => (portOf r2 k).ok),
    (F.UWB_REC_W0.split i, portMask fun k => (portOf e.rr1 k).split || (portOf r2 k).split),
    (F.UWB_REC_W4.poll_lo i, e.poll.toNat), (F.UWB_REC_W8.poll_hi i, e.poll.toNat / 2 ^ 32),
    (F.UWB_REC_WC.fin_lo i, fin.toNat), (F.UWB_REC_W10.fin_hi i, fin.toNat / 2 ^ 32), (F.UWB_REC_W1C.cfo i, e.cfo)]
    ++ rr1Fields i e.rr1 ++ rr2Fields i r2)
  let s := pairFields (pairFields s i 0 0 1 e.rr1 r2) i 1 2 3 e.rr1 r2
  exchangeOver (uwbTimer (s.modUwb fun u => { u with exch := none })) i rstat

/-- The latest instant of the 256 LSB transmit grid not after the one requested (R128). -/
def txGrid (t : Stmp) : Stmp := t &&& ~~~255#40

/-- 200 µs in LSB (R127). -/
def us200 : Stmp := 6389760#40

/-- The opening of a slot's UWB window, from the capture of T_CB (R52 to R54): lane 0 has its window first, lane 1 after its
frame. -/
def windowOpen (s : State) (i : Nat) : Stmp :=
  let tcb := stmp40 (s.get (F.UWB_STRB_W0.ts_lo 2)) (s.get (F.UWB_STRB_W4.ts_hi 2))
  let row := 200 + rowOf s i * wRow s s.lf.k
  stmpAdd tcb (usLsb (if laneOf s i = 0 then row else row + tRep s s.lf.k + 100) : Nat)

/-- POLL_TX (R53, R127, R128, R142, R144): the exchange of a tracked slot begins inside its window under the full grant; it is
scheduled on the grid, and the capture is recorded. -/
def pollTx (s : State) (i : Fin 8) (ts : Stmp) : State :=
  let t := s.slotT i
  if s.txn.open_ ∧ t.tracked ∧ ¬ t.uwbOver ∧ ¬ t.winOver ∧ s.uwb.exch.isNone ∧ s.flag (F.UWB_STRB_W4.valid 2) ∧ manGranted s 3
      ∧ s.flag F.UWB_CTRL.rf_en ∧ domOn s 7 then
    let e : UwbExch := {
      slot := i, poll := capture s 0 ts, sched := txGrid (windowOpen s i + us200)
      psdu := if sp1 s then psduOf kPoll t.idx i else [] }
    setUwbState (s.modUwb fun u => { u with exch := some e, stmp := ts }) 4
  else s

def execPollTx (i : Fin 8) (ts : Stmp) (s : State) : Host.Outcome State Fault Refusal := .next (pollTx s i ts)

/-- The frames of the exchange in progress as its ports hear them. -/
def receiveExch (s : State) (kind : Nat) (e : UwbExch) (ports : List PortRx) : List PortRes × State :=
  receiveAll s kind (s.slotT e.slot).idx e.slot (ports.take 4) 0

/-- RR1_LISTEN_END (R129): no FINAL without a valid RR1; work to end ends at this frame (R146). -/
def rr1ListenEnd (s : State) (ports : List PortRx) (cfo : BitVec 16) : State :=
  match s.uwb.exch with
  | some e =>
    if e.rr1Done then s
    else
      let (r, s) := receiveExch s kRr1 e ports
      let e := { e with rr1 := r, rr1Done := true, cfo := if r.any (·.ok) then cfo.toNat else 0 }
      match e.ending with
      | some st => endExchange s e st []
      | none =>
        if r.any (·.ok) then uwbTimer (s.modUwb fun u => { u with exch := some e }) else endExchange s e rsNoRr1 []
  | none => s

def execRr1ListenEnd (ports : List PortRx) (cfo : BitVec 16) (s : State) : Host.Outcome State Fault Refusal :=
  .next (rr1ListenEnd s ports cfo)

/-- The earliest raw RR1 RMARKER among the ports that received it with a valid STS, counted from POLL (R127). -/
def earliestRr1 (e : UwbExch) : Option Stmp :=
  (e.rr1.filter (·.ok)).foldl
    (fun a p => match a with
      | none => some p.raw
      | some b => some (if (p.raw - e.poll).toNat < (b - e.poll).toNat then p.raw else b)) none

/-- FINAL_TX (R127, R128): FINAL leaves, scheduled from the earliest RR1, and is captured; an exchange to end sends none
(R146). -/
def finalTx (s : State) (ts : Stmp) : State :=
  match s.uwb.exch with
  | some e =>
    if e.rr1Done ∧ e.fin.isNone then
      match e.ending with
      | some st => endExchange s e st []
      | none =>
        let e := { e with fin := some (capture s 0 ts), sched := txGrid ((earliestRr1 e).getD e.poll + us200)
                          psdu := if sp1 s then psduOf kFinal (s.slotT e.slot).idx e.slot else [] }
        setUwbState (s.modUwb fun u => { u with exch := some e, stmp := ts }) 4
    else s
  | none => s

def execFinalTx (ts : Stmp) (s : State) : Host.Outcome State Fault Refusal := .next (finalTx s ts)

/-- RR2_LISTEN_END (R146, R147): the record is written with its status. -/
def rr2ListenEnd (s : State) (ports : List PortRx) : State :=
  match s.uwb.exch with
  | some e =>
    if e.fin.isSome then
      let (r, s) := receiveExch s kRr2 e ports
      endExchange s e (e.ending.getD (rstatOf s e.rr1 r)) r
    else s
  | none => s

def execRr2ListenEnd (w0 w1 : PortRx) (w23 : PortRx × PortRx) (s : State) : Host.Outcome State Fault Refusal :=
  .next (rr2ListenEnd s [w0, w1, w23.1, w23.2])

/-- Every tracked slot whose exchange has not run ends with a status (R126, R144, R146). -/
def uwbCutRest (s : State) (rstat : Nat) : State :=
  let cur := match s.uwb.exch with | some e => some e.slot | none => none
  let s := s.modUwb fun u => { u with later := some rstat }
  (List.range 8).foldl
    (fun t i =>
      if (t.slotT i).tracked ∧ ¬ (t.slotT i).uwbOver ∧ cur ≠ some i then exchangeOver t i rstat else t) s

/-- The exchange in progress is to end with a status after its frame. -/
def exchangeEnding (s : State) (st : Nat) : State :=
  s.modUwb fun u => { u with exch := u.exch.map fun e => { e with ending := some (min st (e.ending.getD st)) } }

/-- Whether the open transaction has or will have ranging. -/
def rangingOpen (s : State) : Bool := s.txn.open_ && !s.txn.hp && s.txn.woke

/-- UWB_WINDOW_CLOSE (R133, R144): the slot's STS entries are zeroed; the last window releases the grant. -/
def uwbWindowClose (s : State) (i : Fin 8) : State :=
  let s := match s.uwb.exch with
    | some e => if e.slot = i.val then endExchange s e (e.ending.getD (if e.rr1Done then rsNoRr2 else rsNoRr1)) [] else s
    | none => s
  let s := s.modUwb fun u => { u with sts := u.sts.set i [] }
  let s := s.modSlotT i fun t => { t with winOver := true }
  if (List.range 8).all fun j => !(s.slotT j).tracked || (s.slotT j).winOver then uwbTimer (manRelease s 3) else s

def execUwbWindowClose (i : Fin 8) (s : State) : Host.Outcome State Fault Refusal := .next (uwbWindowClose s i)

/-- RF_EN_WRITE (R146): 0 ends the exchange and every later window of the transaction CUT; UWB_STAT.cut shows a cut during a
window. -/
def rfEnWrite (s : State) (v : Bool) : State :=
  let s := s.put F.UWB_CTRL.rf_en v
  if v ∨ ¬ rangingOpen s then s
  else
    let s := if s.uwb.exch.isSome then s.set F.UWB_STAT.cut 1 else s
    uwbCutRest (exchangeEnding s rsCut) rsCut

def execRfEnWrite (v : Bool) (s : State) : Host.Outcome State Fault Refusal := .next (onDom s 7 (rfEnWrite s v))

/-- UWB_ABORT (R146): the exchange ends ABORTED after its frame; an abort that meets the end of RR2 is late. -/
def uwbAbort (s : State) (atCompletion : Bool) : State :=
  match s.uwb.exch with
  | some _ => exchangeEnding s rsAborted
  | none => if atCompletion ∧ s.txn.open_ then s.set F.UWB_STAT.abort_late 1 else s

def execUwbAbort (atCompletion : Bool) (s : State) : Host.Outcome State Fault Refusal :=
  .next (onDom s 7 (uwbAbort s atCompletion))

/-- UWB_CAL_START (R141): only while no transaction is open; its test STS comes from the expander (R277). A start while a check runs
is ignored (log entry 166). -/
def uwbCalStart (s : State) : State :=
  if s.txn.open_ ∨ s.uwb.calRun then s
  else
    let s := domWork s 7
    let s := (s.set F.UWB_STAT.cal_done 0).set F.UWB_STAT.cal_cut 0
    let s := rngRequest (s.modUwb fun u => { u with calRun := true }) .uwbCheck false
    manRequest s 4 (s.get F.UWB_RNG_COST.cal_cost) false

def execUwbCalStart (s : State) : Host.Outcome State Fault Refusal := .next (onDom s 7 (uwbCalStart s))

/-- A coordinate of an antenna, signed. -/
def posOf (s : State) (k : Nat) : List Int :=
  [sxt 16 (s.get (F.UWB_POS_W0.x k)), sxt 16 (s.get (F.UWB_POS_W0.y k)), sxt 16 (s.get (F.UWB_POS_W4.z k))]

/-- The squared distance of two points. -/
def distSq (a b : List Int) : Nat := ((a.zip b).map fun e => ((e.1 - e.2) * (e.1 - e.2)).toNat).foldl (· + ·) 0

/-- The distance from WT to port `k` in LSB: mm / 9.384, rounded (R141). -/
def geomLsb (s : State) (k : Nat) : Nat := (isqrt (4000000 * distSq (posOf s 4) (posOf s k)) + 9384) / 18768

/-- The mean of raw_k − raw_tx over the captures of a port, down or up by a free bit where it is not whole (R141; log entry 8). -/
def calMean (s : State) (caps : List (Stmp × List Stmp)) (k : Nat) : Int × State :=
  let sum := caps.foldl (fun a e => a + stmpDiff (capture s (k + 1) (e.2.getD k 0)) (capture s 0 e.1)) (0 : Int)
  let n : Int := caps.length
  let (d, t) := s.fresh
  if sum % n = 0 then (sum / n, t) else (sum / n + b2n (Config.freeBit d), t)

/-- The result of one port of the check: the geometry and the chain delays are taken off (R141). -/
def calPort (s : State) (caps : List (Stmp × List Stmp)) (k : Nat) : State :=
  if portOn s k then
    let (mean, s) := calMean s caps k
    let m : Int := mean - geomLsb s k - s.get (F.UWB_CHDLY.dly k) - s.get F.UWB_TXDLY.dly
    let dev : Int := m - (s.get F.UWB_WTCABLE.cable + s.get (F.UWB_PORT.cable k))
    (s.set (F.UWB_CALRES.meas k) (truncTo 16 m)).set (F.UWB_CALRES.dev k) (truncTo 16 dev)
  else s

/-- UWB_CAL_DONE (R141): the captures of the 16 POLL frames, once the grant is held and the test STS has come. -/
def uwbCalDone (s : State) (caps : List (Stmp × List Stmp)) : State :=
  if s.uwb.calRun ∧ manGranted s 4 ∧ domOn s 7 ∧ heldCount s .uwbCheck = 0 then
    let s := (List.range 4).foldl (fun t k => calPort t caps k) s
    let s := manRelease (s.set F.UWB_STAT.cal_done 1) 4
    let s := uwbTimer (s.modUwb fun u => { u with calRun := false })
    { s with hlth := { s.hlth with portChecked := true, portPass := true } }
  else s

def execUwbCalDone (caps : List (Stmp × List Stmp)) (s : State) : Host.Outcome State Fault Refusal := .next (uwbCalDone s caps)

/-- TSCAL_START (R125): only while no transaction is open. -/
def tscalStart (s : State) : State :=
  if s.txn.open_ ∨ ¬ domOn s 7 then s else s.modUwb fun u => { u with tscalRun := true }

def execTscalStart (s : State) : Host.Outcome State Fault Refusal := .next (onDom s 7 (tscalStart s))

/-- TSCAL_DONE (R125): the calibration that follows a clearing of the counter applies its tables and makes ts_ready 1; the tables of
one on command are applied at a quiet point. -/
def tscalDone (s : State) (dnl span : BitVec 8) (tables : List (List (BitVec 5))) : State :=
  if domOn s 7 ∧ (s.uwb.tscalRun ∨ ¬ s.flag F.UWB_STAT.ts_ready) then
    let l := tables.map fun t => t.map (·.toNat)
    let first := !s.flag F.UWB_STAT.ts_ready
    let s := s.sets [(F.UWB_TSCAL.dnl_max, dnl.toNat), (F.UWB_TSCAL.span, span.toNat), (F.UWB_TSCAL.valid, 1),
      (F.UWB_STAT.ts_ready, 1)]
    let s := if s.get F.UWB_STAT.state = 0 then uwbTimer s else s
    let s := s.modUwb fun u => { u with
      tscalRun := false, tables := if first then l else u.tables, tablesNext := if first then u.tablesNext else some l }
    tscalAdopt s
  else s

def execTscalDone (dnl : BitVec 8) (found : TscalOut) (s : State) : Host.Outcome State Fault Refusal :=
  .next (tscalDone s dnl found.span found.tables)

/-- STMP_LO_READ: copies bits [39:32] of the counter into UWB_STMP_HI. -/
def stmpLoRead (s : State) : State := s.set F.UWB_STMP_HI.ts_hi (s.uwb.stmp.toNat / 2 ^ 32)

def execStmpLoRead (s : State) : Host.Outcome State Fault Refusal := .next (onDom s 7 (stmpLoRead s))

/-- The counter is cleared (R123): ts_ready falls, and during a transaction every remaining exchange ends CUT and the verdict
latch decides (R126, R195). -/
def counterClear (s : State) : State :=
  let was := s.flag F.UWB_STAT.ts_ready
  let s := s.modUwb fun u => { u with stmp := 0, tscalRun := false, exch := none }
  let s := (s.set F.UWB_STAT.ts_ready 0).set F.UWB_TSCAL.valid 0
  if was ∧ rangingOpen s then
    let s := s.set F.UWB_STAT.ts_lost 1
    verdTsLost (uwbCutRest s rsCut)
  else s

end Sys2Proof.Machine
end

