-- ==== Sys2Proof/Machine/Lf.lean ====
section
/-!
DEFINITION. The field synthesiser and sweep scheduler (chapter 03, R40 to R47, R66 to R68): the vector pipeline, the
transaction's LF work, trim and protection, calibration and the hitching post.
-/
namespace Sys2Proof.Machine

/-- LF_STAT.fault follows LF_FAULT. -/
def setLfFault (s : State) (f : Fld) (v : Nat) : State :=
  let s := s.set f v
  s.put F.LF_STAT.fault (s.word F.LF_FAULT.short.addr != 0)

/-- The attenuation of a unit in 0.25 dB from gs, the fit and the lowest trim (LF_PAT_RECj): exact where the ratio is, else one
of the two neighbours by a free bit. -/
def attenOf (s : State) : Nat × State :=
  let num := s.lf.gs * 255 * s.lf.unitTMin
  let den := 32768 * s.lf.fitM * 16
  if num = 0 then (255, s)
  else
    let below := fun n => decide (10 ^ n * num ^ 80 ≤ den ^ 80)
    let n := ((List.range 256).filter below).foldl max 0
    if n = 255 ∨ 10 ^ n * num ^ 80 = den ^ 80 then (n, s)
    else
      let (k, t) := s.fresh
      (n + b2n (Config.freeBit k), t)

/-- Open loads, against the trimmed amplitude codes, and path resistances of a finished unit (R90 to R92). -/
def unitMeas (s : State) (meas : List AerMeas) : State :=
  meas.zipIdx.foldl
    (fun (t : State) e =>
      let n := e.2
      let m := e.1
      if n < 12 ∧ t.flag (F.LF_AER_CFG.installed n) then
        let t := match m.ron with
          | some r => (t.set (F.LF_RON.ron n) r.toNat).set (F.LF_RON.valid n) 1
          | none => t
        let a := aNow t n
        let code := calCode t
        if t.flag (F.LF_CAL_RES.valid n) ∧ 32 ≤ a
            ∧ m.amp.toNat * 10 * code < t.get (F.LF_CAL_RES.i_amp n) * a then
          setLfFault t F.LF_FAULT.open_ (setBit (t.get F.LF_FAULT.open_) n)
        else t
      else t) s

/-- The record of a driven period `j` (LF_PAT_RECj, LF_IMEAS). -/
def patRecord (s : State) (j : Nat) (meas : List AerMeas) (cut : Bool) : State :=
  if 32 ≤ j then s
  else
    let (a, s) := attenOf s
    let s := s.sets [(F.LF_PAT_REC.aer_fault j, s.lf.unitFault), (F.LF_PAT_REC.cut j, b2n cut), (F.LF_PAT_REC.idle j, 0),
      (F.LF_PAT_REC.trimmed j, b2n (decide (s.lf.unitTMin < 16))), (F.LF_PAT_REC.clipped j, b2n s.lf.clipped),
      (F.LF_PAT_REC.atten j, a)]
    meas.zipIdx.foldl
      (fun (t : State) e =>
        if e.2 < 12 ∧ t.flag (F.LF_AER_CFG.installed e.2) then
          t.sets [(F.LF_IMEAS.amp j e.2, e.1.amp.toNat), (F.LF_IMEAS.phase j e.2, e.1.phase.toNat),
            (F.LF_IMEAS.valid j e.2, b2n e.1.driven)]
        else t) s

/-- The chip leaves STANDBY or BURST (R236, R436): the release sequence starts on REF. -/
def wakeBegin (s : State) : State :=
  let s : State := { s with rst := { s.rst with wake := true, pos := 0, gap := false } }
  let s : State := { s.set F.POLL_STAT.state 3 with poll := { s.poll with wakeDue := false } }
  let s := ((s.set F.RST_STAT.held 0).set F.RST_STAT.tamper_halt 0).set F.RST_STAT.step 13
  if s.bitAt F.CLK_STAT.good 2 then startRelease s else s

/-- A poll burst ends: with PD_CORE off every domain but PD_AON switches off (R228, R234). -/
def burstOver (s : State) : State :=
  let s : State := { s with poll := { s.poll with burst := .idle } }
  if domOn s 2 then s
  else if s.poll.wakeDue then wakeBegin s
  else
    let s := if s.get F.POLL_STAT.state = 2 then s.set F.POLL_STAT.state 1 else s
    [1, 3, 4, 5, 6, 7, 8, 9].foldl domUnwant s

/-- The hitching record is published, the carrier stops, the session manager decides, and a start that waited follows (R79,
R198, R206). -/
def hpFinish (s : State) (code : Nat) (r : VRec) : State :=
  let s := (s.set F.LF_HP_STAT.done 1).modTxn fun t => { t with open_ := false, hpExpect := [] }
  let s := lfRelease (setLfCode (idleDrive s) code)
  let s := publish (s.set F.VERD_STAT.open_ 0) { r with hp := true, hpStart := s.get F.LF_HP_STAT.start_per }
  txnNext (sessHpEnd s)

/-- A skipped burst (R229). -/
def burstSkip (s : State) : State := tallyEvent (s.bump F.POLL_CNT.skipped) 0x06

/-- LF work ends with a code (R87, R89, R90, R97, R192): the synthesiser is released and the source's own end follows. -/
def lfEnd (s : State) (code : Nat) : State :=
  let o := lfOwner s
  if o = ownHp then hpFinish s code (noSlotRec cLfEnd)
  else
    let s := lfRelease (setLfCode (idleDrive s) code)
    if o = ownTxn then
      if s.txn.open_ ∧ ¬ s.txn.hp then
        let s := s.modTxn fun t => { t with lfOver := true }
        if s.txn.ackEnd ∨ ¬ s.txn.wakeEnd then decideLfEnd s else s
      else txnNext s
    else if o = ownPoll then burstOver (if s.poll.burst = .due then burstSkip s else s)
    else if o = ownCal then s.set F.LF_CAL_CTRL.cal_cut 1
    else s

/-- The code the unit just ended leaves its work with (R89, R97): OVERDRAW before ABORTED before a cut. -/
def unitEndCode (s : State) : Option Nat := if s.lf.unitOver then some lfOverdraw else s.lf.cut

/-- OVERDRAW also sets its flag (R89). -/
def noteOverdraw (s : State) (code : Nat) : State := if code = lfOverdraw then s.set F.LF_TRIM.overdraw 1 else s

/-- What a boundary of the sweep does (R82, R97): none to go on, else the code the work ends with; a bank cut only idles the
rest of the sweep. -/
def sweepBoundary (s : State) : Option Nat :=
  if s.lf.unitOver then some lfOverdraw
  else if s.lf.cut = some lfAborted then some lfAborted
  else if s.lf.noChal then some lfNoChal
  else none

/-- A bank cut turns the rest of the sweep idle. -/
def takeCut (s : State) : State :=
  if s.lf.cut = some lfSweepCut then s.modLf fun l => { l with cut := none, sweepCut := true } else s

/-- What a WAKE clears (R45, R113, R133, R147, R182, R204, R483): pattern records, UHF entries, UWB records and captures, the
STS store, fixes, verdict records. -/
def clearForWake (s : State) : State :=
  let s := (s.zero (F.LF_PAT_REC.cut 0).addr 32).zero (F.LF_IMEAS.amp 0 0).addr 512
  let s := clearEntries s 0 24
  let all : FRow → Bool := fun _ => true
  let m := resetRange (resetRange s.regs (F.UWB_STRB_W0.ts_lo 0).addr 40 all) (F.UWB_REC_W0.rstat 0).addr 1024 all
  let m := resetRange (resetRange m (F.SOLV_FIX_W0.fstat 0).addr 256 all) (F.VERD_REC_W0.code 0).addr 256 all
  let s : State := { s with regs := m }
  let s := s.modUwb fun u => { u with sts := List.replicate 8 [], exch := none, later := none }
  let s := s.modUhf fun u => { u with cut0 := false, cut1 := false }
  let s : State := { s with solv := { s.solv with queue := [], fit := none, noField := false, late := [] } }
  s.modTxn fun t => { t with slots := List.replicate 8 {}, order := [], hpExpect := [], woke := true }

/-- WAKE_START (R80, R87, R483): the WAKE preface begins once the grant is held, the gap is over, ts_ready is 1, the deferred
check of R65 is done and the domains are up. -/
def wakeStart (s : State) (vdrv : BitVec 8) : State :=
  if s.lf.stage = .wait ∧ lfOwner s = ownTxn ∧ manGranted s 0 ∧ ¬ s.lf.gap ∧ s.flag F.UWB_STAT.ts_ready ∧ s.txn.pres.isNone
      ∧ txnDomainsUp s s.lf.base s.lf.npat then
    let seed := s.get F.LF_TXN.seed
    let w := 64 * s.txn.kind + 16 * seed + s.get F.LF_TXN.wake_code
    let s := latchMnonce (clearForWake (s.set F.LF_TXN.seed (seed + 1)))
    let s := s.modLf fun l => { l with w := w, stage := .wake, gap := true, nextJ := 0 }
    let s := latchStore s (s.get F.LF_FRAME_VEC.wake_vec) vdrv.toNat
    tallyEvent (sendFrame s [BitVec.ofNat 8 w] (wakeKeys w)) 0x09
  else s

def execWakeStart (vdrv : BitVec 8) (s : State) : Host.Outcome State Fault Refusal := .next (wakeStart s vdrv)

/-- WAKE_END (R52, R80, R84): the strobe; the receivers are READY; a cut or abort ends the work here. -/
def wakeEnd (s : State) (ts : Stmp) (meas : List AerMeas) : State :=
  if s.lf.stage = .wake ∧ lfOwner s = ownTxn then
    let s := trimRise (strobe (unitMeas s meas) 0 ts)
    let s := settleRx (s.modTxn fun t => { t with wakeEnd := true })
    match unitEndCode s with
    | some c => lfEnd (noteOverdraw s c) c
    | none => (idleDrive s).modLf fun l => { l with stage := .sweep }
  else s

def execWakeEnd (ts : Stmp) (meas : List AerMeas) (s : State) : Host.Outcome State Fault Refusal :=
  .next (wakeEnd s ts meas)

/-- PATTERN_LATCH (R74 to R76, R80, R89): period j begins; its vector latches unless it is idle. -/
def patternLatch (s : State) (ts : Stmp) (vdrv : BitVec 8) : State :=
  if s.lf.stage = .sweep ∧ lfOwner s = ownTxn ∧ s.lf.nextJ < s.lf.k then
    match sweepBoundary s with
    | some c => lfEnd (noteOverdraw s c) c
    | none =>
      let s := takeCut s
      let j := s.lf.nextJ
      let s := trimRise ((if j = 0 then strobe s 1 ts else s).set F.LF_TXN_STAT.j j)
      let s := if j < s.lf.npat ∧ ¬ s.lf.sweepCut then latchStore s (s.lf.base + j) vdrv.toNat else unitBegin (idleDrive s)
      s.modLf fun l => { l with stage := .pattern }
  else s

def execPatternLatch (ts : Stmp) (vdrv : BitVec 8) (s : State) : Host.Outcome State Fault Refusal :=
  .next (patternLatch s ts vdrv)

/-- PATTERN_GAP (R80, R89, R97): the period's record is written and the boundary decides. -/
def patternGap (s : State) (meas : List AerMeas) : State :=
  if s.lf.stage = .pattern ∧ lfOwner s = ownTxn then
    let j := s.lf.nextJ
    let driven := decide (j < s.lf.npat) && !s.lf.sweepCut
    let ends := (sweepBoundary s).isSome || s.lf.cut.isSome
    let s := if driven then patRecord (unitMeas s meas) j meas ends
      else if j < 32 then s.set (F.LF_PAT_REC.idle j) 1 else s
    let s := (idleDrive s).modLf fun l => { l with stage := .sweep, nextJ := j + 1 }
    match sweepBoundary s with
    | some c => lfEnd (noteOverdraw s c) c
    | none => takeCut s
  else s

def execPatternGap (meas : List AerMeas) (s : State) : Host.Outcome State Fault Refusal := .next (patternGap s meas)

/-- The ranging grant is requested, with the opening of the first window as its deadline, or the exchanges of the tracked slots
end at once for an earlier cut (R126, R144, R146). -/
def rangingBegin (s : State) : State :=
  if s.txn.tsLost then verdTsLost (uwbCutRest s rsCut)
  else
    match s.uwb.later with
    | some st => uwbCutRest s st
    | none =>
      if s.flag F.UWB_CTRL.rf_en then manRequest s 3 (s.get F.UWB_RNG_COST.cost) true
      else uwbCutRest s rsCut

/-- ACK_PHASE_END (R47, R82, R112, R144, R191, R192): late checks are wiped; with no slot tracked the work ends NO_CHAL, also in
a transaction that the latch has ended (R196). -/
def ackPhaseEnd (s : State) : State :=
  if ¬ s.txn.hp ∧ s.txn.wakeEnd ∧ ¬ s.txn.ackEnd then
    let s := (ackLate s).modTxn fun t => { t with ackEnd := true }
    if ¬ s.txn.open_ then s.modLf fun l => { l with noChal := true }
    else if s.txn.lfOver then decideLfEnd s
    else if s.txn.slots.any (·.tracked) then rangingBegin s
    else txnEnd ((publish s (noSlotRec cNoTrack)).modLf fun l => { l with noChal := true })
  else s

def execAckPhaseEnd (s : State) : Host.Outcome State Fault Refusal := .next (ackPhaseEnd s)

/-- Whether every aerial of chal_vec with an amplitude lies in an enabled bank (R97). -/
def chalBanksUp (s : State) : Bool :=
  let v := s.get F.LF_FRAME_VEC.chal_vec
  (List.range 12).all fun n => !(aerIn s v n).inst || (aerIn s v n).amp == 0 || bankUp s (inLfb n)

/-- C as a number, byte 0 first. -/
def chalNat (s : State) : Nat := natBe (chalBytes s)

/-- CHALLENGE_PREFACE (R46, R82, R83, R97, R181): C is latched and goes out only if every tracked slot is ready; a C that does
not go out stays loaded. -/
def challengePreface (s : State) (vdrv : BitVec 8) : State :=
  if s.lf.stage = .sweep ∧ lfOwner s = ownTxn ∧ s.lf.nextJ = s.lf.k ∧ s.txn.ackEnd then
    match sweepBoundary s with
    | some c => lfEnd (noteOverdraw s c) c
    | none =>
      let s := (takeCut s).modTxn fun t => { t with preface := true }
      if s.lf.sweepCut ∧ ¬ chalBanksUp s then lfEnd s lfSweepCut
      else if s.flag F.VERD_STAT.ready then
        let s := (latchStore s (s.get F.LF_FRAME_VEC.chal_vec) vdrv.toNat).set F.LF_TXN_STAT.chal_sent 1
        let s := sendFrame s (chalBytes s) (chalKeys (chalBytes s))
        s.modLf fun l => { l with stage := .frame, cLoaded := false, cLatched := chalNat s }
      else
        let s := lfRelease (setLfCode (idleDrive s) lfNotReady)
        if s.txn.open_ then txnEndAll (publishRest s cNotReady) else txnNext s
  else s

def execChallengePreface (vdrv : BitVec 8) (s : State) : Host.Outcome State Fault Refusal :=
  .next (challengePreface s vdrv)

/-- T_CB (R80, R84). -/
def tCb (s : State) (ts : Stmp) : State :=
  if s.lf.stage = .frame ∧ lfOwner s = ownTxn then strobe s 2 ts else s

def execTCb (ts : Stmp) (s : State) : Host.Outcome State Fault Refusal := .next (tCb s ts)

/-- The envelope delay of the transaction (R86, R188): what LF_TENV.chal_env reads, or env_def while it reads 0xFFFF. A result of
0xFFFF is none and leaves an earlier one (log entry 162). -/
def takeEnv (s : State) (env : Nat) : State :=
  let s := (if env = 0xFFFF then s else s.set F.LF_TENV.chal_env env).modLf fun l => { l with envDone := true }
  let e := s.get F.LF_TENV.chal_env
  if e = 0xFFFF then
    (s.set F.VERD_STAT.env_def_used 1).modTxn fun t => { t with env := s.get F.VERD_CAL1.env_def }
  else s.modTxn fun t => { t with env := e }

/-- T_END (R80, R84, R86, R97, R112): the CHALLENGE is over, and reports still unchecked are wiped; a CHALLENGE that lost an aerial
to a hot bank is not complete. -/
def tEnd (s : State) (ts : Stmp) (env : BitVec 16) (meas : List AerMeas) : State :=
  if s.lf.stage = .frame ∧ lfOwner s = ownTxn then
    let s := trimRise (strobe (unitMeas s meas) 3 ts)
    let s := reportLate (fixBounds (takeEnv s env.toNat) ts)
    if s.lf.unitLost then lfEnd s lfFrameCut
    else
      let c := (unitEndCode s).getD (if s.lf.sweepCut then lfSweepCut else lfDone)
      let s := if s.txn.open_ then s.modTxn fun t => { t with tEnd := true } else s
      txnNext (lfRelease (setLfCode (idleDrive (noteOverdraw s c)) c))
  else s

def execTEnd (ts : Stmp) (env : BitVec 16) (meas : List AerMeas) (s : State) : Host.Outcome State Fault Refusal :=
  .next (tEnd s ts env meas)

/-- LF_CHAL_WRITE (R83, R180): LF_CHAL3 loads C; a write to a loaded C restarts the precomputation. -/
def lfChalWrite (s : State) (n : Fin 4) (data : Word) : State :=
  let was := s.lf.cLoaded
  let s := s.setWord (F.LF_CHAL.c0 n).addr data
  let s := if n = 3 then s.modLf fun l => { l with cLoaded := true } else s
  if was then precomputeRestart s else verdKick s

def execLfChalWrite (n : Fin 4) (data : Word) (s : State) : Host.Outcome State Fault Refusal :=
  .next (onDom s 1 (lfChalWrite s n data))

/-- Work in progress is to end at its boundary (R97); an earlier abort stands. Work that has not begun to drive ends at once. -/
def lfCutWith (s : State) (code : Nat) : State :=
  match s.lf.stage with
  | .idle => s
  | .listen => s
  | .wait => if lfOwner s = ownCal then cutCal s else lfEnd s code
  | _ => if s.lf.cut = some lfAborted then s else s.modLf fun l => { l with cut := some code }

/-- A bank is disabled (R97): SWEEP_CUT in the sweep, FRAME_CUT elsewhere. -/
def bankCut (s : State) : State :=
  lfCutWith s (if s.lf.stage = .sweep ∨ s.lf.stage = .pattern then lfSweepCut else lfFrameCut)

/-- SYN_EN_WRITE (R97): 0 acts as a disable of both banks; a transaction that still waits for the synthesiser ends too. -/
def synEnWrite (s : State) (v : Bool) : State :=
  let was := s.flag F.LF_CTRL.syn_en
  let s := s.put F.LF_CTRL.syn_en v
  if v ∨ ¬ was then s
  else
    let s := bankCut s
    if s.lf.txnWait ∧ s.txn.open_ then
      decideLfEnd (setLfCode (s.modLf fun l => { l with txnWait := false }) lfFrameCut)
    else s

def execSynEnWrite (v : Bool) (s : State) : Host.Outcome State Fault Refusal := .next (onDom s 1 (synEnWrite s v))

/-- The enable of a driver bank (LF_CTRL). -/
def bankEn (b : Bank) : Fld := match b with | .lfa => F.LF_CTRL.lfa_en | .lfb => F.LF_CTRL.lfb_en

/-- BANK_EN_WRITE (R97): a bank that becomes disabled cuts the work in progress. -/
def bankEnWrite (s : State) (b : Bank) (v : Bool) : State :=
  let was := s.flag (bankEn b)
  let s := s.put (bankEn b) v
  if v ∨ ¬ was then s else bankCut s

def execBankEnWrite (b : Bank) (v : Bool) (s : State) : Host.Outcome State Fault Refusal := .next (onDom s 1 (bankEnWrite s b v))

/-- LF_ABORT (R97): the unit completes and the work ends ABORTED; an abort that meets the last unit's end is late. -/
def lfAbort (s : State) (atCompletion : Bool) : State :=
  if atCompletion then if s.get F.LF_TXN_STAT.code = lfDone then s.set F.LF_TXN_STAT.abort_late 1 else s
  else lfCutWith s lfAborted

def execLfAbort (atCompletion : Bool) (s : State) : Host.Outcome State Fault Refusal := .next (onDom s 1 (lfAbort s atCompletion))

/-- CAL_START (R79, R93, R402): the installed aerials of the mask, then the envelope step, under the calibration grant. -/
def calStart (s : State) : State :=
  if lfOwner s ≠ ownIdle then s.set F.LF_STAT.cal_refused 1
  else
    let l := (List.range 12).filter fun n => s.bitAt F.LF_CAL_CTRL.mask n && s.flag (F.LF_AER_CFG.installed n)
    let s := (s.set F.LF_CAL_CTRL.cal_done 0).set F.LF_CAL_CTRL.cal_cut 0
    let s := l.foldl (fun (t : State) n => t.set (F.LF_CAL_RES.valid n) 0) s
    let chal := s.get F.LF_FRAME_VEC.chal_vec
    let s := if l.any (fun n => !inLfb n) || bankUsed s chal false then domWork s 4 else s
    let s := if l.any inLfb || bankUsed s chal true then domWork s 5 else s
    let s := setLfCode (setOwner (s.set F.LF_TXN_STAT.abort_late 0) ownCal) lfRunning
    let s := s.modLf fun f => { f with stage := .wait, cut := none, calMask := l.foldl setBit 0 }
    manRequest s 2 (s.get F.LF_CAL_CTRL.cal_cost) false

def execCalStart (s : State) : Host.Outcome State Fault Refusal := .next (onDom s 1 (calStart s))

/-- An aerial step's result lands as the step ends (R93). -/
def calResult (s : State) (n amp phase : Nat) : State :=
  s.sets [(F.LF_CAL_RES.i_amp n, amp), (F.LF_CAL_RES.i_phase n, phase), (F.LF_CAL_RES.valid n, 1)]

/-- CAL_STEP_END (R79, R86, R93, R97): the aerial's result lands, a cut ends calibration here, and the next step is driven; the
envelope step comes last and refreshes chal_env when no CHALLENGE has run since the last calibration. -/
def calStepEnd (s : State) (amp : BitVec 8) (phase : BitVec 10) (env : BitVec 16) : State :=
  if lfOwner s = ownCal ∧ s.lf.stage = .calStep then
    let s := calResult s s.lf.calAer amp.toNat phase.toNat
    let s := (idleDrive s).modLf fun l => { l with calMask := clrBit l.calMask l.calAer }
    match unitEndCode s with
    | some c => lfEnd (noteOverdraw s c) c
    | none => calLatch s
  else if lfOwner s = ownCal ∧ s.lf.stage = .calEnv then
    let s := if s.lf.envDone then s else s.set F.LF_TENV.chal_env env.toNat
    match unitEndCode s with
    | some c => lfEnd (noteOverdraw s c) c
    | none => lfRelease (setLfCode (((idleDrive s).set F.LF_CAL_CTRL.cal_done 1).modLf fun l => { l with envDone := false }) lfDone)
  else s

def execCalStepEnd (amp : BitVec 8) (phase : BitVec 10) (env : BitVec 16) (s : State) :
    Host.Outcome State Fault Refusal := .next (calStepEnd s amp phase env)

/-- Whether a hitching start is refused (R79, R95). -/
def hpRefused (s : State) : Bool :=
  lfOwner s != ownIdle || s.lf.next.isSome || decide (12 ≤ hpAer s) || !s.flag (F.LF_AER_CFG.installed (hpAer s))
    || !s.flag F.LF_CTRL.syn_en || !(if inLfb (hpAer s) then s.flag F.LF_CTRL.lfb_en else s.flag F.LF_CTRL.lfa_en)

/-- HP_START (R87, R95, R206): only a tagged write starts the exchange, after a transaction whose records are still to come
(R79; log entry 39). -/
def hpStart (s : State) (tagged : Bool) : State :=
  if ¬ tagged then s
  else if hpRefused s then s.set F.LF_STAT.hp_refused 1
  else if s.txn.open_ then (s.set F.SESS_STAT.txn_open 1).modLf fun l => { l with next := some { hp := true } }
  else hpOpen s

def execHpStart (tagged : Bool) (s : State) : Host.Outcome State Fault Refusal := .next (onDom s 1 (hpStart s tagged))

/-- The vector of the hitching post: only its aerial is not 0 (R95). -/
def hpVec (s : State) : List AerIn :=
  (List.range 12).map fun n =>
    if n = hpAer s then { aerIn s 0 n with amp := s.get F.LF_HP_CFG.hp_amp, phase := 0 } else ⟨false, 0, 0, 0, 0⟩

/-- The vector of the hitching post is latched (R74, R95). -/
def hpLatch (s : State) (vdrv : Nat) : State := latchVec s (hpVec s) (s.flag F.LF_KEY_CFG.vcomp) (vrefOf s) vdrv

/-- HP_CARRIER_START (R66, R95, R126, R182, R483): the carrier starts once the grant is held, ts_ready is 1 and the domain is up;
captures and expected frames are cleared, and mnonce is latched. -/
def hpCarrierStart (s : State) (vdrv : BitVec 8) : State :=
  if s.lf.stage = .wait ∧ lfOwner s = ownHp ∧ manGranted s 0 ∧ s.flag F.UWB_STAT.ts_ready
      ∧ (domPolicy s (hpDom s) ≠ 1 ∨ domUp s (hpDom s)) then
    let all : FRow → Bool := fun _ => true
    let m := resetRange (resetRange s.regs (F.UWB_STRB_W0.ts_lo 0).addr 40 all) F.LF_HP_STAT.start_per.addr 4 all
    let s : State := { s with regs := m }
    let s := clearEntries s 16 1
    let s := latchMnonce (s.modTxn fun t => { t with woke := true, hpExpect := [], slots := List.replicate 8 {} })
    (hpLatch s vdrv.toNat).modLf fun l => { l with stage := .hpCharge }
  else s

def execHpCarrierStart (vdrv : BitVec 8) (s : State) : Host.Outcome State Fault Refusal :=
  .next (hpCarrierStart s vdrv)

/-- The expected reply of an index, offsets 1 to 15 (R36, R37, R67, R68). -/
def hpReply (s : State) (root idx : Nat) (c : List Byte) : List Byte :=
  let f := bytesBe (16 * idx) 1 ++ bytesBe (rspHpOf s root idx c) 8
  let m := f ++ bytesBe (tagOf s root idx 0xE0 0 f) 4
  m ++ bytesBe (crc16 m) 2

/-- The expected replies of every enrolled index that the plan admits (R68); none without an active root, a loaded C, or the
latch enabled. -/
def hpExpected (s : State) : Option (List (Nat × List Byte)) :=
  let free := ((List.range 48).filter fun h => !(keySlot s h).live && !slotInUse s h).length
  match activeRoot s with
  | some root =>
    if s.lf.cLoaded ∧ domOn s 3 ∧ 3 ≤ free ∧ s.flag F.VERD_CTRL.en ∧ ¬ s.flag F.KEYS_STAT.blocked then
      some (((List.range 16).filter fun i => bit s.yard.hpAdmit i && bit s.yard.enrolMap i).map fun i =>
        (i, hpReply s root i (chalBytes s)))
    else none
  | none => none

/-- HP_REQ_START (R17, R66, R68, R74, R97, R198): HP_REQ is latched and goes out once the expected replies are complete; else
NOT_READY. -/
def hpReqStart (s : State) : State :=
  if s.lf.stage = .hpCharge then
    match unitEndCode s with
    | some c => lfEnd (noteOverdraw s c) c
    | none =>
      match hpExpected s with
      | some l =>
        let c := chalNat s
        let b := hpReqBytes (chalBytes s)
        let s := hpLatch (s.modTxn fun t => { t with hpExpect := l }) (s.get F.LF_VDRV.vdrv)
        (sendFrame s b (bytesKeys b)).modLf fun f => { f with stage := .hpFrame, cLoaded := false, cLatched := c }
      | none => hpFinish s lfNotReady (noSlotRec cNotReady)
  else s

def execHpReqStart (s : State) : Host.Outcome State Fault Refusal := .next (hpReqStart s)

/-- T_HP (R17, R84, R88, R96, R97): the strobe; the period counter starts, and the mean current of the 64 periods before is
kept; a cut ends the work after this frame; the carrier goes on under the grant held now. -/
def tHp (s : State) (ts : Stmp) (meas : List AerMeas) (mean : BitVec 16) : State :=
  if s.lf.stage = .hpFrame then
    let s := trimRise (strobe (unitMeas s meas) 4 ts)
    match unitEndCode s with
    | some c => lfEnd (noteOverdraw s c) c
    | none => (hpLatch s (s.get F.LF_VDRV.vdrv)).modLf fun l => { l with stage := .hpListen, hpMean := mean.toNat }
  else s

def execTHp (ts : Stmp) (meas : HpMeas) (s : State) : Host.Outcome State Fault Refusal :=
  .next (tHp s ts meas.aerials meas.mean)

/-- Whether a period's amplitude, in milliamperes, differs from the mean by more than the threshold (R96). -/
def hpOff (s : State) (a : Nat) : Bool :=
  decide (8 * orDefault (s.get F.LF_HP_CFG.hp_thr) 1 < ((a : Int) - s.lf.hpMean).natAbs)

/-- The reply's start (R96): the first period, counted from T_HP, that begins two in a row off the mean. -/
def hpFirst (s : State) (amps : List (BitVec 16)) : Option Nat :=
  (List.range amps.length).find? fun i =>
    hpOff s (amps.getD i 0).toNat && decide (i + 1 < amps.length) && hpOff s (amps.getD (i + 1) 0).toNat

/-- HP_REPLY_START (R96, R110): the amplitudes of the carrier periods from T_HP on; the sign of the first difference is "load on",
and entry 16 fills. -/
def hpReplyStart (s : State) (amps : List (BitVec 16)) : State :=
  if s.lf.stage = .hpListen then
    match hpFirst s amps with
    | some i =>
      ((s.set F.LF_HP_STAT.start_per i).set (F.UHF_REC_W0.qstate 16) 1).modLf fun l =>
        { l with stage := .hpReply, hpLow := decide ((amps.getD i 0).toNat < l.hpMean) }
    | none => s
  else s

def execHpReplyStart (amps : List (BitVec 16)) (s : State) : Host.Outcome State Fault Refusal := .next (hpReplyStart s amps)

/-- The reply's bits from the mean amplitudes of their two half-bits (R67, R96): bit 1 is load on, then off. A tie is a free bit
(log entry 155). -/
def hpBits (low : Bool) (k : Nat) (halves : List (BitVec 16 × BitVec 16)) : List Bool :=
  (List.range 128).map fun i =>
    let h := halves.getD i (0, 0)
    if h.1 = h.2 then Config.tieBit k i
    else if low then decide (h.1.toNat < h.2.toNat) else decide (h.2.toNat < h.1.toNat)

/-- Bits gathered into bytes, most significant first (R67). -/
def packBytes (l : List Bool) (n : Nat) : List Byte :=
  (List.range n).map fun i =>
    BitVec.ofNat 8 ((List.range 8).foldl (fun a j => 2 * a + b2n (l.getD (8 * i + j) false)) 0)

/-- Whether a reply ends OK (R69, R105): its CRC-16 over offsets 1 to 13 matches, and its version is 0b00. -/
def hpCrc (b : List Byte) : Bool := crc16 ((b.drop 1).take 13) == natBe ((b.drop 14).take 2)
def hpV0 (b : List Byte) : Bool := (b.getD 1 0).toNat / 4 % 4 == 0

/-- Whether a reply is the expected one of the index its header names (R68, R198). -/
def hpGood (s : State) (b : List Byte) : Bool :=
  s.txn.hpExpect.any fun e => e.1 == (b.getD 1 0).toNat / 16 && e.2 == (b.drop 1).take 15

/-- The verdict of a reply (R190, R198): content, then the start window, then CRC, then NONE. -/
def hpVerdict (s : State) (b : List Byte) : VRec :=
  let idx := (b.getD 1 0).toNat / 16
  let per := s.get F.LF_HP_STAT.start_per
  let spot := fun n => (Config.hpSpot (s.word F.YARD_PVER.version.addr) n).toNat
  if hpCrc b ∧ hpV0 b ∧ ¬ hpGood s b then { code := vWrong, cause := cContent, idxA := idx }
  else if per < 124 then { code := vEarly, cause := cHpEarly }
  else if 132 < per then { code := vLate, cause := cHpLate }
  else if ¬ hpCrc b then { code := vPartial, cause := cCrc }
  else if ¬ hpV0 b then noSlotRec cNoFrame
  else { code := vPass, cause := cOk, idxA := idx, x := spot 0, y := spot 1, z := spot 2, paddock := spot 3 % 256, conf := 255 }

/-- The reply in the frame assembler (R109 to R111): an OK one enters entry 16 from its header on, and the compare marks it VERIFIED
or wipes it. -/
def hpAssemble (s : State) (b : List Byte) : State :=
  if hpCrc b && hpV0 b then
    let s := quarantine s 16 ((b.drop 1).take 15)
    if hpGood s b then s.set (F.UHF_REC_W0.qstate 16) 3 else wipeEntry s 16
  else s

/-- HP_REPLY_END (R68, R96, R109, R198): after 128 bits the carrier stops, the bytes go to the frame assembler, and the record is
published; a cut names the work's code. -/
def hpReplyEnd (s : State) (halves : List (BitVec 16 × BitVec 16)) : State :=
  if s.lf.stage = .hpReply then
    let (k, s) := s.fresh
    let b := packBytes (hpBits s.lf.hpLow k halves) 16
    let s := trimRise (hpAssemble (s.put F.LF_HP_STAT.preamble_bad (decide (b.getD 0 0 ≠ 0xFE))) b)
    let c := (unitEndCode s).getD lfDone
    hpFinish (noteOverdraw s c) c (hpVerdict s b)
  else s

def execHpReplyEnd (halves : List (BitVec 16 × BitVec 16)) (s : State) : Host.Outcome State Fault Refusal :=
  .next (hpReplyEnd s halves)

/-- HP_TIMEOUT (R68, R96, R198): the carrier stops at T_HP + 40 ms; a start outside the window keeps its verdict. -/
def hpTimeout (s : State) : State :=
  let c := (unitEndCode s).getD lfDone
  let s' := noteOverdraw s c
  match s.lf.stage with
  | .hpListen => hpFinish (s'.set F.LF_HP_STAT.no_reply 1) c (noSlotRec cNoFrame)
  | .hpReply =>
    let per := s.get F.LF_HP_STAT.start_per
    hpFinish s' c (if per < 124 then { code := vEarly, cause := cHpEarly }
      else if 132 < per then { code := vLate, cause := cHpLate } else noSlotRec cNoFrame)
  | _ => s

def execHpTimeout (s : State) : Host.Outcome State Fault Refusal := .next (hpTimeout s)

/-- LF_FAULT_CLEAR (R90): write 1 to clear. -/
def lfFaultClear (s : State) (data : Word) : State :=
  let s := s.setWord F.LF_FAULT.short.addr (s.word F.LF_FAULT.short.addr &&& ~~~data)
  s.put F.LF_STAT.fault (s.word F.LF_FAULT.short.addr != 0)

def execLfFaultClear (data : Word) (s : State) : Host.Outcome State Fault Refusal := .next (onDom s 1 (lfFaultClear s data))

/-- A protective stop of drive in progress is reported and counted (R90, R91, R359, R447). -/
def protectiveStop (s : State) : State := if driving s then tallyEvent (healthFault s F.HLTH_EVT.lf) 0x11 else s

/-- OVER_CURRENT (R70, R90): the aerial stays idle and the rest of the work goes on. -/
def overCurrent (s : State) (n : Fin 12) : State :=
  if s.flag (F.LF_AER_CFG.installed n) then
    let s := protectiveStop (setLfFault s F.LF_FAULT.short (setBit (shortMask s) n))
    (dropAerials s fun m => m == n.val).modLf fun l => { l with unitFault := setBit l.unitFault n }
  else s

def execOverCurrent (n : Fin 12) (s : State) : Host.Outcome State Fault Refusal := .next (overCurrent s n)

/-- The fields of a bank in LF_TEMP. -/
def tempFld (b : Bank) : Fld := match b with | .lfa => F.LF_TEMP.lfa_temp | .lfb => F.LF_TEMP.lfb_temp
def warmFld (b : Bank) : Fld := match b with | .lfa => F.LF_TEMP.lfa_warm | .lfb => F.LF_TEMP.lfb_warm
def hotFld (b : Bank) : Fld := match b with | .lfa => F.LF_TEMP.lfa_hot | .lfb => F.LF_TEMP.lfb_hot

/-- BANK_WARM (R90, R97). -/
def bankWarm (s : State) (b : Bank) (temp : BitVec 8) : State :=
  bankCut ((s.set (tempFld b) temp.toNat).set (warmFld b) 1)

def execBankWarm (b : Bank) (temp : BitVec 8) (s : State) : Host.Outcome State Fault Refusal :=
  .next (bankWarm s b temp)

/-- BANK_HOT (R90, R97): the bank stops at once; a frame that loses a driven aerial is not complete. -/
def bankHot (s : State) (b : Bank) (temp : BitVec 8) : State :=
  let mine := fun n => match b with | .lfa => !inLfb n | .lfb => inLfb n
  let lost := s.lf.aEff.zipIdx.any fun e => mine e.2 && decide (0 < e.1)
  let s := protectiveStop (s.sets [(tempFld b, temp.toNat), (warmFld b, 1), (hotFld b, 1)])
  bankCut ((dropAerials s mine).modLf fun l => { l with unitLost := l.unitLost || lost })

def execBankHot (b : Bank) (temp : BitVec 8) (s : State) : Host.Outcome State Fault Refusal := .next (bankHot s b temp)

/-- BANK_COOL (R90): below 135 °C the bank accepts work again; a hot flag stays until it is cleared. -/
def bankCool (s : State) (b : Bank) (temp : BitVec 8) : State := (s.set (tempFld b) temp.toNat).set (warmFld b) 0

def execBankCool (b : Bank) (temp : BitVec 8) (s : State) : Host.Outcome State Fault Refusal :=
  .next (bankCool s b temp)

/-- A VDRV fault (R90): both banks freewheel at once and the work ends with VDRV_FAULT; a burst's listen goes on. -/
def vdrvFault (s : State) (f : Fld) (v : BitVec 8) : State :=
  let s := (protectiveStop (setLfFault s f 1)).sets [(F.LF_VDRV.vdrv, v.toNat), (F.LF_STAT.vdrv_ok, 0)]
  let s := (dropAerials s fun _ => true).modLf fun l => { l with vdrvBad := true }
  match s.lf.stage with
  | .idle => s
  | .listen => s
  | _ => lfEnd s lfVdrvFault

def execVdrvLow (v : BitVec 8) (s : State) : Host.Outcome State Fault Refusal :=
  .next (vdrvFault s F.LF_FAULT.vdrv_uv v)

def execVdrvHigh (v : BitVec 8) (s : State) : Host.Outcome State Fault Refusal :=
  .next (vdrvFault s F.LF_FAULT.vdrv_ov v)

/-- VDRV_OK (R90): VDRV is back within 5.8 to 19.0 V. -/
def vdrvOk (s : State) (v : BitVec 8) : State :=
  ((s.set F.LF_VDRV.vdrv v.toNat).set F.LF_STAT.vdrv_ok 1).modLf fun l => { l with vdrvBad := false }

def execVdrvOk (v : BitVec 8) (s : State) : Host.Outcome State Fault Refusal := .next (vdrvOk s v)

/-- The current granted to the work in progress; a burst with PD_CORE off draws under the standing grant (R18). -/
def lfGrantNow (s : State) : Nat :=
  if lfOwner s = ownPoll ∧ ¬ domOn s 2 then s.get F.PWR_STAND_POLL.vdrv
  else s.get (F.PWR_REQ.grant (lfRequester (lfOwner s)))

/-- TRIM_PERIOD (R89): a carrier period above the grant lowers t by 1/16, down to 4/16; at the floor it marks the unit. -/
def trimPeriod (s : State) (units : BitVec 10) : State :=
  if driving s then
    let g := lfGrantNow s
    let above := decide (g < units.toNat)
    let t := s.get F.LF_TRIM.t
    let t' := if above then max 4 (t - 1) else t
    (setTrim s t').modLf fun l => { l with
      unitTMin := min l.unitTMin t'
      unitQuiet := l.unitQuiet && decide (16 * units.toNat ≤ 15 * g)
      unitOver := above && t == 4 }
  else s

def execTrimPeriod (units : BitVec 10) (s : State) : Host.Outcome State Fault Refusal := .next (trimPeriod s units)

/-- LF_TRIM_READ: a read sets t_min to t. -/
def lfTrimRead (s : State) : State := s.set F.LF_TRIM.t_min (s.get F.LF_TRIM.t)

def execLfTrimRead (s : State) : Host.Outcome State Fault Refusal := .next (onDom s 1 (lfTrimRead s))

/-- An LF block reset (R97, R192): the accumulator, the work and C are lost; a transaction before its T_END is decided, at once
where no ACK placement exists. The gap, a delayed burst, a start that waits and the VDRV monitor are not work (log entry 39). -/
def lfBlockReset (s : State) : State :=
  let o := lfOwner s
  let pendT := s.txn.open_ && !s.txn.hp && (o == ownTxn || s.lf.txnWait)
  let s := if o = ownIdle then s else manRelease s (lfRequester o)
  let l := s.lf
  let s : State := { s with lf := { gap := l.gap, pollWait := l.pollWait, next := l.next, vdrvBad := l.vdrvBad } }
  let s := setOwner s ownIdle
  if o = ownHp then
    let s := (s.modTxn fun t => { t with open_ := false, hpExpect := [] }).set F.VERD_STAT.open_ 0
    txnNext (sessHpEnd (publish s { noSlotRec cLfEnd with hp := true }))
  else if pendT then
    let s := s.modTxn fun t => { t with lfOver := true }
    if s.txn.ackEnd ∨ ¬ s.txn.wakeEnd then decideLfEnd s else s
  else if o = ownPoll then burstOver (if s.poll.burst = .due then burstSkip s else s)
  else txnNext s

end Sys2Proof.Machine
end

