-- ==== Sys2Proof/Machine/Poll.lean ====
section
/-!
DEFINITION. The poll ladder, the burst, the wake inputs and STANDBY (chapter 09), and the end of the gap of R56 and of a
grant's deadline, which bursts and transactions share.
-/
namespace Sys2Proof.Machine

/-- Changes the poll state. -/
def State.modPoll (s : State) (f : PollState → PollState) : State := { s with poll := f s.poll }

/-- The period of the current rung in AON ticks (R223). -/
def pollPeriod (s : State) : Nat :=
  let r := s.get F.POLL_STAT.rung
  orDefault (s.get (F.POLL_PER.period r)) (8192 * 2 ^ r)

/-- The ladder drops to rung 0 (R224). -/
def ladderDrop (s : State) : State :=
  let s := dwellRestart (s.set F.POLL_STAT.rung 0)
  s.modPoll fun p => { p with due := s.aonTs + pollPeriod s }

/-- The vector of a burst: poll_vec, or the shadow's with PD_CORE off (R226, R227). -/
def burstVec (s : State) : List AerIn :=
  if domOn s 2 then vecIn s (s.get F.LF_FRAME_VEC.poll_vec)
  else (List.range 12).map fun n =>
    let v := s.word (F.POLL_SHADOW.copy n).addr
    let c := s.word (F.POLL_SHADOW.copy (12 + n)).addr
    { inst := bitsOf c 18 1 == 1, gain := bitsOf c 0 8, trim := bitsOf c 8 10, amp := bitsOf v 0 8, phase := bitsOf v 16 10 }

/-- Whether a burst uses a bank (R227). -/
def burstUses (s : State) (lfb : Bool) : Bool :=
  (burstVec s).zipIdx.any fun e => e.1.inst && e.1.amp != 0 && inLfb e.2 == lfb

/-- With PD_CORE off a burst powers the banks it needs once SBY reads clock-good (R227, R228). -/
def burstBanks (s : State) : State :=
  if s.poll.burst = .due ∧ ¬ domOn s 2 ∧ domOn s 1 then
    let s := if burstUses s false then domWant s 4 else s
    if burstUses s true then domWant s 5 else s
  else s

/-- A burst takes the idle synthesiser (R87, R227, R228): with PD_CORE on it asks for its grant; with PD_CORE off it powers
PD_SBY, and then its banks. -/
def burstBegin (s : State) : State :=
  let s := s.modPoll fun p => { p with burst := .due }
  let s := setLfCode (setOwner s ownPoll) lfRunning
  let s := s.modLf fun l => { l with stage := .wait, cut := none }
  if domOn s 2 then
    let s := if burstUses s false then domWork s 4 else s
    let s := if burstUses s true then domWork s 5 else s
    manRequest s 1 (vecCost s (s.get F.LF_FRAME_VEC.poll_vec)) true
  else burstBanks (domWant (s.set F.POLL_STAT.state 2) 1)

/-- BURST_DUE (R79, R224 to R229): a due tick; the next one follows a period later. With groups 0 no burst fires. -/
def burstDue (s : State) : State :=
  if s.flag F.POLL_CTRL.en then
    let s := s.modPoll fun p => { p with due := s.aonTs + pollPeriod s }
    if s.get F.POLL_CFG.groups = 0 then s
    else if s.get F.POLL_STAT.state = 3 ∨ lfOwner s ≠ ownIdle ∨ s.poll.burst ≠ .idle then burstSkip s
    else if s.lf.gap then (s.modPoll fun p => { p with burst := .delayed }).modLf fun l => { l with pollWait := true }
    else burstBegin s
  else s

def execBurstDue (s : State) : Host.Outcome State Fault Refusal := .next (burstDue s)

/-- DWELL_EXPIRY (R224): the ladder moves up one rung. -/
def dwellExpiry (s : State) : State :=
  let r := s.get F.POLL_STAT.rung
  if r < 7 then dwellRestart (s.set F.POLL_STAT.rung (r + 1)) else s

def execDwellExpiry (s : State) : Host.Outcome State Fault Refusal := .next (dwellExpiry s)

/-- The next enabled group after `g`, ascending with wrap-around (R226). -/
def nextGroup (groups g : Nat) : Nat :=
  (((List.range 4).map fun i => (g + 1 + i) % 4).find? fun i => bit groups i).getD g

/-- Whether a burst's domains are up and its grant held (R228, R87). -/
def burstReady (s : State) : Bool :=
  (if domOn s 2 then manGranted s 1 else domOn s 1)
    && (!burstUses s false || domUp s 4 || (domOn s 2 && domPolicy s 4 != 1))
    && (!burstUses s true || domUp s 5 || (domOn s 2 && domPolicy s 5 != 1))

/-- A burst that has not begun gives the synthesiser back. -/
def burstDrop (s : State) : State := burstOver (lfRelease (burstSkip s))

/-- BURST_WAKE_P_START (R113, R114, R226 to R229, R483): the preface starts and PD_UHF is powered; with PD_CORE off and VDRV
outside 5.8 to 19.0 V the burst is skipped. -/
def burstWakePStart (s : State) (vdrv : BitVec 8) : State :=
  if s.poll.burst = .due ∧ burstReady s then
    let core := domOn s 2
    let s := setVdrv s vdrv.toNat
    if ¬ core ∧ ¬ s.flag F.LF_STAT.vdrv_ok then burstDrop s
    else
      let g := s.get F.POLL_STAT.group
      let s := s.modPoll fun p => { p with burst := .wakeP, burstGroup := g }
      let s := (s.set F.POLL_STAT.group (nextGroup (s.get F.POLL_CFG.groups) g)).bump F.POLL_CNT.bursts
      let s := tallyEvent s 0x05
      let s := if core then (clearEntries s 0 4).set F.VERD_PRES.valid 0 else s
      let s := s.modUhf fun u => { u with pollLatch := none, cut0 := false, cut1 := false }
      let s := setOwner (domWant s 6) ownPoll
      let s := latchVec s (burstVec s) (core && s.flag F.LF_KEY_CFG.vcomp) (vrefOf s) vdrv.toNat
      (sendFrame s [] (wakePKeys g)).modLf fun l => { l with stage := .wake }
  else s

def execBurstWakePStart (vdrv : BitVec 8) (s : State) : Host.Outcome State Fault Refusal :=
  .next (burstWakePStart s vdrv)

/-- The listen of a burst begins with its receivers in LISTEN (R115). -/
def listenRx (s : State) : State :=
  let one := fun (t : State) (u1 : Bool) => setRx t u1 (if rxState t u1 = 2 then 3 else rxState t u1)
  one (one s false) true

/-- BURST_LISTEN_START (R64, R84, R97, R115): WAKE-P has ended; the receivers listen. A cut names the work's code. -/
def burstListenStart (s : State) (ts : Stmp) (meas : List AerMeas) : State :=
  if s.poll.burst = .wakeP ∧ lfOwner s = ownPoll then
    let s := trimRise (strobe (unitMeas s meas) 0 ts)
    let c := (unitEndCode s).getD lfDone
    let s := setLfCode (idleDrive (noteOverdraw s c)) c
    let s := (s.modPoll fun p => { p with burst := .listen }).modLf fun l => { l with stage := .listen, cut := none }
    listenRx s
  else s

def execBurstListenStart (ts : Stmp) (meas : List AerMeas) (s : State) : Host.Outcome State Fault Refusal :=
  .next (burstListenStart s ts meas)

/-- BURST_LISTEN_END (R228, R236): the burst is over; a wake event met during it now wakes the chip. -/
def burstListenEnd (s : State) : State :=
  if s.poll.burst = .listen then
    let s := s.modUhf fun u => { u with open_ := [], sync := [] }
    burstOver (settleRx (lfRelease s))
  else s

def execBurstListenEnd (s : State) : Host.Outcome State Fault Refusal := .next (burstListenEnd s)

/-- POLL_EN_WRITE (R225): a change from 0 to 1 restarts the ladder at rung 0; while en is 0 no burst fires, nor one that waits
for the gap of R56. -/
def pollEnWrite (s : State) (v : Bool) : State :=
  let was := s.flag F.POLL_CTRL.en
  let s := s.put F.POLL_CTRL.en v
  if v then (if was then s else ladderDrop s)
  else if s.poll.burst = .delayed then
    (s.modPoll fun p => { p with burst := .idle }).modLf fun l => { l with pollWait := false }
  else s

def execPollEnWrite (v : Bool) (s : State) : Host.Outcome State Fault Refusal := .next (pollEnWrite s v)

/-- Whether STANDBY is refused (R235). -/
def sleepRefused (s : State) : Bool :=
  s.flag F.SESS_STAT.entry_open || s.flag F.SESS_STAT.start_open || s.flag F.SESS_STAT.txn_open || s.txn.open_
    || !s.sess.trigs.isEmpty || !s.flag F.POLL_CTRL.en

/-- SLEEP (R235): only a tagged write requests STANDBY; an accepted request commands a store. -/
def sleep (s : State) (tagged : Bool) : State :=
  if ¬ tagged then s
  else if sleepRefused s then s.set F.POLL_STAT.sleep_refused 1
  else requestStoreFor (s.modPoll fun p => { p with sleepReq := true }) wtSleep

def execSleep (tagged : Bool) (s : State) : Host.Outcome State Fault Refusal := .next (sleep s tagged)

/-- What every wake input does first (R224, R235): the ladder drops and a STANDBY request whose store still runs ends. -/
def wakeDrop (s : State) : State := ladderDrop (s.modPoll fun p => { p with sleepReq := false })

/-- A wake event outside ACTIVE (R236): it starts WAKING, after the listen of a burst in progress. -/
def startWaking (s : State) : State :=
  match s.get F.POLL_STAT.state with
  | 1 => wakeBegin s
  | 2 => s.modPoll fun p => { p with wakeDue := true }
  | _ => s

/-- A touch, door or host-wake event held until the plan has loaded (R236); a repeat adds nothing (R203). -/
def holdTrig (s : State) (src : Nat) (opened : Bool) : State :=
  startWaking (s.modPoll fun p => { p with
    wakeTrigs := if p.wakeTrigs.contains (src, opened) then p.wakeTrigs else p.wakeTrigs ++ [(src, opened)] })

/-- An accepted touch (R202, R224, R236). -/
def touchEvent (s : State) (n : Nat) : State :=
  let s := tallyEvent (wakeDrop s) 0x07
  if s.get F.POLL_STAT.state = 0 then sessTouch s n else holdTrig (s.putBit F.POLL_WAKE.hs n true) n false

/-- A door event (R202, R210, R224, R236). -/
def doorEvent (s : State) (n : Nat) (opened : Bool) : State :=
  let s := tallyEvent (wakeDrop s) 0x08
  if s.get F.POLL_STAT.state = 0 then sessDoor s n opened else holdTrig (s.putBit F.POLL_WAKE.ds n true) (8 + n) opened

/-- A host wake (R224, R233, R236). -/
def hostWake (s : State) : State :=
  let s := wakeDrop s
  if s.get F.POLL_STAT.state = 0 then s else holdTrig (s.set F.POLL_WAKE.host 1) 16 false

/-- HOST_WAKE_WRITE (R233): while PD_HIO is on. -/
def hostWakeWrite (s : State) : State := if domOn s 8 then hostWake s else s

def execHostWakeWrite (s : State) : Host.Outcome State Fault Refusal := .next (hostWakeWrite s)

/-- HOST_WAKE_PIN (R233): with PD_HIO off. -/
def hostWakePin (s : State) : State := if domOn s 8 then s else hostWake s

def execHostWakePin (s : State) : Host.Outcome State Fault Refusal := .next (hostWakePin s)

/-- POLL_CNT_CLR. -/
def pollCntClr (s : State) : State := s.setWord F.POLL_CNT.bursts.addr 0

def execPollCntClr (s : State) : Host.Outcome State Fault Refusal := .next (pollCntClr s)

/-- The baseline after a scan without touch (R231): `b + (c − b) / 64`, rounded down or up by a free bit where inexact. -/
def newBase (s : State) (b c : Nat) : Nat × State :=
  let num : Int := 64 * b + ((c : Int) - b)
  if num % 64 = 0 then ((num / 64).toNat, s)
  else
    let (k, t) := s.fresh
    ((num / 64).toNat + b2n (Config.freeBit k), t)

/-- One handle-sense input's scan (R231). -/
def hsOne (s : State) (n c : Nat) : State :=
  let b := s.get (F.POLL_HS.base n)
  let thr := 4 * orDefault (s.get F.POLL_HS_CFG.thr) 8
  let acc := orDefault (s.get F.POLL_HS_CFG.acc) 2
  let touched := s.bitAt F.POLL_LVL.hs_touch n
  let s := s.set (F.POLL_HS.count n) c
  let hit := if touched then decide ((c : Int) - b < 2 * thr) else decide ((b : Int) + 4 * thr ≤ c)
  let run := if hit then s.poll.hsRun.getD n 0 + 1 else 0
  let turn := decide (acc ≤ run)
  let s := s.modPoll fun p => { p with hsRun := p.hsRun.set n (if turn then 0 else run) }
  if turn then
    let s := s.putBit F.POLL_LVL.hs_touch n (!touched)
    if touched then
      let (v, s) := newBase s b c
      s.set (F.POLL_HS.base n) v
    else touchEvent s n
  else if touched then s
  else
    let (v, s) := newBase s b c
    s.set (F.POLL_HS.base n) v

/-- HS_SCAN (R231): every enabled input is measured, in index order. -/
def hsScan (s : State) (counts : List (BitVec 16)) : State :=
  (List.range 8).foldl
    (fun t n => if t.bitAt F.POLL_HS_CFG.hs_en n then hsOne t n (counts.getD n 0).toNat else t) s

def execHsScan (counts : List (BitVec 16)) (s : State) : Host.Outcome State Fault Refusal := .next (hsScan s counts)

/-- One door-switch input's sample (R232). -/
def dsOne (s : State) (n : Nat) (level : Bool) : State :=
  let was := s.bitAt F.POLL_LVL.ds_lvl n
  let run := if level = was then 0 else s.poll.dsRun.getD n 0 + 1
  let turn := decide (orDefault (s.get F.POLL_DS_CFG.deb) 10 ≤ run)
  let s := s.modPoll fun p => { p with dsRun := p.dsRun.set n (if turn then 0 else run) }
  if turn then doorEvent (s.putBit F.POLL_LVL.ds_lvl n level) n (level == s.bitAt F.POLL_DS_CFG.open_lvl n) else s

/-- DS_SAMPLE (R232): every enabled input is sampled, in index order. -/
def dsSample (s : State) (levels : BitVec 8) : State :=
  (List.range 8).foldl
    (fun t n => if t.bitAt F.POLL_DS_CFG.ds_en n then dsOne t n (bit levels.toNat n) else t) s

def execDsSample (levels : BitVec 8) (s : State) : Host.Outcome State Fault Refusal := .next (dsSample s levels)

/-- WAKE_EVENT (R236): in STANDBY or BURST; a tamper wake leaves the ladder (R224). -/
def wakeEvent (s : State) (w : WakeSrc) : State :=
  if asleep s then
    match w with
    | .touch n => touchEvent s n
    | .door n o => doorEvent s n o
    | .host => hostWake s
    | .presence => startWaking (s.set F.POLL_WAKE.presence 1)
    | .tamper => startWaking (s.set F.POLL_WAKE.tamper 1)
  else s

def execWakeEvent (w : WakeSrc) (s : State) : Host.Outcome State Fault Refusal := .next (wakeEvent s w)

/-- Bring-up after a wake is over (R234): the chip is ACTIVE. -/
def wakeOver (s : State) : State := if s.get F.POLL_STAT.state = 3 then s.set F.POLL_STAT.state 0 else s

/-- The first event of each source among the held ones that is a trigger under the plan (R202, R203); door openings also end
sessions. -/
def heldTrigs (s : State) (l : List (Nat × Bool)) : List (Nat × Bool) :=
  l.foldl (fun k e => if doorTrig s (e.1 - 8) e.2 ∧ k.any (fun x => x.1 == e.1 && doorTrig s (x.1 - 8) x.2) then k else k ++ [e]) []

/-- The plan has loaded after a wake (R236): the held events are delivered in arrival order, at most one trigger a source; a host
wake triggers nothing (R202). -/
def deliverWake (s : State) : State :=
  let l := heldTrigs s s.poll.wakeTrigs
  let s := (wakeOver s).modPoll fun p => { p with wakeTrigs := [] }
  l.foldl (fun t e => if e.1 < 8 then sessTouch t e.1 else if e.1 < 16 then sessDoor t (e.1 - 8) e.2 else t) s

/-- TXN_GAP_END (R56, R203, R229): a delayed burst starts, else the next latched trigger. -/
def txnGapEnd (s : State) : State :=
  if s.lf.gap ∧ ¬ (lfOwner s = ownTxn ∧ s.lf.stage ≠ .wait) then
    let s := s.modLf fun l => { l with gap := false }
    let s := if s.lf.pollWait then
        let s := s.modLf fun l => { l with pollWait := false }
        if lfOwner s = ownIdle then burstBegin s else burstSkip (s.modPoll fun p => { p with burst := .idle })
      else s
    nextTrig s
  else s

def execTxnGapEnd (s : State) : Host.Outcome State Fault Refusal := .next (txnGapEnd s)

/-- Whether a queued request has a deadline. -/
def hasDeadline (s : State) (r : Nat) : Bool := s.man.queue.any fun e => e.1 == r && e.2

/-- GRANT_DEADLINE (R87, R144, R416): a request still queued is withdrawn, the miss is counted, and its requester acts. -/
def grantDeadline (s : State) (r : Fin 5) : State :=
  if hasDeadline s r then
    let s := (manRelease s r).bump F.PWR_MGR_CNT.misses
    match r.val with
    | 0 => lfEnd (s.set F.LF_GRANT.miss 1) lfGrantMiss
    | 1 => burstDrop (setLfCode (s.set F.LF_GRANT.miss 1) lfGrantMiss)
    | 3 => uwbCutRest (s.set F.UWB_GRANT.miss 1) rsNoGrant
    | _ => s
  else s

def execGrantDeadline (r : Fin 5) (s : State) : Host.Outcome State Fault Refusal := .next (grantDeadline s r)

end Sys2Proof.Machine
end

