-- ==== Sys2Proof/Machine/Solv.lean ====
section
/-!
DEFINITION. The paddock solver (chapter 06): field model, predicted and measured levels, terms, cost, the damped
Gauss–Newton search, paddocks, confidence, the fix record and its endings.
-/
namespace Sys2Proof.Machine

/-- lin[m] = round(10^((10 + m) / 20)) of R153, with lin[0] = 0. -/
def linTable : List Nat :=
  [0, 4, 4, 4, 5, 6, 6, 7, 8, 9, 10, 11, 13, 14, 16, 18]
    ++ [20, 22, 25, 28, 32, 35, 40, 45, 50, 56, 63, 71, 79, 89, 100, 112]
    ++ [126, 141, 158, 178, 200, 224, 251, 282, 316, 355, 398, 447, 501, 562, 631, 708]
    ++ [794, 891, 1000, 1122, 1259, 1413, 1585, 1778, 1995, 2239, 2512, 2818, 3162, 3548, 3981, 4467]
    ++ [5012, 5623, 6310, 7079, 7943, 8913, 10000, 11220, 12589, 14125, 15849, 17783, 19953, 22387, 25119, 28184]
    ++ [31623, 35481, 39811, 44668, 50119, 56234, 63096, 70795, 79433, 89125, 100000, 112202, 125893, 141254, 158489, 177828]
    ++ [199526, 223872, 251189, 281838, 316228, 354813, 398107, 446684, 501187, 562341, 630957, 707946, 794328, 891251, 1000000, 1122018]
    ++ [1258925, 1412538, 1584893, 1778279, 1995262, 2238721, 2511886, 2818383, 3162278, 3548134, 3981072, 4466836, 5011872, 5623413, 6309573, 7079458]

/-- round(32768 cos(2π i / 1024)) for i = 0 to 256 (R163). -/
def cosQuarter : List Nat :=
  [32768, 32767, 32766, 32762, 32758, 32753, 32746, 32738, 32729, 32718, 32706, 32693, 32679, 32664, 32647, 32629, 32610, 32590, 32568]
    ++ [32546, 32522, 32496, 32470, 32442, 32413, 32383, 32352, 32319, 32286, 32251, 32214, 32177, 32138, 32099, 32058, 32015, 31972, 31927]
    ++ [31881, 31834, 31786, 31737, 31686, 31634, 31581, 31527, 31471, 31415, 31357, 31298, 31238, 31177, 31114, 31050, 30986, 30920, 30853]
    ++ [30784, 30715, 30644, 30572, 30499, 30425, 30350, 30274, 30196, 30118, 30038, 29957, 29875, 29792, 29707, 29622, 29535, 29448, 29359]
    ++ [29269, 29178, 29086, 28993, 28899, 28803, 28707, 28610, 28511, 28411, 28311, 28209, 28106, 28002, 27897, 27791, 27684, 27576, 27467]
    ++ [27357, 27246, 27133, 27020, 26906, 26791, 26674, 26557, 26439, 26320, 26199, 26078, 25956, 25833, 25708, 25583, 25457, 25330, 25202]
    ++ [25073, 24943, 24812, 24680, 24548, 24414, 24279, 24144, 24008, 23870, 23732, 23593, 23453, 23312, 23170, 23028, 22884, 22740, 22595]
    ++ [22449, 22302, 22154, 22006, 21856, 21706, 21555, 21403, 21251, 21097, 20943, 20788, 20632, 20475, 20318, 20160, 20001, 19841, 19681]
    ++ [19520, 19358, 19195, 19032, 18868, 18703, 18538, 18372, 18205, 18037, 17869, 17700, 17531, 17361, 17190, 17018, 16846, 16673, 16500]
    ++ [16326, 16151, 15976, 15800, 15624, 15447, 15269, 15091, 14912, 14733, 14553, 14373, 14192, 14010, 13828, 13646, 13463, 13279, 13095]
    ++ [12910, 12725, 12540, 12354, 12167, 11980, 11793, 11605, 11417, 11228, 11039, 10850, 10660, 10469, 10279, 10088, 9896, 9704, 9512]
    ++ [9319, 9127, 8933, 8740, 8546, 8351, 8157, 7962, 7767, 7571, 7376, 7180, 6983, 6787, 6590, 6393, 6195, 5998, 5800]
    ++ [5602, 5404, 5205, 5007, 4808, 4609, 4410, 4211, 4011, 3812, 3612, 3412, 3212, 3012, 2811, 2611, 2411, 2210, 2009]
    ++ [1809, 1608, 1407, 1206, 1005, 804, 603, 402, 201, 0]

/-- round(10^12 · 10^(r / 20)) for r = 0 to 19. -/
def powTable : List Nat :=
  [1000000000000, 1122018454302, 1258925411794, 1412537544623, 1584893192461, 1778279410039, 1995262314969]
    ++ [2238721138568, 2511886431510, 2818382931264, 3162277660168, 3548133892336, 3981071705535, 4466835921510]
    ++ [5011872336273, 5623413251903, 6309573444802, 7079457843841, 7943282347243, 8912509381337]

/-- The integer nearest to the square root of `n / d`. -/
def roundSqrtDiv (n d : Nat) : Nat :=
  if d = 0 then 0
  else
    let r := isqrt (min (n / d) (2 ^ 128 - 1))
    if (2 * r + 1) * (2 * r + 1) * d ≤ 4 * n then r + 1 else r

/-- Component `i` of a point. -/
def pt (l : List Int) (i : Nat) : Int := l.getD i 0

/-- A coordinate of a point from three values. -/
def mapAxes (f : Nat → Int) : List Int := [f 0, f 1, f 2]

/-- The grid (R152): origin, step and count of an axis. -/
def gridOrg (s : State) (a : Nat) : Int :=
  sxt 16 (s.get (match a with | 0 => F.SOLV_GORG0.x0 | 1 => F.SOLV_GORG0.y0 | _ => F.SOLV_GORG1.z0))
def gridStep (s : State) (a : Nat) : Nat :=
  s.get (match a with | 0 => F.SOLV_GSTEP0.sx | 1 => F.SOLV_GSTEP0.sy | _ => F.SOLV_GSTEP1.sz)
def gridCnt (s : State) (a : Nat) : Nat :=
  s.get (match a with | 0 => F.SOLV_GN.nx | 1 => F.SOLV_GN.ny | _ => F.SOLV_GN.nz)

/-- Whether the grid keeps the limits of R152. -/
def gridOk (s : State) : Bool :=
  ([0, 1, 2].all fun a => decide (2 ≤ gridCnt s a) && decide (gridCnt s a ≤ 64) && decide (10 ≤ gridStep s a)
    && decide (gridStep s a ≤ 2000)) && decide (gridCnt s 0 * gridCnt s 1 * gridCnt s 2 ≤ 2048)

/-- The far end of the grid box on an axis, in mm. -/
def gridEnd (s : State) (a : Nat) : Int := gridOrg s a + ((gridCnt s a - 1) * gridStep s a : Nat)

/-- A point in sixteenths of a millimetre clamped into the grid box (R164, R165). -/
def toBox (s : State) (p : List Int) : List Int :=
  mapAxes fun a => clampI (16 * gridOrg s a) (16 * gridEnd s a) (pt p a)

/-- The cell and fraction of a coordinate (R154, R163). -/
def gridCell (s : State) (a : Nat) (x : Int) : Nat × Nat :=
  let u := ((x - 16 * gridOrg s a) * 4096).fdiv (gridStep s a)
  let i := (clampI 0 (gridCnt s a - 2 : Nat) (u.fdiv 65536)).toNat
  (i, (clampI 0 65536 (u - 65536 * i)).toNat)

/-- The component of a model byte (R153). -/
def modelB (b : Byte) : Int :=
  let m : Int := linTable.getD (b.toNat % 128) 0
  if 128 ≤ b.toNat then -m else m

/-- The component of aerial `n` and axis `a` at a point, trilinear, rounded half away from zero (R154). -/
def fieldAt (s : State) (p : List Int) (n a : Nat) : Int :=
  let c := (List.range 3).map fun k => gridCell s k (pt p k)
  let cell := fun k => (c.getD k (0, 0)).1
  let frac := fun k (up : Bool) => if up then (c.getD k (0, 0)).2 else 65536 - (c.getD k (0, 0)).2
  let corner := fun (q : Nat) =>
    let w := divRound (frac 0 (bit q 0) * frac 1 (bit q 1) * frac 2 (bit q 2) : Nat) (2 ^ 32)
    let ix := cell 0 + b2n (bit q 0)
    let iy := cell 1 + b2n (bit q 1)
    let iz := cell 2 + b2n (bit q 2)
    w * modelB (Store.get s.solv.model (((ix + gridCnt s 0 * (iy + gridCnt s 1 * iz)) * 12 + n) * 3 + a))
  divRound ((List.range 8).foldl (fun x q => x + corner q) 0) 65536

/-- The twelve aerials' components at a point. -/
def fieldsAt (s : State) (p : List Int) : List (List Int) :=
  (List.range 12).map fun n => (List.range 3).map fun a => fieldAt s p n a

/-- Cosine and sine of a phase code in Q1.15, +1.0 held as 0x7FFF (R163). -/
def cosQ (ph : Nat) : Int :=
  let i := ph % 1024
  let v : Int :=
    if i ≤ 256 then (cosQuarter.getD i 0 : Nat)
    else if i ≤ 512 then -((cosQuarter.getD (512 - i) 0 : Nat) : Int)
    else if i ≤ 768 then -((cosQuarter.getD (i - 512) 0 : Nat) : Int)
    else (cosQuarter.getD (1024 - i) 0 : Nat)
  min v 32767
def sinQ (ph : Nat) : Int := cosQ (ph + 768)

/-- A value in a signed format of `w` bits (R163); outside its range the spec states no result, and the value is free (log
entry 76). -/
def fitTo (w kind : Nat) (x : Int) : Int :=
  if -(2 ^ (w - 1) : Int) ≤ x ∧ x < 2 ^ (w - 1) then x else sxt w (truncTo w (Config.solvOver kind x))

/-- `k` further binary digits of log2, after `n`, of a mantissa `y` in [1, 2) with 63 fractional bits. -/
def logBits (y n k : Nat) : Nat :=
  match k with
  | 0 => n
  | j + 1 =>
    let q := y * y / 2 ^ 63
    if 2 ^ 64 ≤ q then logBits (q / 2) (2 * n + 1) j else logBits q (2 * n) j

/-- 10 log10 x in units of 1/65536 dB, rounded down within two units: 65536 · 10 log10 2 = 197283.0179…. -/
def dbFine (x : Nat) : Nat :=
  let n := x.log2
  logBits (x * 2 ^ 63 / 2 ^ n) n 32 * 847324110187280 / 2 ^ 64

/-- A level in Q8.8 from its exact value in 1/65536 dB and the table's error, which stays within 0.01 dB: rounded once, half
away from zero (R155, R156, R163). -/
def levelOf (kind key : Nat) (x : Int) : Int :=
  fitTo 16 kind (divRound (x + clampI (-655) 655 (Config.logError key)) 256)

/-- The predicted level in Q8.8 dBµA/m of a period's currents (R155, R163); 0 when the sum is 0. The unit of H_a is
8 mA × µA/m per A, hence 20 log10(0.008) = −41.938 dB. -/
def predLevel (f : List (List Int)) (cur : List (Nat × Nat × Nat)) : Int :=
  let part := fun (a : Nat) (g : Nat → Int) =>
    cur.foldl (fun x e => x + divRound (e.2.1 * g e.2.2 * pt (f.getD e.1 []) a) 32768) (0 : Int)
  let sum := (List.range 3).foldl
    (fun x a => x + (part a cosQ * part a cosQ + part a sinQ * part a sinQ).toNat) 0
  if sum = 0 then 0 else levelOf 2 (2 * sum) (dbFine sum - 2748462)

/-- The measured level in Q8.8 of the axes between 1 and 254 (R156). -/
def measLevel (v : List Nat) : Int :=
  let pw := fun x => powTable.getD ((x - 1) % 20) 0 * 10 ^ ((x - 1) / 20)
  let sum := (v.filter fun x => decide (1 ≤ x) && decide (x ≤ 254)).foldl (fun a x => a + pw x) 0
  if sum = 0 then 0 else levelOf 3 (2 * sum + 1) (dbFine sum - 7864320)

/-- The settings as they act (SOLV_CFG, SOLV_SIG, SOLV_FIELD, SOLV_LM). -/
def itMax (s : State) : Nat := orDefault (s.get F.SOLV_CFG.it_max) 8
def bMax (s : State) : Int := 128 * orDefault (s.get F.SOLV_CFG.b_max) 12
def eClip (s : State) : Int := 16 * orDefault (s.get F.SOLV_CFG.e_clip) 0x80
def sigF (s : State) : Nat := orDefault (s.get F.SOLV_SIG.sig_f) 30
def sigR (s : State) : Nat := orDefault (s.get F.SOLV_SIG.sig_r) 100
def sigA (s : State) : Nat := orDefault (s.get F.SOLV_SIG.sig_a) 100
def minPat (s : State) : Nat := min 32 (max 4 (s.get F.SOLV_FIELD.min_pat))
def diffH (s : State) : Nat := orDefault (s.get F.SOLV_FIELD.h) 16

/-- The offset b at a set of predictions (R158): the mean of the differences, rounded, clamped. -/
def offsetB (s : State) (inp : FixIn) (preds : List Int) : Int :=
  let l := (inp.pats.zip preds).filterMap fun e => match e.1.2 with | some m => some (m - e.2) | none => none
  clampI (-(bMax s)) (bMax s) (divRound (l.foldl (· + ·) 0) l.length)

/-- The field residual of a period in Q8.8 (R157). -/
def fieldE (s : State) (m : Option Int) (pred b : Int) : Int :=
  match m with
  | some v => divRound ((pred + b - v) * 10) (sigF s)
  | none => divRound (max 0 (pred + b - 128 * s.get F.SOLV_FIELD.floor) * 10) (sigF s)

/-- A point in whole millimetres in sixteenths. -/
def to16 (l : List Int) : List Int := mapAxes fun a => 16 * pt l a

/-- A distance in sixteenths of a millimetre (R163). -/
def dist16 (a b : List Int) : Nat := roundSqrtDiv (distSq a b) 1

/-- The range residual of port `k` (R159). -/
def rangeE (s : State) (p : List Int) (k : Nat) (sum : Int) : Int :=
  let d : Int := dist16 p (to16 (posOf s 4)) + dist16 p (to16 (posOf s k))
  divRound ((d * 4096 - sum * 614957) * 256) (65536 * sigR s)

/-- A pair's ports, its vector, and sixteen times its midpoint (R160). -/
def pairVec (s : State) (pair : Nat) : List Int :=
  mapAxes fun a => pt (posOf s (2 * pair + 1)) a - pt (posOf s (2 * pair)) a
def pairMid (s : State) (pair : Nat) : List Int :=
  mapAxes fun a => 8 * (pt (posOf s (2 * pair)) a + pt (posOf s (2 * pair + 1)) a)

/-- A dot product and a squared length. -/
def dot (a b : List Int) : Int := pt a 0 * pt b 0 + pt a 1 * pt b 1 + pt a 2 * pt b 2
def lenSq (a : List Int) : Nat := (dot a a).toNat

/-- `n` carrying the sign of `x`. -/
def withSign (x : Int) (n : Nat) : Int := if x < 0 then -(n : Int) else n

/-- The predicted sine of a pair in Q1.14 (R160, R163); free where the point is the midpoint or the ports coincide. -/
def predSine (s : State) (p : List Int) (pair : Nat) : Int :=
  let w := pairVec s pair
  let v := mapAxes fun a => pt p a - pt (pairMid s pair) a
  let d := dist16 p (pairMid s pair)
  if d = 0 ∨ lenSq w = 0 then clampI (-16384) 16384 (Config.solvFree pair)
  else
    let n := dot w v
    withSign n (roundSqrtDiv ((16384 * n.natAbs) ^ 2) (lenSq w * d * d))

/-- The angle residual of a pair (R160). -/
def angleE (s : State) (p : List Int) (pair : Nat) (sn : Int) : Int :=
  divRound ((predSine s p pair - sn) * 256 * 1000) (16384 * sigA s)

/-- The predictions of a fit's periods at a point; none without a field term. -/
def predsAt (s : State) (f : Fit) (p : List Int) : List Int :=
  if f.noField then [] else let m := fieldsAt s p; f.input.pats.map fun e => predLevel m e.1

/-- The residuals at a point with a given offset: field, range, angle. -/
def residuals (s : State) (f : Fit) (p : List Int) (preds : List Int) (b : Int) : List Int :=
  (if f.noField then [] else (f.input.pats.zip preds).map fun e => fieldE s e.1.2 e.2 b)
    ++ f.input.ranges.map (fun r => rangeE s p r.1 r.2) ++ f.input.angles.map (fun r => angleE s p r.1 r.2)

/-- The cost of a point in Q16.16 (R161). -/
def costOf (s : State) (f : Fit) (p : List Int) : Nat :=
  let preds := predsAt s f p
  let e := (residuals s f p preds (offsetB s f.input preds)).map fun x => clampI (-(eClip s)) (eClip s) x
  min 0xFFFF_FFFF (e.foldl (fun a x => a + (x * x).toNat) 0)

/-- The number of terms and the degrees of freedom (R161, R162). -/
def termCount (f : Fit) : Nat := (if f.noField then 0 else f.input.pats.length) + f.input.ranges.length + f.input.angles.length
def dofOf (f : Fit) : Nat := if f.noField then 3 else 4

/-- A Jacobian entry in Q2.30 (R163). -/
def q30 (x : Int) : Int := fitTo 32 1 x

/-- The point moved by `d` millimetres along an axis. -/
def shiftPt (p : List Int) (a : Nat) (d : Int) : List Int := mapAxes fun k => if k = a then pt p k + 16 * d else pt p k

/-- The rows of the field terms: central differences with b held (R165). -/
def fieldRows (s : State) (f : Fit) (p : List Int) (b : Int) : List (List Int) :=
  let h := diffH s
  let up := (List.range 3).map fun a => predsAt s f (shiftPt p a h)
  let dn := (List.range 3).map fun a => predsAt s f (shiftPt p a (-(h : Int)))
  f.input.pats.zipIdx.map fun e => mapAxes fun a =>
    let hi := fieldE s e.1.2 (pt (up.getD a []) e.2) b
    let lo := fieldE s e.1.2 (pt (dn.getD a []) e.2) b
    q30 (divRound ((hi - lo) * 2 ^ 30) (512 * h))

/-- The row of a range term (R165); a zero distance has no direction, so its part is free. -/
def rangeRow (s : State) (p : List Int) (k : Nat) : List Int :=
  let part := fun (c : List Int) (a : Nat) =>
    let d := dist16 p c
    if d = 0 then (clampI (-(2 ^ 30)) (2 ^ 30) (Config.solvFree (16 + 4 * k + a)), 2 ^ 30) else (pt p a - pt c a, d)
  mapAxes fun a =>
    let u := part (to16 (posOf s 4)) a
    let v := part (to16 (posOf s k)) a
    q30 (divRound ((u.1 * v.2 + v.1 * u.2) * 2 ^ 30) (u.2 * v.2 * sigR s))

/-- The row of an angle term (R165): the gradient of the sine over σ_A; free at the midpoint. -/
def angleRow (s : State) (p : List Int) (pair : Nat) : List Int :=
  let w := pairVec s pair
  let v := mapAxes fun a => pt p a - pt (pairMid s pair) a
  let vv := lenSq v
  if vv = 0 ∨ lenSq w = 0 then mapAxes fun a => q30 (Config.solvFree (64 + 4 * pair + a))
  else mapAxes fun a =>
    let n := pt w a * vv - dot w v * pt v a
    q30 (withSign n (roundSqrtDiv ((2 ^ 30 * 16000 * n.natAbs) ^ 2) (sigA s * sigA s * lenSq w * vv ^ 3)))

/-- Residuals with their rows; a clipped term has a zero row (R161, R165). -/
def rowsAt (s : State) (f : Fit) (p : List Int) : List (Int × List Int) :=
  let preds := predsAt s f p
  let b := offsetB s f.input preds
  let e := residuals s f p preds b
  let rows := (if f.noField then [] else fieldRows s f p b) ++ f.input.ranges.map (fun r => rangeRow s p r.1)
    ++ f.input.angles.map (fun r => angleRow s p r.1)
  (e.zip rows).map fun x => if eClip s < x.1.natAbs then (clampI (-(eClip s)) (eClip s) x.1, [0, 0, 0]) else x

/-- The normal matrix with 56 fractional bits, as its six upper entries (xx, xy, xz, yy, yz, zz), and the gradient, in signed
64 bits (R163). -/
def normalOf (l : List (Int × List Int)) : List Int × List Int :=
  let m := fun a b => fitTo 64 4 (divRound (l.foldl (fun x e => x + pt e.2 a * pt e.2 b) 0) 16)
  ([m 0 0, m 0 1, m 0 2, m 1 1, m 1 2, m 2 2],
    mapAxes fun a => fitTo 64 5 ((l.foldl (fun x e => x + pt e.2 a * e.1) 0) * 2 ^ 18))

/-- Cofactors (upper entries) and determinant of a symmetric matrix. -/
def cofactors (m : List Int) : List Int × Int :=
  let (a, b, c, d, e, f) := (pt m 0, pt m 1, pt m 2, pt m 3, pt m 4, pt m 5)
  let xx := d * f - e * e
  let xy := c * e - b * f
  let xz := b * e - c * d
  ([xx, xy, xz, a * f - c * c, b * c - a * e, a * d - b * b], a * xx + b * xy + c * xz)

/-- Whether a Cholesky factorisation exists. -/
def posDef (m : List Int) : Bool :=
  decide (0 < pt m 0) && decide (0 < pt m 0 * pt m 3 - pt m 1 * pt m 1) && decide (0 < (cofactors m).2)

/-- The step of R165 in sixteenths of a millimetre before clamping, from the damped matrix; free where its Cholesky
factorisation fails, for which the rule states no step (log entry 76). -/
def solveStep (m g : List Int) (lam : Nat) : List Int :=
  let damp := fun x : Int => divRound (x * (1024 + lam)) 1024 + 2 ^ 36
  let m2 := [damp (pt m 0), pt m 1, pt m 2, damp (pt m 3), pt m 4, damp (pt m 5)]
  let (c, det) := cofactors m2
  let row := fun (i j k : Nat) =>
    let n := pt c i * pt g 0 + pt c j * pt g 1 + pt c k * pt g 2
    if posDef m2 then divRound (-(16 * n)) det.toNat else Config.solvOver (8 + i + j + k) det
  [row 0 1 2, row 1 3 4, row 2 4 5]

/-- A part of a paddock: its bounds or its centre and semi-axes, by axis. -/
def partLo (s : State) (p q a : Nat) : Int :=
  sxt 16 (s.get (match a with | 0 => F.SOLV_PAD_W4.lo_x p q | 1 => F.SOLV_PAD_W8.lo_y p q | _ => F.SOLV_PAD_WC.lo_z p q))
def partHi (s : State) (p q a : Nat) : Int :=
  sxt 16 (s.get (match a with | 0 => F.SOLV_PAD_W4.hi_x p q | 1 => F.SOLV_PAD_W8.hi_y p q | _ => F.SOLV_PAD_WC.hi_z p q))
def isEllipsoid (s : State) (p q : Nat) : Bool := s.bitAt (F.SOLV_PAD_W0.ptype p) q

/-- Whether a part contains any point (R173). -/
def partUsable (s : State) (p q : Nat) : Bool :=
  (List.range 3).all fun a => if isEllipsoid s p q then decide (0 < partHi s p q a) else decide (partLo s p q a ≤ partHi s p q a)

/-- The parts of the used paddocks that contain points, by paddock and part. -/
def usedParts (s : State) : List (Nat × Nat) :=
  (List.range 24).flatMap fun p =>
    if paddockUsed s p then
      (List.range (s.get (F.SOLV_PAD_W0.nparts p))).filterMap fun q => if partUsable s p q then some (p, q) else none
    else []

/-- The seeds of R164 with their paddocks, in tie order. -/
def seedsOf (s : State) : List (List Int × Nat) :=
  (usedParts s).map fun e =>
    let c := mapAxes fun a =>
      if isEllipsoid s e.1 e.2 then partLo s e.1 e.2 a else (partLo s e.1 e.2 a + partHi s e.1 e.2 a).fdiv 2
    (toBox s (to16 c), e.1)

/-- The lowest-cost seed; the first on equal cost. -/
def bestSeed (l : List (List Int × Nat × Nat)) : Option (List Int × Nat × Nat) :=
  match l with
  | [] => none
  | x :: t => some (t.foldl (fun a b => if b.2.1 < a.2.1 then b else a) x)

/-- Whether a part contains a point in whole millimetres (R171). -/
def partHas (s : State) (p q : Nat) (x : List Int) : Bool :=
  partUsable s p q &&
    if isEllipsoid s p q then
      let d := mapAxes fun a => pt x a - partLo s p q a
      let (ax, ay, az) := (partHi s p q 0, partHi s p q 1, partHi s p q 2)
      decide ((pt d 0 * ay * az) ^ 2 + (pt d 1 * ax * az) ^ 2 + (pt d 2 * ax * ay) ^ 2 ≤ (ax * ay * az) ^ 2)
    else (List.range 3).all fun a => decide (partLo s p q a ≤ pt x a) && decide (pt x a ≤ partHi s p q a)

/-- The assigned paddock (R172): highest priority, then lowest index; 0xFF for none. -/
def assignPad (s : State) (x : List Int) : Nat :=
  let l := ((usedParts s).filter fun e => partHas s e.1 e.2 x).map (·.1)
  match l with
  | [] => 0xFF
  | p :: t => t.foldl (fun a b => if s.get (F.SOLV_PAD_W0.prio a) < s.get (F.SOLV_PAD_W0.prio b) then b else a) p

/-- The margin within a part that contains the point (R169). -/
def partMargin (s : State) (p q : Nat) (x : List Int) : Int :=
  if isEllipsoid s p q then
    let d := mapAxes fun a => pt x a - partLo s p q a
    let (ax, ay, az) := (partHi s p q 0, partHi s p q 1, partHi s p q 2)
    let m := min ax (min ay az)
    let num := (m * m * ((pt d 0 * ay * az) ^ 2 + (pt d 1 * ax * az) ^ 2 + (pt d 2 * ax * ay) ^ 2)).toNat
    let den := ((ax * ay * az) ^ 2).toNat
    let r := isqrt (num / den)
    m - (if r * r * den = num then r else r + 1)
  else ((List.range 3).map fun a => min (pt x a - partLo s p q a) (partHi s p q a - pt x a)).foldl min 65535

/-- The margin of the assigned paddock: the largest over its parts that contain the point; 0 with none. -/
def marginOf (s : State) (pad : Nat) (x : List Int) : Nat :=
  (((usedParts s).filter fun e => e.1 == pad && partHas s e.1 e.2 x).map fun e => partMargin s e.1 e.2 x).foldl max 0 |>.toNat

/-- σ_p of R168. -/
def sigmaP (s : State) (f : Fit) : Nat :=
  let m := (normalOf (rowsAt s f f.p)).1
  if posDef m then
    let (c, det) := cofactors m
    max 1 (min 0xFFFF (roundSqrtDiv (2 ^ 56 * (pt c 0 + pt c 3 + pt c 5).toNat) det.toNat))
  else 0xFFFF

/-- The confidence of R170. -/
def confOf (s : State) (f : Fit) (pad margin sigma : Nat) : Nat :=
  let n := termCount f
  let k := n - dofOf f
  let f1 := if dofOf f < n then (if f.c ≤ 65536 * k then 255 else 255 * 65536 * k / f.c) else 128
  let f2 := if pad = 0xFF then 0 else min 255 (128 + 127 * margin / sigma)
  let c := (f1 * f2 + 127) / 255
  let c := if f.input.ranges.isEmpty && f.input.angles.isEmpty then min c (s.get F.SOLV_CONF.cap_f) else c
  let c := if f.noField then min c (s.get F.SOLV_CONF.cap_u) else c
  if f.fstat = 5 then min c (s.get F.SOLV_CONF.cap_dl) else c

/-- The triplet of period `j` in the slot's REPORT. -/
def triplet (s : State) (slot j : Nat) : List Nat :=
  (Store.getList s.uhf.quar (128 * (8 + slot) + 3 + 3 * j) 3).map (·.toNat)

/-- The periods of the field term (R157): currents and measured level; excluded ones are left out. -/
def patInputs (s : State) (slot : Nat) : List (List (Nat × Nat × Nat) × Option Int) :=
  (List.range s.lf.npat).filterMap fun j =>
    let v := triplet s slot j
    if s.flag (F.LF_PAT_REC.idle j) ∨ v.contains 255 then none
    else
      let cur := (List.range 12).filterMap fun n =>
        if s.flag (F.LF_IMEAS.valid j n) then some (n, s.get (F.LF_IMEAS.amp j n), s.get (F.LF_IMEAS.phase j n)) else none
      some (cur, if v.all (· == 0) then none else some (measLevel v))

/-- The ports of the range terms (R159). -/
def rangePorts (s : State) (slot : Nat) : List Nat :=
  let ok := fun k => s.bitAt (F.UWB_REC_W0.rr1_ok slot) k && s.bitAt (F.UWB_REC_W0.rr2_ok slot) k
  let l := match s.get F.UWB_CFG.mode with
    | 0 => [refPort s]
    | 2 => [0]
    | _ => [0, 1, 2, 3]
  if s.flag F.SOLV_CFG.use_range then l.filter ok else []

/-- The angle terms (R160). -/
def angleInputs (s : State) (slot : Nat) : List (Nat × Int) :=
  if s.flag F.SOLV_CFG.use_angle ∧ s.get F.UWB_CFG.mode = 0 then
    (if s.flag (F.UWB_REC_W0.val_a slot) ∧ ¬ s.flag (F.UWB_REC_W0.clip_a slot) then
      [(0, sxt 16 (s.get (F.UWB_REC_W18.sin_a slot)))] else [])
    ++ (if s.flag (F.UWB_REC_W0.val_b slot) ∧ ¬ s.flag (F.UWB_REC_W0.clip_b slot) then
      [(1, sxt 16 (s.get (F.UWB_REC_W18.sin_b slot)))] else [])
  else []

/-- A fit with the inputs of R150 read at its start. -/
def fitInputs (s : State) (slot : Nat) : Fit :=
  let pats := if (s.slotT slot).repField then patInputs s slot else []
  let measured := (pats.filter fun e => e.2.isSome).length
  let field := s.flag F.SOLV_CFG.use_field && s.flag F.SOLV_STAT.model_ok && !s.solv.noField && decide (minPat s ≤ measured)
  { slot := slot, noField := !field
    input := { pats := pats, angles := angleInputs s slot
               ranges := (rangePorts s slot).map fun k => (k, fitTo 32 0 (pathSum s slot k)) } }

/-- The seed evaluation (R162, R164): the fit stands at its best seed, or ends NO_INPUT. -/
def seedFit (s : State) (f : Fit) : Fit :=
  let l := (seedsOf s).map fun e => (e.1, costOf s f e.1, e.2)
  if termCount f < dofOf f then { f with fstat := 4, ended := true }
  else
    match bestSeed l with
    | none => { f with fstat := 4, ended := true }
    | some b =>
      let rest := l.filter fun e => e.1 != b.1
      { f with p := b.1, c := b.2.1, seedPad := b.2.2, second := if s.flag F.SOLV_CFG.two_start then bestSeed rest else none }

/-- Sets the solver's part of the state. -/
def State.modSolv (s : State) (g : SolvState → SolvState) : State := { s with solv := g s.solv }

/-- FIX_START (R174, R175): the next queued slot; one past its deadline ends at its best seed. -/
def fixStart (s : State) : State :=
  match s.solv.fit, s.solv.queue with
  | none, i :: t =>
    let f := seedFit s (fitInputs s i)
    let f := if s.solv.late.contains i ∧ f.fstat = 3 then { f with fstat := 5, stop := 5, ended := true } else f
    let s := s.modSolv fun v => { v with queue := t, fit := some f }
    s.sets [(F.SOLV_STAT.queued, t.length), (F.SOLV_STAT.busy, 1), (F.SOLV_STAT.slot, i), (F.SOLV_FIX_W0.fstat i, 2)]
  | _, _ => s

def execFixStart (s : State) : Host.Outcome State Fault Refusal := .next (fixStart s)

/-- A start has stopped (R166): the second start begins, or the lower cost is kept. -/
def startOver (f : Fit) (stop : Nat) : Fit :=
  match f.first, f.second with
  | none, some (p, c, pad) =>
    { f with first := some (f.p, f.c, f.seedPad, stop), second := none, p := p, c := c, seedPad := pad, lam := 64, it := 0 }
  | some (p, c, pad, st), _ =>
    if c ≤ f.c then { f with p := p, c := c, seedPad := pad, stop := st, ended := true } else { f with stop := stop, ended := true }
  | none, none => { f with stop := stop, ended := true }

/-- A fit stops at the end of its iteration for a deadline, a cut or an abort (R175, R177): the lower of both starts stays. One
stopped in its seed evaluation stands at its best seed. -/
def fitStopped (f : Fit) : Fit :=
  { startOver { f with second := none } (if f.fstat = 5 then 5 else 6) with stop := if f.fstat = 5 then 5 else 6 }

/-- One trial step of R165. -/
def trialStep (s : State) (f : Fit) : Fit :=
  let n := normalOf (rowsAt s f f.p)
  let lim : Int := 16 * orDefault (s.get F.SOLV_LM.step_max) 200
  let d := (solveStep n.1 n.2 f.lam).map fun x => clampI (-lim) lim x
  let q := toBox s (mapAxes fun a => pt f.p a + pt d a)
  let cq := costOf s f q
  let f := { f with it := f.it + 1, iters := f.iters + 1 }
  let stop :=
    if cq < f.c then
      if (d.map (·.natAbs)).foldl max 0 < 16 * orDefault (s.get F.SOLV_LM.conv_mm) 2 then 1
      else if 256 * (f.c - cq) < cq then 2 else 0
    else if 1024 * 1024 < f.lam * 4 then 4 else 0
  let g := if cq < f.c then { f with p := q, c := cq, lam := max (f.lam / 4) 1 } else { f with lam := f.lam * 4 }
  if g.fstat ≠ 3 then fitStopped g
  else if stop ≠ 0 then startOver g stop
  else if itMax s ≤ g.it then startOver g 3
  else g

/-- A model parity error met in the fit (R178): the field term is dropped, and with it from every cost the fit has kept. -/
def dropField (s : State) (f : Fit) : State × Fit :=
  let s := healthFault ((s.set F.SOLV_STAT.model_err 1).set F.SOLV_STAT.model_ok 0) F.HLTH_EVT.model
  let s := s.modSolv fun v => { v with noField := true }
  let f := { f with noField := true }
  if termCount f < dofOf f then (s, { f with fstat := 4, ended := true })
  else (s, { f with
    c := costOf s f f.p
    first := f.first.map fun (p, _, pad, st) => (p, costOf s f p, pad, st)
    second := f.second.map fun (p, _, pad) => (p, costOf s f p, pad) })

/-- FIX_ITERATION (R165, R178). -/
def fixIteration (s : State) (parityErr : Bool) : State :=
  match s.solv.fit with
  | some f =>
    if f.ended then s
    else
      let (s, f) := if parityErr && !f.noField then dropField s f else (s, f)
      let f := if f.ended then f else trialStep s f
      s.modSolv fun v => { v with fit := some f }
  | none => s

def execFixIteration (parityErr : Bool) (s : State) : Host.Outcome State Fault Refusal := .next (fixIteration s parityErr)

/-- The record of an ended fit (R167 to R170, R177, SOLV_FIXs). -/
def fixFields (s : State) (f : Fit) (elapsed : Nat) : List (Fld × Nat) :=
  let i := f.slot
  let none_ := f.fstat == 4
  let x := if none_ then [0, 0, 0] else mapAxes fun a => fitTo 16 6 (divRound (pt f.p a) 16)
  let cut := f.fstat == 6 || f.fstat == 7
  let pad := if none_ || cut then 0xFF else assignPad s x
  let margin := if pad = 0xFF then 0 else min 0xFFFF (marginOf s pad x)
  let sigma := if none_ then 0 else sigmaP s f
  let preds := predsAt s f f.p
  let b := if none_ ∨ f.noField then 0 else offsetB s f.input preds
  let face := !none_ && (List.range 3).any fun a => pt f.p a == 16 * gridOrg s a || pt f.p a == 16 * gridEnd s a
  [(F.SOLV_FIX_W0.fstat i, f.fstat), (F.SOLV_FIX_W0.no_field i, b2n f.noField),
    (F.SOLV_FIX_W0.no_uwb i, b2n (f.input.ranges.isEmpty && f.input.angles.isEmpty)), (F.SOLV_FIX_W0.edge i, b2n face),
    (F.SOLV_FIX_W0.paddock i, pad), (F.SOLV_FIX_W0.conf i, if none_ || cut then 0 else confOf s f pad margin sigma),
    (F.SOLV_FIX_W0.iter i, f.iters), (F.SOLV_FIX_W0.stop i, f.stop), (F.SOLV_FIX_W4.x i, truncTo 16 (pt x 0)),
    (F.SOLV_FIX_W4.y i, truncTo 16 (pt x 1)), (F.SOLV_FIX_W8.z i, truncTo 16 (pt x 2)),
    (F.SOLV_FIX_W8.resid i, if none_ then 0xFFFF else min 0xFFFF (roundSqrtDiv f.c (termCount f))),
    (F.SOLV_FIX_WC.sigma_p i, sigma), (F.SOLV_FIX_WC.margin i, margin), (F.SOLV_FIX_W10.b i, truncTo 16 b),
    (F.SOLV_FIX_W10.n_field i, if f.noField then 0 else (f.input.pats.filter fun e => e.2.isSome).length),
    (F.SOLV_FIX_W10.n_range i, f.input.ranges.length), (F.SOLV_FIX_W10.n_angle i, f.input.angles.length),
    (F.SOLV_FIX_W14.cost i, if none_ then 0 else f.c), (F.SOLV_FIX_W18.elapsed i, elapsed),
    (F.SOLV_FIX_W18.seed_pad i, if none_ then 0 else f.seedPad)]

/-- A fix becomes final: counted, event source 0x0C (R316). -/
def fixEnds (s : State) (fstat : Nat) : State :=
  let s := s.bump F.SOLV_CNT.fixes
  raiseSource (if fstat = 5 then s.bump F.SOLV_CNT.deadline else s) 0x0C

/-- FIX_DONE (R167): the record is written. A fit that is to stop before its first trial step stops in its seed evaluation
(R177). -/
def fixDone (s : State) (elapsed : BitVec 16) : State :=
  match s.solv.fit with
  | some f =>
    let f := if ¬ f.ended ∧ f.fstat ≠ 3 ∧ f.iters = 0 then fitStopped f else f
    if f.ended then
      let s := (s.sets (fixFields s f elapsed.toNat)).set F.SOLV_STAT.busy 0
      fixEnds (s.modSolv fun v => { v with fit := none }) f.fstat
    else s
  | none => s

def execFixDone (elapsed : BitVec 16) (s : State) : Host.Outcome State Fault Refusal := .next (fixDone s elapsed)

/-- The fit in progress is to end with a status at the end of its iteration. -/
def fitEnding (s : State) (fstat : Nat) : State :=
  s.modSolv fun v => { v with fit := v.fit.map fun f => if f.ended then f else { f with fstat := fstat } }

/-- FIX_DEADLINE (R175): the deadline is known once T_END has been captured. -/
def fixDeadline (s : State) (i : Fin 8) : State :=
  if s.txn.tEnd then
    let s := s.modSolv fun v => { v with late := i.val :: v.late }
    match s.solv.fit with
    | some f => if f.slot = i.val ∧ f.fstat = 3 then fitEnding s 5 else s
    | none => s
  else s

def execFixDeadline (i : Fin 8) (s : State) : Host.Outcome State Fault Refusal := .next (fixDeadline s i)

/-- Every queued fix ends with a status at position 0 (R177); its elapsed time is free. -/
def dropQueued (s : State) (fstat : Nat) : State :=
  let l := s.solv.queue
  let s := (s.modSolv fun v => { v with queue := [] }).set F.SOLV_STAT.queued 0
  l.foldl
    (fun t i =>
      let (k, t) := t.fresh
      fixEnds (t.sets [(F.SOLV_FIX_W0.fstat i, fstat), (F.SOLV_FIX_W18.elapsed i, (Config.freeWord k).toNat)]) fstat) s

/-- The fit in progress and the queued fixes end CUT (R177). -/
def solvCut (s : State) : State :=
  if s.solv.fit.isNone ∧ s.solv.queue = [] then s else dropQueued (fitEnding (s.set F.SOLV_STAT.cut 1) 6) 6

/-- SOLV_EN_WRITE (R177): 0 cuts solver work. -/
def solvEnWrite (s : State) (v : Bool) : State :=
  let s := s.put F.SOLV_CTRL.en v
  if v then s else solvCut s

def execSolvEnWrite (v : Bool) (s : State) : Host.Outcome State Fault Refusal := .next (onDom s 2 (solvEnWrite s v))

/-- SOLV_ABORT (R177): an abort that meets the completion of the fit leaves it DONE with abort_late. -/
def solvAbort (s : State) (atCompletion : Bool) : State :=
  match s.solv.fit with
  | some f =>
    if atCompletion ∧ f.ended then (s.set (F.SOLV_FIX_W0.abort_late f.slot) 1).set F.SOLV_STAT.abort_late 1
    else dropQueued (fitEnding s 7) 7
  | none => dropQueued s 7

def execSolvAbort (atCompletion : Bool) (s : State) : Host.Outcome State Fault Refusal := .next (onDom s 2 (solvAbort s atCompletion))

/-- The size of the model store (R152). -/
def modelSize : Nat := 73728

/-- SOLV_MDATA_ACCESS (R152, R353): a read or a write of four model bytes; a locked store keeps its bytes; addr moves on by 4. -/
def solvMdataAccess (s : State) (write : Option Word) : State :=
  let a := s.get F.SOLV_MADDR.addr / 4 * 4
  let s := match write with
    | some w =>
      if a < modelSize ∧ ¬ s.flag F.YARD_PSTAT.locked then s.modSolv fun v => { v with model := Mem.putWord v.model a w } else s
    | none => s
  s.set F.SOLV_MADDR.addr (a + 4)

/-- What a read of SOLV_MDATA returns. -/
def solvMdata (s : State) : Word :=
  let a := s.get F.SOLV_MADDR.addr / 4 * 4
  if a < modelSize then Mem.word s.solv.model a else 0

end Sys2Proof.Machine
end

