-- ==== Sys2Proof/Machine/Dom.lean ====
section
/-!
DEFINITION. Power domains and their clocks (R402 to R407): switching on, release, switching off, and what a domain loses.
-/
namespace Sys2Proof.Machine

/-- The host link becomes unbound (R381, R385): it draws a new dnonce from the next block of the host port. -/
def hostUnbind (s : State) (lost : Bool) : State :=
  let s := s.sets [(F.HOST_STAT.bound, 0), (F.HOST_STAT.nonce_ok, 0), (F.HOST_SEQ.seq, 0)]
  if lost then s.set F.HOST_IRQSTAT.bind_lost 1 else s

/-- The link's own state after a reset of the link or of its domain (R381, R400). -/
def hostLose (s : State) : State := hostUnbind { s with host := {} } false

/-- The own clock of a domain, the first listed for it (R401); none for PD_HIO in SPI form, whose clock is SCK. -/
def ownClock (s : State) (d : Nat) : Option Nat :=
  match d with
  | 1 => some 1
  | 2 => some 3
  | 3 => some 4
  | 4 => some 5
  | 5 => some 5
  | 6 => some 6
  | 7 => some 7
  | 8 => if s.flag F.HOST_STAT.form then some 9 else none
  | 9 => some 10
  | _ => some 0

/-- Whether a domain has power-good. -/
def powered (s : State) (d : Nat) : Bool := s.bitAt F.PWR_DOM_STAT.pg d

/-- Whether a clock's generator runs (R407, R427). -/
def clkRuns (s : State) (c : Nat) : Bool :=
  let form := s.flag F.HOST_STAT.form
  let pllC := powered s 6 || (form && powered s 8)
  match c with
  | 0 => true
  | 1 => powered s 1
  | 2 => s.get F.RST_STAT.step != 11 || [1, 2, 4, 5, 6, 7].any (powered s) || pllC
  | 3 => powered s 2
  | 4 => powered s 3
  | 5 => [1, 4, 5].any (powered s)
  | 6 => pllC
  | 7 => powered s 7
  | 8 => powered s 7
  | 9 => form && pllC
  | 10 => powered s 9
  | _ => false

/-- Whether a domain's rail is above its brown-out level (R401, R421). -/
def railUp (s : State) (d : Nat) : Bool :=
  if d = 0 then true else if d = 2 ∨ d = 3 then !s.rst.bor18 else !s.rst.bor33

/-- The link accepts frames and takes its balls (R398, R430). -/
def linkReady (s : State) : State :=
  let s := (hostLose s).sets [(F.HOST_STAT.ready, 1), (F.HOST_IRQSTAT.rdy, 1)]
  { s with tap := { s.tap with fused := s.tap.fused &&& 0xE0F_FFFF } }

/-- What a domain's release starts (R70, R93, R115, R123, R276, R281, R381, R398). -/
def domStart (s : State) (d : Nat) : State :=
  match d with
  | 1 => burstBanks s
  | 3 => ({ s with rng := { held := s.rng.held } } : State).set F.RNG_CTRL.en 1
  | 4 => calBegin (if planRuns s || !domOn s 2 then aerTake s false else s)
  | 5 => calBegin (if planRuns s || !domOn s 2 then aerTake s true else s)
  | 6 => manAllocate (settleRx s)
  | 7 => manAllocate (counterClear s)
  | 8 => linkReady s
  | _ => s

/-- The release order (R425). -/
def releaseOrder : List Nat := [9, 3, 2, 8, 6, 7, 4, 5, 1]

/-- The domain being released, while the sequence runs. -/
def seqDomain (s : State) : Option Nat :=
  let st := s.get F.RST_STAT.step
  if 2 ≤ st ∧ st ≤ 10 then releaseOrder[st - 2]? else none

/-- A latched tamper halts the sequence before PD_TACK (R434); a PD_TACK that was being switched on returns to off. -/
def tamperHalt (s : State) : State :=
  let s : State := setDom (s.putBit F.PWR_DOM_STAT.pg 3 false) 3 {}
  let s : State := { s with rst := { s.rst with gap := false } }
  s.sets [(F.RST_STAT.step, 12), (F.RST_STAT.tamper_halt, 1), (F.RST_CAUSE.tamper, 1)]

/-- The sequence goes on after a domain: a gap, or its end (R425). -/
def seqNext (s : State) : State :=
  if s.rst.pos = 8 then { s.set F.RST_STAT.step 11 with rst := { s.rst with wake := false, gap := false } }
  else { s with rst := { s.rst with gap := true } }

/-- The clamps open and the domain's reset is released (R403); a switch-off that waited for it begins (R405). -/
def domRelease (s : State) (d : Nat) : State :=
  let off := (s.doms.getD d {}).held
  let s := domStart ((setDom s d { phase := .on }).putBit F.PWR_DOM_STAT.run d true) d
  let s := if seqDomain s = some d then seqNext s else s
  if off then domUnwant s d else s

/-- DOMAIN_SWITCH_ON (R402, R403): while PD_CORE is on, after the release sequence; an OFF domain is not switched on while a
plan runs. The sequence and the bursts switch their domains on themselves. -/
def domainSwitchOn (s : State) (d : Fin 10) : State :=
  if d.val ≠ 0 ∧ s.get F.RST_STAT.step = 11 ∧ domOn s 2 ∧ ¬ s.bitAt F.RST_STAT.held d
      ∧ ¬ (s.yard.applied ∧ domPolicy s d = 2) then domWant s d
  else s

def execDomainSwitchOn (d : Fin 10) (s : State) : Host.Outcome State Fault Refusal := .next (domainSwitchOn s d)

/-- POWER_GOOD (R403): the generators start; a domain whose own clock is good already is released. PD_STOR waits for the end
of a power-fail store (R294). -/
def powerGood (s : State) (d : Fin 10) : State :=
  let p := s.doms.getD d {}
  if p.phase = .switchOn ∧ railUp s d ∧ ¬ (d.val = 9 ∧ s.loft.pf) then
    let s := (setDom s d { p with phase := .waitClock }).putBit F.PWR_DOM_STAT.pg d true
    match ownClock s d with
    | some c => if s.bitAt F.CLK_STAT.good c then domRelease s d else s
    | none => domRelease s d
  else s

def execPowerGood (d : Fin 10) (s : State) : Host.Outcome State Fault Refusal := .next (powerGood s d)

/-- The domains that wait for a clock of their own are released, but for the held ones (R403, R426). -/
def clockRelease (s : State) (c : Nat) : State :=
  (List.range 10).foldl
    (fun t d =>
      if (t.doms.getD d {}).phase = .waitClock ∧ ownClock t d = some c ∧ ¬ t.bitAt F.RST_STAT.held d then domRelease t d
      else t) s

/-- A clock reads good and its bad windows are forgotten. -/
def clockUp (s : State) (c : Nat) : State :=
  let s := s.putBit F.CLK_STAT.good c true
  { s with man := { s.man with badWin := s.man.badWin.set c 0 } }

/-- CLOCK_GOOD (R403, R406, R427): STMP comes with UWB; AON releases the blocks it clocks; REF lets the reset controller
go on. -/
def clockGood (s : State) (c : Fin 12) : State :=
  let needsRef := c.val = 3 ∨ (5 ≤ c.val ∧ c.val ≤ 9)
  if ¬ clkRuns s c ∨ (needsRef ∧ ¬ s.bitAt F.CLK_STAT.good 2) then s
  else
    let s := clockUp s c
    match c.val with
    | 0 => s.set F.RST_STAT.aon_wait 0
    | 2 => if s.get F.RST_STAT.step = 13 then (if s.rst.wake then startRelease s else startTrim s) else s
    | 7 => updReady (clockRelease (clockUp s 8) 7)
    | 8 => updReady s
    | n => clockRelease s n

def execClockGood (c : Fin 12) (s : State) : Host.Outcome State Fault Refusal := .next (clockGood s c)

/-- CLOCK_GOOD_TIMEOUT (R426): the domain that waits is held and the sequence goes on. -/
def clockGoodTimeout (s : State) : State :=
  match (List.range 10).find? fun d => (s.doms.getD d {}).phase == .waitClock && !s.bitAt F.RST_STAT.held d with
  | some d =>
    let s := (s.putBit F.RST_STAT.held d true).set F.RST_CAUSE.clk_loss 1
    let s := (s.set F.CLK_LOSS.domain ((ownClock s d).getD 9)).set F.CLK_LOSS.valid 1
    if seqDomain s = some d then seqNext s else s
  | none => s

def execClockGoodTimeout (s : State) : Host.Outcome State Fault Refusal := .next (clockGoodTimeout s)

/-- An operation in flight is to end CUT at its block boundary (R267, R404). -/
def cutOps (s : State) : State :=
  settleOps { s with ciph := { s.ciph with
    cut := s.ciph.ops.map (·.who)
    ops := s.ciph.ops.map fun o => { o with ending := some (o.ending.getD stCut) } } }

/-- A switch-off request meets the domain's blocks, which end their work at their boundaries (R22, R97, R117, R146, R177,
R211, R267, R404). -/
def cutBlocks (s : State) (d : Nat) : State :=
  match d with
  | 1 => bankCut s
  | 2 => solvCut s
  | 3 => cutOps s
  | 4 => bankCut s
  | 5 => bankCut s
  | 6 =>
    let a := s.get F.UHF_CTRL.u0_en
    let b := s.get F.UHF_CTRL.u1_en
    let s := uEnWrite (uEnWrite s false false) true false
    (s.set F.UHF_CTRL.u0_en a).set F.UHF_CTRL.u1_en b
  | 7 =>
    let a := s.get F.UWB_CTRL.rf_en
    (rfEnWrite s false).set F.UWB_CTRL.rf_en a
  | 8 => endSessions s endDisabled
  | _ => s

/-- A switch-off request (R404, R405). -/
def offRequest (s : State) (d : Nat) : State :=
  if (s.doms.getD d {}).phase = .on then domUnwant (cutBlocks s d) d else domUnwant s d

/-- Whether work for an AUTO domain is open or latched (R402). -/
def workOpen (s : State) (d : Nat) : Bool :=
  s.txn.open_ || !s.sess.trigs.isEmpty || (if d = 7 then s.uwb.calRun || s.uwb.tscalRun
    else if d = 6 then s.poll.burst != .idle else lfOwner s != ownIdle)

/-- Whether a plan's policy lets a domain be switched off while PD_CORE is on (R402). -/
def offAllowed (s : State) (d : Nat) : Bool :=
  decide (4 ≤ d) && decide (d ≤ 7) && s.yard.applied
    && (domPolicy s d == 2 || (domPolicy s d == 1 && !workOpen s d))

/-- DOMAIN_SWITCH_OFF (R402, R404): banks and radios whose policy is OFF, or AUTO without work. STANDBY switches the domains
off by its own command. -/
def domainSwitchOff (s : State) (d : Fin 10) : State := if offAllowed s d then offRequest s d else s

def execDomainSwitchOff (d : Fin 10) (s : State) : Host.Outcome State Fault Refusal := .next (domainSwitchOff s d)

/-- AUTO_HOLD_EXPIRY (R402). -/
def autoHoldExpiry (s : State) (d : Fin 10) : State :=
  if domPolicy s d = 1 ∧ offAllowed s d ∧ domOn s d then offRequest s d else s

def execAutoHoldExpiry (d : Fin 10) (s : State) : Host.Outcome State Fault Refusal := .next (autoHoldExpiry s d)

/-- STANDBY_ENTER (R235): the store has ended, so every domain but PD_AON switches off. -/
def standbyEnter (s : State) : State :=
  if s.poll.sleepReq ∧ storeOver s wtSleep then
    let s := s.modPoll fun p => { p with sleepReq := false, planRan := s.yard.applied }
    [1, 2, 3, 4, 5, 6, 7, 8, 9].foldl offRequest (s.set F.POLL_STAT.state 1)
  else s

def execStandbyEnter (s : State) : Host.Outcome State Fault Refusal := .next (standbyEnter s)

/-- Whether every block of the domain has reached its boundary (R404). -/
def domQuiet (s : State) (d : Nat) : Bool :=
  match d with
  | 1 => !driving s && s.lf.stage != .listen
  | 2 => s.solv.fit.isNone
  | 3 => s.ciph.cores.all (·.isNone)
  | 4 => !driving s
  | 5 => !driving s
  | 6 => s.uhf.open_.isEmpty && s.uhf.sync.isEmpty && s.lf.stage != .listen
  | 7 => s.uwb.exch.isNone && !s.uwb.calRun
  | 9 => s.loft.commit.isNone && s.loft.store.isNone
  | _ => true

/-- The register ranges of a domain's blocks (R26): first address and length. The domain status, the tamper registers and
the wake inputs stand in PD_AON or must show the switch-off. -/
def domRanges (d : Nat) : List (Nat × Nat) :=
  match d with
  | 1 => [(0x05_0000, 0x1_0000)]
  | 2 => [(0x00_0000, 0x1_0000), (0x02_000C, 0xFFF4), (0x06_0400, 0xFC00), (0x08_0000, 0x3_0000), (0x10_0000, 0x2_0000),
      (0x13_0000, 0x40), (0x13_0050, 0xFFB0)]
  | 3 => [(0x0C_0000, 0x3_0000)]
  | 6 => [(0x06_0000, 0x400)]
  | 7 => [(0x07_0000, 0x1_0000)]
  | 8 => [(0x12_0000, 0x1_0000)]
  | _ => []

/-- The fields a power-off returns to their reset values: not those of scope por only, nor those that trims and plan give. -/
def offScope (f : FRow) : Bool :=
  f.scope != .por && (match f.rst with | .num _ => true | _ => false)

/-- Registers of ranges restored by a reset. -/
def resetRanges (s : State) (l : List (Nat × Nat)) (p : FRow → Bool) : State :=
  { s with regs := l.foldl (fun m r => resetRange m r.1 r.2 p) s.regs }

/-- Every handle, operation and pool is lost with the registers of the tack room (R267); what was in flight at the switch-off
request reads CUT after release. -/
def tackLose (s : State) : State :=
  let l := s.ciph.cut ++ s.ciph.ops.map (·.who)
  let s := resetRanges (wipeSlots (endAllOps s stCut)) (domRanges 3) offScope
  let s : State := { s with
    ciph := { ended := s.ciph.ended }, keys := { s.keys with kt := 0, ktMask := 0, lcPend := none, lcWait := false, woutRead := 0 } }
  let s := l.foldl (fun t u => userStatus t u stCut) s
  (List.range 6).foldl (fun t n => t.set (F.KEYS_WOUT.w n) 0) s

/-- What a domain's blocks lose with their supply (R15, R133, R213, R267, R281, R304, R400). -/
def domLose (s : State) (d : Nat) : State :=
  let locked := s.get F.YARD_PSTAT.locked
  let s := if d = 3 then s else resetRanges s (domRanges d) offScope
  match d with
  | 1 => { s with lf := {}, uhf := { s.uhf with pollLatch := none } }
  | 2 =>
    let h := s.hlth
    let s : State := { s with
      solv := {}, txn := {}, verdPulse := false, sess := {}, eng := List.replicate 8 {}, yard := {}, feed := []
      man := { s.man with queue := [], above := false }, uhf := { s.uhf with quar := [] }
      hlth := { tmpRun := h.tmpRun, lfsr := h.lfsr, cold := h.cold, hot := h.hot } }
    let s : State := { s with tap := { s.tap with fused := s.tap.fused ||| 0xE00_0000 } }
    s.set F.YARD_PSTAT.locked locked
  | 3 => rngLose (tackLose s) fun u => u != .keyTree && u != .pools
  | 4 => aerFuse s false
  | 5 => aerFuse s true
  | 6 => settleRx { s with uhf := { s.uhf with open_ := [], sync := [] } }
  | 7 => { counterClear s with uwb := {} }
  | 8 =>
    let s := hostLose s
    { s with tap := { s.tap with fused := s.tap.fused ||| 0x1F0_0000 } }
  | 9 => storPowerOff s
  | _ => s

/-- Clocks whose generator has stopped read not good (R404, R409). -/
def clocksStop (s : State) : State :=
  (List.range 12).foldl (fun t c => if clkRuns t c then t else t.putBit F.CLK_STAT.good c false) s

/-- DOMAIN_OFF_PROCEED (R404, R405): grants are released, the domain loses its supply, and a switch-on that was held
begins. -/
def domainOffProceed (s : State) (d : Fin 10) : State :=
  if (s.doms.getD d {}).phase = .switchOff ∧ domQuiet s d then
    let s := (s.putBit F.PWR_DOM_STAT.run d false).putBit F.PWR_DOM_STAT.pg d false
    let s := clocksStop (domLose s d)
    let s := if domOn s 2 then manAllocate s else s
    setDom s d { phase := if (s.doms.getD d {}).held then .switchOn else .off }
  else s

def execDomainOffProceed (d : Fin 10) (s : State) : Host.Outcome State Fault Refusal := .next (domainOffProceed s d)

end Sys2Proof.Machine
end

