-- ==== Sys2Proof/Machine/GroomBase.lean ====
section
/-!
DEFINITION. What the plan loader does to an engine (R307, R324, R326 to R328), engine faults (R323), CORE cycles (R306) and
the quiet point (R20).
-/
namespace Sys2Proof.Machine

/-- GROOM_STAT.state codes. -/
def gIdle : Nat := 0
def gLoading : Nat := 1
def gRun : Nat := 2
def gWait : Nat := 3
def gHalt : Nat := 4
def gFault : Nat := 5

/-- Fault codes (R323). -/
def fltIllegal : Nat := 1
def fltAlign : Nat := 2
def fltRoute : Nat := 3
def fltImemWr : Nat := 4
def fltEcc : Nat := 5
def fltWdog : Nat := 6
def fltWdkey : Nat := 7

/-- Changes the yard. -/
def State.modYard (s : State) (f : YardState → YardState) : State := { s with yard := f s.yard }

/-- An engine's state and stall (GROOM_STAT). -/
def engState (s : State) (e : Nat) : Nat := s.get (F.GROOM_STAT.state e)
def setEngState (s : State) (e v : Nat) : State := s.set (F.GROOM_STAT.state e) v
def stallOf (s : State) (e : Nat) : Nat := s.get (F.GROOM_STAT.stall e)

/-- The descriptor of a stall of the running plan. -/
def stallDesc (s : State) (q : Nat) : Option StallDesc := s.yard.stalls.find? fun d => d.index == q

/-- An operation of an engine in flight ends as by an abort (R267, R327). -/
def abortOp (s : State) (u : KeyUser) : State :=
  if s.ciph.cores.contains (some u) then
    { s with ciph := { s.ciph with
        ops := s.ciph.ops.map fun o => if o.who = u then { o with ending := some (o.ending.getD stAborted) } else o } }
  else
    match opOf s u with
    | some _ => endOp s u stAborted
    | none => s

/-- Every handle an engine owns is freed with its descendants (R256, R327). -/
def freeEngineHandles (s : State) (e : Nat) : State :=
  (List.range 48).foldl
    (fun t h => if (keySlot t h).live ∧ (keySlot t h).owner = e then freeSlotTree t h else t) s

/-- A stall is stopped (R327). -/
def stopStall (s : State) (e : Fin 8) : State :=
  let s := dropGather s (e + 1)
  let s := abortOp (abortOp s (.ech e)) (.der e)
  let s := freeEngineHandles s e
  let s := if domOn s 3 then rngRequest (clearPort s (some e)) (.enginePort e) false else s
  s.modEng e fun g => { g with evpend := 0, evmask := 0, ie := false }

/-- An engine without a stall: zeroed and IDLE (R327). -/
def idleEngine (s : State) (e fault : Nat) : State :=
  let s : State := { s with eng := s.eng.set e {} }
  s.sets [(F.GROOM_STAT.state e, gIdle), (F.GROOM_STAT.stall e, 15), (F.GROOM_STAT.fault e, fault),
    (F.GROOM_STAT.restarts e, 0), (F.GROOM_STAT.yerr e, 0), (F.GROOM_STAT.reload_pend e, 0), (F.GROOM_STAT.move_pend e, 0),
    (F.GROOM_WD.period e, 0), (F.GROOM_WD.left e, 0)]

/-- An engine is held in LOADING for a stall, zeroed (R326). -/
def loadEngine (s : State) (e q restarts : Nat) : State :=
  let s := idleEngine s e 0
  let s := s.sets [(F.GROOM_STAT.state e, gLoading), (F.GROOM_STAT.stall e, q), (F.GROOM_STAT.restarts e, restarts)]
  s.set (F.YARD_STALL.engine q) 15

/-- Watchdog period of a stall in ms (R321). -/
def wdPeriod (d : StallDesc) : Nat := orDefault d.wd 100

/-- An engine is released at its stall's entry (R307, R326). -/
def releaseEngine (s : State) (e : Nat) (d : StallDesc) (image data : Mem) : State :=
  let g : Engine := { x := [(14, 0x1000_2000)], pc := BitVec.ofNat 32 d.entry, imem := image, dmem := data }
  let s : State := { s with eng := s.eng.set e g }
  let s := s.sets [(F.GROOM_STAT.state e, gRun), (F.GROOM_WD.period e, d.wd), (F.GROOM_WD.left e, wdPeriod d),
    (F.YARD_STALL.engine d.index, e)]
  s.bump (F.GROOM_CNT.loads e)

/-- A reload or a move of an engine's stall is requested; it replaces an earlier request (R328). -/
def requestRestart (s : State) (e : Nat) (move : Bool) (target : Option Nat) : State :=
  let s := (s.put (F.GROOM_STAT.reload_pend e) (!move)).put (F.GROOM_STAT.move_pend e) move
  s.modYard fun y => { y with moves := y.moves.filter (fun m => m.1 != e) ++ (if move then [(e, target)] else []) }

/-- An escalated fault requests the chip reset (R324, R420). -/
def escalate (s : State) : State := chipReset s F.RST_CAUSE.eng_wdog

/-- The recovery policy after a fault (R324). -/
def recover (s : State) (e : Nat) : State :=
  match stallDesc s (stallOf s e) with
  | none => s
  | some d =>
    let r := s.get (F.GROOM_STAT.restarts e)
    if d.policy = 3 then escalate s
    else if d.policy = 0 then s
    else if d.rmax ≤ r then escalate s
    else requestRestart (s.set (F.GROOM_STAT.restarts e) (r + 1)) e (d.policy == 2) none

/-- A fault stops the engine at the faulting instruction (R323, R324, R447). -/
def engineFault (s : State) (e code addr : Nat) : State :=
  let s := s.sets [(F.GROOM_STAT.state e, gFault), (F.GROOM_STAT.fault e, code),
    (F.GROOM_FPC.fpc e, (s.engine e).pc.toNat), (F.GROOM_FADDR.faddr e, addr)]
  let s := healthFault (s.bump (F.GROOM_CNT.faults e)) F.HLTH_EVT.groom
  recover (tallyEvent s 0x0E) e

/-- How often a cycle count has passed into a compare value. -/
def tcmpPasses (cyc tcmp : Nat) : Nat := (cyc + 2 ^ 32 - tcmp) / 2 ^ 32

/-- Whether CYCLE passes into TCMP within the next cycles, given in eighths (R316). -/
def tcmpHit (s : State) (e eighths : Nat) : Bool :=
  let g := s.engine e
  decide (tcmpPasses (g.cyc8 / 8) g.tcmp.toNat < tcmpPasses ((g.cyc8 + eighths) / 8) g.tcmp.toNat)

/-- CORE cycles pass for an engine, in eighths; passing into TCMP raises line 4 (R306, R316). -/
def addCycles (s : State) (e eighths : Nat) : State :=
  s.modEng e fun g =>
    { g with cyc8 := g.cyc8 + eighths, evpend := if tcmpHit s e eighths then setBit g.evpend 4 else g.evpend }

end Sys2Proof.Machine
end

