-- ==== Sys2Proof/Machine/Tally.lean ====
section
/-!
DEFINITION. The tally counters (chapter 15): counting, chains, freezing, capture and compare.
-/
namespace Sys2Proof.Machine

/-- Changes one counter beyond its registers. -/
def State.modTally (s : State) (n : Nat) (f : TallyCtr → TallyCtr) : State := { s with tally := s.tally.modify n f }

/-- The clock domain a clk code names (R358). -/
def tallyClk (k : Nat) : Nat := match k with | 4 => 5 | 5 => 10 | _ => k

/-- Whether a counter's clock has edges; in STANDBY only AON has (R234, R358). -/
def tallyClkRuns (s : State) (n : Nat) : Bool :=
  let k := s.get (F.TALLY_CFG.clk n)
  decide (k < 6) && (k == 0 || s.get F.POLL_STAT.state != 1) && s.bitAt F.CLK_STAT.good (tallyClk k)

/-- The segments of the chain of which `b` is the base, `b` first; a counter that is no base stands alone (R361). -/
def tallySegs (s : State) (b : Nat) : List Nat :=
  match tallySeg s b with
  | some (_, 0) =>
    b :: ((List.range 3).map fun i => b + 1 + i).filter fun m =>
      decide (m < 16) && (match tallySeg s m with | some (c, _) => c == b | none => false)
  | _ => [b]

/-- The base of the chain that holds a counter; a counter outside every chain is its own. -/
def tallyBase (s : State) (n : Nat) : Nat := match tallySeg s n with | some (b, _) => b | none => n

/-- The number that a list of segments holds, least significant first. -/
def segNat (l : List Nat) (f : Nat → Nat) : Nat :=
  match l with
  | [] => 0
  | m :: t => f m + 65536 * segNat t f

/-- The count of a chain (R362). -/
def tallyCount (s : State) (b : Nat) : Nat := segNat (tallySegs s b) fun m => s.get (F.TALLY_CNT.count m)

/-- The compare value in force of a chain (R370). -/
def tallyCompare (s : State) (b : Nat) : Nat := segNat (tallySegs s b) fun m => (s.tally.getD m {}).cmp

/-- Writes a chain's count (R362). -/
def setCount (s : State) (segs : List Nat) (v : Nat) : State :=
  match segs with
  | [] => s
  | m :: t => setCount (s.set (F.TALLY_CNT.count m) v) t (v / 65536)

/-- Whether a base counts on the next edge of its clock (R357, R360, R362, R365). -/
def tallyCounts (s : State) (b : Nat) : Bool :=
  tallyMode s b != 0 && tallyMode s b != 3 && s.bitAt F.TALLY_EN.en b && tallyClkRuns s b
    && !s.bitAt F.TALLY_STAT.frozen b && (tallyMode s b == 1 || (s.tally.getD b {}).evq != 0)

/-- The count after the next counted edge (R362). -/
def tallyNext (s : State) (b : Nat) : Nat := (tallyCount s b + 1) % 65536 ^ (tallySegs s b).length

/-- TALLY_EDGE (R357, R360, R362, R370, R372): a running base takes an edge, or one waiting event, and its chain advances as
one; a count that changes into the compare value matches. -/
def tallyEdge (s : State) (b : Nat) : State :=
  if tallyCounts s b then
    let v := tallyNext s b
    let hit := decide (v = tallyCompare s b)
    let s := if tallyMode s b = 2 then s.modTally b fun c => { c with evq := c.evq - 1 } else s
    let s := setCount s (tallySegs s b) v
    if hit then raiseTallyMatch (s.putBit F.TALLY_EVT.match_ b true) b else s
  else s

def execTallyEdge (n : Fin 16) (s : State) : Host.Outcome State Fault Refusal := .next (tallyEdge s n)

/-- TALLY_MATCH (R370, R372): the edge on which the count becomes the compare value. -/
def tallyMatch (s : State) (b : Nat) : State :=
  if tallyNext s b = tallyCompare s b then tallyEdge s b else s

def execTallyMatch (n : Fin 16) (s : State) : Host.Outcome State Fault Refusal := .next (tallyMatch s n)

/-- A capture lands: every segment's count is copied on one edge (R367). -/
def captureNow (s : State) (b : Nat) : State :=
  let s := if (s.tally.getD b {}).unread then s.set (F.TALLY_CAP.capt_ovr b) 1 else s
  let s := (tallySegs s b).foldl
    (fun t m => t.modTally m fun c => { c with live := t.get (F.TALLY_CNT.count m) }) s
  (s.modTally b fun c => { c with capq := c.capq - 1, unread := true }).putBit F.TALLY_EVT.capt b true

/-- Whether a capture trigger waits on a base whose clock runs. -/
def captureDue (s : State) (b : Nat) : Bool :=
  !tallyHigher s b && (s.tally.getD b {}).capq != 0 && tallyClkRuns s b

/-- TALLY_CAPTURE (R367): one waiting trigger is taken, frozen or not. -/
def tallyCapture (s : State) (b : Nat) : State := if captureDue s b then captureNow s b else s

def execTallyCapture (n : Fin 16) (s : State) : Host.Outcome State Fault Refusal := .next (tallyCapture s n)

/-- TALLY_SWCAP (R367): capture triggers; the bits of higher segments are ignored. -/
def tallySwcap (s : State) (mask : Nat) : State :=
  (List.range 16).foldl (fun t n => if bit mask n && !tallyHigher t n then tallyPush t n true else t) s

def execTallySwcap (mask : BitVec 16) (s : State) : Host.Outcome State Fault Refusal := .next (tallySwcap s mask.toNat)

/-- TALLY_FREEZE_WRITE (R365). -/
def tallyFreezeWrite (s : State) (mask : Nat) : State := s.set F.TALLY_FREEZE.freeze mask

def execTallyFreezeWrite (mask : BitVec 16) (s : State) : Host.Outcome State Fault Refusal :=
  .next (tallyFreezeWrite s mask.toNat)

/-- TALLY_FREEZE_APPLY (R365): on the second edge after the write the chain stops or resumes as one. -/
def tallyFreezeApply (s : State) (n : Nat) : State :=
  let b := tallyBase s n
  if tallyClkRuns s b then
    s.putBit F.TALLY_STAT.frozen b ((tallySegs s b).any fun m => s.bitAt F.TALLY_FREEZE.freeze m)
  else s

def execTallyFreezeApply (n : Fin 16) (s : State) : Host.Outcome State Fault Refusal := .next (tallyFreezeApply s n)

/-- Whether a counter is in a chain of two or more segments (R363). -/
def inChain (s : State) (n : Nat) : Bool := decide (1 < (tallySegs s (tallyBase s n)).length)

/-- Whether a counter stands still for reads and writes of its count (R363, R364, R366). -/
def tallyStopped (s : State) (n : Nat) : Bool :=
  let b := tallyBase s n
  !s.bitAt F.TALLY_EN.en b || s.bitAt F.TALLY_STAT.frozen b
    || (!inChain s n && ((tallySeg s n).isNone || !tallyClkRuns s b))

/-- TALLY_CNT_WRITE (R366). -/
def tallyCntWrite (s : State) (n v : Nat) : State :=
  if tallyStopped s n then s.set (F.TALLY_CNT.count n) v else s.set F.TALLY_STAT.wr_refused 1

def execTallyCntWrite (n : Fin 16) (v : BitVec 16) (s : State) : Host.Outcome State Fault Refusal :=
  .next (tallyCntWrite s n v.toNat)

/-- What a read of TALLY_CNTn returns (R363, R364). -/
def tallyCntValue (s : State) (n : Nat) : Nat :=
  if inChain s n ∧ ¬ tallyStopped s n then 0 else s.get (F.TALLY_CNT.count n)

/-- TALLY_CNT_READ (R364): a segment of a running chain sets chainrd. -/
def tallyCntRead (s : State) (n : Nat) : State :=
  if inChain s n ∧ ¬ tallyStopped s n then s.set F.TALLY_STAT.chainrd 1 else s

def execTallyCntRead (n : Fin 16) (s : State) : Host.Outcome State Fault Refusal := .next (tallyCntRead s n)

/-- TALLY_CAP_READ (R368, R369): a base's read returns its live capture and fills the hold copies; a higher segment's
returns its hold copy. A capture that coincides lands after the value was taken, and capt_pend says so. The registers
hold what the read returned. -/
def tallyCapRead (s : State) (n : Nat) (coincide : Bool) : State :=
  if tallyHigher s n then s
  else
    let s := (tallySegs s n).foldl (fun t m => t.set (F.TALLY_CAP.cap m) (t.tally.getD m {}).live) s
    let s := s.modTally n fun c => { c with unread := false }
    let due := coincide && captureDue s n
    let s := s.put (F.TALLY_CAP.capt_pend n) due
    if due then captureNow s n else s

def execTallyCapRead (n : Fin 16) (coincide : Bool) (s : State) : Host.Outcome State Fault Refusal :=
  .next (tallyCapRead s n coincide)

/-- TALLY_CMP_WRITE (R371). -/
def tallyCmpWrite (s : State) (n v : Nat) : State := (s.set (F.TALLY_CMP.cmp n) v).set (F.TALLY_CMP.cmp_pend n) 1

def execTallyCmpWrite (n : Fin 16) (v : BitVec 16) (s : State) : Host.Outcome State Fault Refusal :=
  .next (tallyCmpWrite s n v.toNat)

/-- TALLY_CMP_APPLY (R371): a write to a base commits every segment's value on one edge. -/
def tallyCmpApply (s : State) (n : Nat) : State :=
  if ¬ tallyHigher s n ∧ s.flag (F.TALLY_CMP.cmp_pend n) ∧ tallyClkRuns s n then
    (tallySegs s n).foldl
      (fun t m =>
        (t.modTally m fun c => { c with cmp := t.get (F.TALLY_CMP.cmp m) }).set (F.TALLY_CMP.cmp_pend m) 0) s
  else s

def execTallyCmpApply (n : Fin 16) (s : State) : Host.Outcome State Fault Refusal := .next (tallyCmpApply s n)

/-- Whether a plan's TALLY_CFG words are refused (R358, R359, R361), by counter. -/
def tallyCfgBad (cfg : Nat → Nat) : Bool :=
  (List.range 16).any fun n =>
    let w := cfg n
    let mode := fun (m : Nat) => cfg m % 4
    decide (6 ≤ w / 4 % 8) || decide (0x12 ≤ w / 32 % 32) || decide (0x12 ≤ w / 1024 % 32)
      || (n == 0 && w % 4 == 3)
      || (decide (4 ≤ n) && (mode (n - 4) == 1 || mode (n - 4) == 2) && (List.range 4).all fun i => mode (n - i) == 3)

/-- A counter whose configuration a plan changes starts anew (R373). -/
def tallyRestart (s : State) (n : Nat) : State :=
  ((s.setWord (F.TALLY_CNT.count n).addr 0).setWord (F.TALLY_CAP.cap n).addr 0).setWord (F.TALLY_CMP.cmp n).addr 0
    |>.modTally n fun _ => {}

end Sys2Proof.Machine
end

