-- ==== Sys2Proof/Machine/Plan.lean ====
section
/-!
DEFINITION. The plan image and the first pass over it (R331 to R348, R350): header, directory, sections, route records, stall
descriptors, tags, and the rules other chapters state as plan-load failures.
-/
namespace Sys2Proof.Machine

/-- Reason codes of YARD_PSTAT. -/
def rnMagic : Nat := 1
def rnFormat : Nat := 2
def rnLength : Nat := 3
def rnCrc : Nat := 4
def rnSeal : Nat := 5
def rnRollback : Nat := 6
def rnDirectory : Nat := 7
def rnMissing : Nat := 8
def rnEntry : Nat := 9
def rnRange : Nat := 10
def rnRoute : Nat := 11
def rnStall : Nat := 12
def rnState : Nat := 13
def rnAborted : Nat := 14

/-- A refusal: its reason and the image offset of the failing item (R350). -/
abbrev Bad := Option (Nat × Nat)

/-- Numbers of an image, little-endian. -/
def b1 (m : Mem) (o : Nat) : Nat := (Store.get m o).toNat
def h2 (m : Mem) (o : Nat) : Nat := (Mem.half m o).toNat
def w4 (m : Mem) (o : Nat) : Nat := (Mem.word m o).toNat

/-- The first item of a list that fails. -/
def firstBad {α : Type} (l : List α) (f : α → Bad) : Bad := l.findSome? f

/-- A condition with its refusal. -/
def badIf (c : Bool) (reason off : Nat) : Bad := if c then some (reason, off) else none

/-- Whether `n` bytes are all 0. -/
def zeroBytes (m : Mem) (o n : Nat) : Bool := m.all fun e => decide (e.1 < o) || decide (o + n ≤ e.1)

/-- The length of an image. -/
def planLen (m : Mem) : Nat := w4 m 8
def planVersion (m : Mem) : Nat := w4 m 12
def dirOff (m : Mem) : Nat := w4 m 0x14
def dirEnd (m : Mem) : Nat := dirOff m + 12 * h2 m 0x10

/-- The header (R331, R332). -/
def checkHeader (m : Mem) : Bad :=
  (badIf (w4 m 0 != 0x5354414C) rnMagic 0).or <|
  (badIf (h2 m 4 != 1) rnFormat 4).or <|
  (badIf (h2 m 6 != 0) rnFormat 6).or <|
  (firstBad ((List.range 32).map (0x20 + ·)) fun o => badIf (b1 m o != 0) rnFormat o).or <|
  badIf (planLen m % 4 != 0 || decide (planLen m < 304) || decide (258048 < planLen m)) rnLength 8

/-- The image bytes with the crc field and the tag set to 0 (R332). -/
def crcBytes (m : Mem) : List Byte :=
  let m := Store.clear (Store.clear m 0x12 2) (planLen m - 16) 16
  Store.getList m 0 (planLen m)

/-- The crc (R332). -/
def checkCrc (m : Mem) : Bad := badIf (crc16 (crcBytes m) != h2 m 0x12) rnCrc 0x12

/-- The plan tag under a root, and the tag stored (R345). -/
def planTag (m : Mem) (root : Nat) : Nat := cmac false (kSealP root) (Store.getList m 0 (planLen m - 16))
def storedPlanTag (m : Mem) : Nat := natBe (Store.getList m (planLen m - 16) 16)

/-- One section: its type, place and directory entry (R333). -/
structure Sect where
  typ : Nat
  flags : Nat
  off : Nat
  len : Nat
  entry : Nat
deriving DecidableEq, Repr

/-- The directory (R333). -/
def sectsOf (m : Mem) : List Sect :=
  (List.range (h2 m 0x10)).map fun i =>
    let o := dirOff m + 12 * i
    { typ := h2 m o, flags := h2 m (o + 2), off := w4 m (o + 4), len := w4 m (o + 8), entry := o }

/-- Whether two byte ranges overlap. -/
def overlap (a n b k : Nat) : Bool := decide (a < b + k) && decide (b < a + n)

/-- One directory entry beside those before it (R333, R334). -/
def checkEntry (m : Mem) (before : List Sect) (e : Sect) : Bad :=
  badIf
    (decide (1 < e.flags) || e.typ == 0 || (decide (0x13 ≤ e.typ) && e.flags == 0) || e.off % 4 != 0 || e.len % 4 != 0
      || decide (e.len < 4) || decide (e.off < dirEnd m) || decide (planLen m < e.off + e.len + 16)
      || before.any fun f => f.typ == e.typ || overlap e.off e.len f.off f.len)
    rnDirectory e.entry

/-- Every entry, in order. -/
def checkEntries (m : Mem) (before l : List Sect) : Bad :=
  match l with
  | [] => none
  | e :: t => (checkEntry m before e).or (checkEntries m (before ++ [e]) t)

/-- The directory, the bytes outside every part, and the required sections (R331, R333, R334). -/
def checkDir (m : Mem) : Bad :=
  let n := h2 m 0x10
  let l := sectsOf m
  (badIf (n == 0 || decide (64 < n)) rnDirectory 0x10).or <|
  (badIf (dirOff m % 4 != 0 || decide (dirOff m < 0x40) || decide (planLen m < dirEnd m + 16)) rnDirectory 0x14).or <|
  (checkEntries m [] l).or <|
  (firstBad m fun e =>
    badIf (decide (0x40 ≤ e.1) && decide (e.1 < planLen m - 16)
      && !(decide (dirOff m ≤ e.1) && decide (e.1 < dirEnd m))
      && !(l.any fun c => decide (c.off ≤ e.1) && decide (e.1 < c.off + c.len))) rnDirectory e.1).or <|
  firstBad ((List.range 0x13).drop 1) fun t => badIf (t != 8 && !(l.any fun c => c.typ == t)) rnMissing (dirOff m)

/-- A section of a type, if the image has it. -/
def sectOf (m : Mem) (t : Nat) : Option Sect := (sectsOf m).find? fun c => c.typ == t

/-- The bytes before the REG entries of a section (R334). -/
def regPrefix (t : Nat) : Nat := if t = 5 then 48 else if t = 0xC then 8 else 0

/-- Whether a section is in REG form (R334). -/
def regForm (t : Nat) : Bool := (decide (1 ≤ t) && decide (t ≤ 0xF)) && t != 8

/-- The host addresses a REG section may name (R334). -/
def regWindow (t a : Nat) : Bool :=
  let w := a / 0x1_0000
  let o := a % 0x1_0000
  match t with
  | 1 => w == 0x14 || w == 0x12
  | 2 => w == 0x03
  | 3 => w == 0x02 && decide (o < 0x100)
  | 4 => w == 0x02 && decide (0x100 ≤ o) && decide (o < 0x180)
  | 5 => w == 0x05
  | 6 => w == 0x06 || w == 0x07
  | 7 => w == 0x08 && decide (o < 0x400)
  | 9 => (w == 0x08 && decide (0x400 ≤ o) && decide (o < 0x1000)) || (w == 0x09 && decide (0x100 ≤ o) && decide (o < 0x200))
  | 0xA => w == 0x09 && decide (o < 0x100)
  | 0xB => w == 0x04 && decide (o < 0x100)
  | 0xC => w == 0x0A
  | 0xD => w == 0x0D || w == 0x0E || w == 0x0C
  | 0xE => w == 0x0F
  | 0xF => w == 0x13 || w == 0x0B
  | _ => false

/-- Whether a field takes its value from the plan's REG entries (R335). -/
def planField (f : FRow) : Bool := f.rst == .plan && f.typ != .ro

/-- The bits of chosen fields of a register. -/
def fieldMask (l : List FRow) (p : FRow → Bool) : Nat :=
  l.foldl (fun a f => if p f then a + (2 ^ f.len - 1) * 2 ^ f.lo else a) 0

/-- The plan-valued bits of the word at a host address; 0 where it has none (R335). -/
def planMask (a : Nat) : Nat :=
  match findRow a with
  | some r => fieldMask r.fields planField
  | none => 0

/-- A REG entry: its image offset, address and value. -/
structure RegEntry where
  off : Nat
  addr : Nat
  value : Nat
deriving DecidableEq, Repr

/-- The entries of one REG section (R335). -/
def sectEntries (m : Mem) (c : Sect) : List RegEntry :=
  let p := regPrefix c.typ
  (List.range ((c.len - p) / 8)).map fun i =>
    { off := c.off + p + 8 * i, addr := w4 m (c.off + p + 8 * i), value := w4 m (c.off + p + 8 * i + 4) }

/-- Every entry of every REG section. -/
def regEntries (m : Mem) : List RegEntry := ((sectsOf m).filter fun c => regForm c.typ).flatMap (sectEntries m)

/-- Whether a value has a bit outside a mask. -/
def outside (v mask : Nat) : Bool := v &&& mask != v

/-- The form of a REG section (R334, R335). -/
def checkReg (m : Mem) (all : List RegEntry) (c : Sect) : Bad :=
  (badIf (decide (c.len < regPrefix c.typ)) (if regPrefix c.typ = 0 then rnEntry else rnRange) c.off).or <|
  (badIf ((c.len - regPrefix c.typ) % 8 != 0) rnEntry c.off).or <|
  firstBad (sectEntries m c) fun e =>
    badIf (!regWindow c.typ e.addr || planMask e.addr == 0 || outside e.value (planMask e.addr)
      || decide (1 < (all.filter fun f => f.addr == e.addr).length)) rnEntry e.off

/-- The plan-valued words of an image; words no entry names are 0 (R335). -/
def planWords (m : Mem) : Store 32 := (regEntries m).foldl (fun r e => Store.put r e.addr (BitVec.ofNat 32 e.value)) []

/-- A state that holds the plan-valued words of an image and nothing else, to evaluate rules on. -/
def planState (m : Mem) : State := { regs := planWords m }

/-- Whether a carrier lies in its band (R98). -/
def carrierOk (band f : Nat) : Bool :=
  match band with
  | 0 => decide (310000000 ≤ f) && decide (f ≤ 320000000)
  | 1 => decide (433050000 ≤ f) && decide (f ≤ 434790000)
  | 2 => decide (863000000 ≤ f) && decide (f ≤ 870000000)
  | _ => decide (902000000 ≤ f) && decide (f ≤ 928000000)

/-- CAN bit timing out of range (HOST_CANNBT, HOST_CANDBT): `top` limits brp, tseg1, tseg2 and sjw, `rate` the bit rate. -/
def canBad (word brp tseg1 tseg2 sjw low1 rate : Nat) : Bool :=
  word != 0 && (brp == 0 || decide (tseg1 < low1) || tseg2 == 0 || sjw == 0 || decide (tseg2 < sjw)
    || decide (rate * (brp * (1 + tseg1 + tseg2)) < 80000000))

/-- Standing and reserved current that no budget holds (R412). -/
def budgetBad (p : State) : Bool :=
  let bv := orDefault (p.get F.PWR_BUD_VDRV.budget) 400
  let b3 := orDefault (p.get F.PWR_BUD_VDD33.budget) 60
  let rv := p.get F.PWR_BUD_VDRV.reserve
  let r3 := p.get F.PWR_BUD_VDD33.reserve
  let uhf := p.get F.PWR_STAND_RF.uhf
  let uwb := p.get F.PWR_STAND_RF.uwb
  decide (b3 < r3 + uhf + uwb) || decide (bv < rv) || decide (bv < rv + p.get F.PWR_STAND_POLL.vdrv)
    || decide (b3 < r3 + p.get F.PWR_STAND_POLL.vdd33)
    || decide (p.get F.PWR_STAND_POLL.vdrv < p.get (F.LF_VCOST.cost (p.get F.LF_FRAME_VEC.poll_vec)))
    || decide (b3 < r3 + uhf + uwb + p.get F.UWB_RNG_COST.cost)

/-- Whether a bank holds an installed aerial (R70). -/
def bankInstalled (p : State) (lfb : Bool) : Bool :=
  (List.range 6).any fun i => p.flag (F.LF_AER_CFG.installed (if lfb then i + 6 else i))

/-- Power policies a plan may not have (R402). -/
def policyBad (p : State) : Bool :=
  p.get F.PWR_DOM_CFG.lfa == 3 || p.get F.PWR_DOM_CFG.lfb == 3 || decide (2 ≤ p.get F.PWR_DOM_CFG.uhf)
    || decide (2 ≤ p.get F.PWR_DOM_CFG.uwb) || (p.get F.PWR_DOM_CFG.lfa == 2 && bankInstalled p false)
    || (p.get F.PWR_DOM_CFG.lfb == 2 && bankInstalled p true)

/-- UWB settings a plan may not have (R136, R138). -/
def uwbCfgBad (p : State) : Bool :=
  let lim := if bit (p.get F.UWB_CFG.profile) 0 then 187 else 230
  let pair := fun k => p.get (F.UWB_PAIR.d k) == 0 || decide (lim < p.get (F.UWB_PAIR.d k))
  match p.get F.UWB_CFG.mode with
  | 0 => pair 0 || pair 1
  | 2 => p.get F.UWB_CFG.ref_port != 0
  | 3 => true
  | _ => false

/-- Bounds of part `q` of a paddock on an axis: for an ellipsoid its centre and semi-axis (SOLV_PADp). -/
def partBounds (p : State) (pad q a : Nat) : Nat × Nat :=
  match a with
  | 0 => (p.get (F.SOLV_PAD_W4.lo_x pad q), p.get (F.SOLV_PAD_W4.hi_x pad q))
  | 1 => (p.get (F.SOLV_PAD_W8.lo_y pad q), p.get (F.SOLV_PAD_W8.hi_y pad q))
  | _ => (p.get (F.SOLV_PAD_WC.lo_z pad q), p.get (F.SOLV_PAD_WC.hi_z pad q))

/-- Whether a part contains no point or leaves the grid box (R152, R173). -/
def partBad (p : State) (pad q : Nat) : Bool :=
  let ell := p.bitAt (F.SOLV_PAD_W0.ptype pad) q
  [0, 1, 2].any fun a =>
    let (l, h) := partBounds p pad q a
    let lo := sxt 16 l
    let hi := sxt 16 h
    let dead := if ell then decide (hi ≤ 0) else decide (hi < lo)
    let from_ : Int := if ell then lo - hi else lo
    let up : Int := if ell then lo + hi else hi
    dead || decide (from_ < gridOrg p a) || decide (gridEnd p a < up)

/-- Whether a paddock entry is refused (R173, R186). -/
def padBad (p : State) (pad : Nat) : Bool :=
  let n := p.get (F.SOLV_PAD_W0.nparts pad)
  decide (5 ≤ n) || (decide (1 ≤ n) && decide (n ≤ 4)
    && ((List.range n).any (partBad p pad) || p.get (F.VERD_REACH.reach pad) == 0))

/-- Tamper modes and classes a plan may not have (R449, R450). -/
def tamperCfgBad (p : State) : Bool :=
  let mode := fun i => p.get F.HLTH_TMP_CFG.mode / 4 ^ i % 4
  ((List.range 8).any fun i => p.get F.HLTH_TMP_CFG.class_ / 4 ^ i % 4 == 3)
    || ((mode 0 == 3) != (mode 1 == 3)) || ((mode 2 == 3) != (mode 3 == 3))

/-- Ring settings a plan may not have (R298, R348). -/
def ringBad (p : State) (r : Nat) : Bool :=
  let w := p.word (F.LOFT_RCFG.nslots r).addr
  let n := p.get (F.LOFT_RCFG.nslots r)
  if r = 0 then n != 16 || orDefault (p.get (F.LOFT_RCFG.n 0)) 1 != 1 || p.get (F.LOFT_RCFG.owner 0) != 4
  else w != 0 && (decide (n < 4) || decide (64 < n))

/-- The rules other chapters state as plan-load failures, by section type, with the register each names. -/
def rangeRules (p : State) (t : Nat) : List (Nat × Bool) :=
  match t with
  | 1 =>
    [(F.HOST_CANNBT.brp.addr, canBad (p.word F.HOST_CANNBT.brp.addr).toNat (p.get F.HOST_CANNBT.brp)
        (p.get F.HOST_CANNBT.tseg1) (p.get F.HOST_CANNBT.tseg2) (p.get F.HOST_CANNBT.sjw) 2 1000000),
     (F.HOST_CANDBT.brp.addr, canBad (p.word F.HOST_CANDBT.brp.addr).toNat (p.get F.HOST_CANDBT.brp)
        (p.get F.HOST_CANDBT.tseg1) (p.get F.HOST_CANDBT.tseg2) (p.get F.HOST_CANDBT.sjw) 1 5000000)]
  | 3 => [(F.PWR_DOM_CFG.lfa.addr, policyBad p)]
  | 4 => [(F.PWR_BUD_VDRV.budget.addr, budgetBad p)]
  | 5 => [(F.LF_FTW.ftw.addr, decide (p.get F.LF_FTW.ftw < 0x0199999A) || decide (0x02666666 < p.get F.LF_FTW.ftw))]
  | 6 =>
    [(F.UHF_CFG.mode.addr, p.get F.UHF_CFG.mode != p.get F.LF_TXN.lanes),
     ((F.UHF_CHAN.freq 0).addr, !carrierOk (p.get F.UHF_CFG.band0) (p.get (F.UHF_CHAN.freq 0))),
     ((F.UHF_CHAN.freq 1).addr, p.flag F.UHF_CFG.mode && !carrierOk (p.get F.UHF_CFG.band1) (p.get (F.UHF_CHAN.freq 1))),
     (F.UWB_CFG.profile.addr, uwbCfgBad p)]
  | 7 => [(F.SOLV_GN.nx.addr, !gridOk p)]
  | 9 =>
    ((List.range 24).map fun i => ((F.SOLV_PAD_W0.nparts i).addr, padBad p i))
      ++ [((F.SOLV_PAD_W0.nparts 0).addr, !((List.range 24).any (paddockUsed p)))]
  | 0xA => [(F.VERD_WIN.guard.addr, decide (p.get F.VERD_WIN.guard < 32) || decide (192 < p.get F.VERD_WIN.guard))]
  | 0xE => (List.range 16).map fun r => ((F.LOFT_RCFG.nslots r).addr, ringBad p r)
  | 0xF =>
    [(F.HLTH_TMP_CFG.mode.addr, tamperCfgBad p),
     ((F.TALLY_CFG.mode 0).addr, tallyCfgBad fun n => (p.word (F.TALLY_CFG.mode n).addr).toNat)]
  | _ => []

/-- The image offset that stands for a register in a section: its entry, or the section where none names it. -/
def whereOf (m : Mem) (c : Sect) (a : Nat) : Nat :=
  match (sectEntries m c).find? fun e => e.addr == a with
  | some e => e.off
  | none => c.off

/-- The AERIALS reference block (R336). -/
def checkAerials (m : Mem) (c : Sect) : Bad :=
  firstBad (List.range 12) fun n =>
    badIf (b1 m (c.off + 4 * n + 1) != 0 || decide (1024 ≤ h2 m (c.off + 4 * n + 2))) rnRange (c.off + 4 * n)

/-- The FIELD section (R337): its length follows from the grid of the SOLVER section. -/
def checkField (p : State) (c : Sect) : Bad :=
  badIf (c.len != (gridCnt p 0 * gridCnt p 1 * gridCnt p 2 * 36 + 3) / 4 * 4) rnRange c.off

/-- The SESSION prefix (R221, R338). -/
def checkSession (m : Mem) (p : State) (c : Sect) : Bad :=
  let g := b1 m c.off
  let f := b1 m (c.off + 1)
  let ringOk := fun r => decide (1 ≤ r) && decide (r < 16) && p.get (F.LOFT_RCFG.owner r) == 3
    && decide (4 ≤ p.get (F.LOFT_RCFG.nslots r))
  (badIf (!ringOk g) rnRange c.off).or <|
  (badIf (!ringOk f || f == g || ringN p f != 1) rnRange (c.off + 1)).or <|
  badIf (!zeroBytes m (c.off + 2) 6) rnRange (c.off + 2)

/-- The ENROL record (R339). -/
def checkEnrol (m : Mem) (c : Sect) : Bad :=
  let t := w4 m (c.off + 8)
  (badIf (c.len != 16) rnRange c.off).or <|
  (badIf (outside (h2 m (c.off + 2)) (h2 m c.off)) rnRange (c.off + 2)).or <|
  (badIf (t % 4 != 0 || decide (t < 0x4_0000) || decide (0x8_0000 < t + 64)) rnRange (c.off + 8)).or <|
  badIf (!zeroBytes m (c.off + 12) 4) rnRange (c.off + 12)

/-- A route record of the image (R341). -/
def routeOf (m : Mem) (o : Nat) : Route :=
  { rd := w4 m o, wr := w4 m (o + 4), ev := (List.range 11).map fun j => b1 m (o + 8 + j), evTally := b1 m (o + 0x13)
    feed := (List.range 4).map fun k =>
      { base := w4 m (o + 0x14 + 8 * k), size := h2 m (o + 0x18 + 8 * k), access := b1 m (o + 0x1A + 8 * k) } }

/-- A stall descriptor of the image (R343). -/
def descOf (m : Mem) (o : Nat) : StallDesc :=
  { index := b1 m o, plane := b1 m (o + 1), engine := b1 m (o + 2), policy := b1 m (o + 3) % 4, rmax := b1 m (o + 3) / 4 % 8
    essential := bit (b1 m (o + 3)) 5, wd := h2 m (o + 4), check := bit (h2 m (o + 6)) 0, entry := w4 m (o + 8)
    imgOff := w4 m (o + 12), imgLen := w4 m (o + 16), datOff := w4 m (o + 20), datLen := w4 m (o + 24)
    itag := natBe (Store.getList m (o + 32) 16) }

/-- The offsets of the descriptors and the descriptors (R343). -/
def descOffs (m : Mem) (c : Sect) : List Nat := (List.range (b1 m c.off)).map fun i => c.off + 4 + 48 * i
def descs (m : Mem) : List StallDesc :=
  match sectOf m 0x12 with
  | some c => (descOffs m c).map (descOf m)
  | none => []

/-- The blocks of a plane's windows (R26, R342): 0 control, 1 data, 2 management. -/
def planeBits (plane : Nat) : Nat :=
  match plane with
  | 0 => 2 ^ 0x0A + 2 ^ 0x12
  | 1 => 2 ^ 4 + 2 ^ 5 + 2 ^ 6 + 2 ^ 7 + 2 ^ 8 + 2 ^ 9
  | _ => 2 ^ 21 - 1 - (2 ^ 0x0A + 2 ^ 0x12 + 2 ^ 4 + 2 ^ 5 + 2 ^ 6 + 2 ^ 7 + 2 ^ 8 + 2 ^ 9)

/-- The plane that may take an event source; none for the reserved codes (R342). -/
def evPlaneOk (plane code : Nat) : Bool :=
  if code = 0 then true
  else if code ≤ 0x0C then plane == 1
  else if code ≤ 0x0F then plane == 0
  else if code ≤ 0x12 then plane == 2
  else false

/-- A feed window that is refused by itself (R341, R342). -/
def feedBad (w : FeedWin) : Bool :=
  if w.access = 0 then w.base != 0 || w.size != 0
  else decide (3 ≤ w.access) || w.size == 0 || w.base % 0x1000 != 0 || decide (0x8_0000 < w.base + 0x1000 * w.size)

/-- Whether two feed windows in use overlap. -/
def feedMeet (a b : FeedWin) : Bool := a.access != 0 && b.access != 0 && overlap a.base (4096 * a.size) b.base (4096 * b.size)

/-- One route record (R341, R342). -/
def routeBad (m : Mem) (o : Nat) (l : List StallDesc) (c : Sect) (q : Nat) : Bool :=
  match l.find? fun d => d.index == q with
  | none => !zeroBytes m o 64
  | some d =>
    let r := routeOf m o
    let ok := planeBits d.plane
    let rdOk := if d.plane = 0 then ok + 2 ^ 9 else ok
    outside r.rd rdOk || outside r.wr ok || bit (r.rd ||| r.wr) 0x10 || bit r.wr 0x11 || bit r.wr 0x12
      || (r.ev.any fun e => !evPlaneOk d.plane e) || decide (16 ≤ r.evTally)
      || (r.feed.any feedBad) || !zeroBytes m (o + 0x34) 12
      || ((List.range 4).any fun k => b1 m (o + 0x1B + 8 * k) != 0)
      || l.any fun d' => d'.plane != d.plane
          && (routeOf m (c.off + 64 * d'.index)).feed.any fun a => r.feed.any fun b => feedMeet a b

/-- The YARD section (R341, R342). -/
def checkYard (m : Mem) (c : Sect) : Bad :=
  (badIf (c.len != 960) rnRoute c.off).or <|
  firstBad (List.range 15) fun q => badIf (routeBad m (c.off + 64 * q) (descs m) c q) rnRoute (c.off + 64 * q)

/-- The byte ranges of a stall's image and data. -/
def stallRanges (d : StallDesc) : List (Nat × Nat) :=
  (d.imgOff, d.imgLen) :: (if d.datLen = 0 then [] else [(d.datOff, d.datLen)])

/-- Whether two ranges of a list overlap. -/
def anyOverlap (l : List (Nat × Nat)) : Bool :=
  match l with
  | [] => false
  | a :: t => (t.any fun b => overlap a.1 a.2 b.1 b.2) || anyOverlap t

/-- One stall descriptor beside those before it (R343). -/
def descBad (m : Mem) (c : Sect) (lo o : Nat) (before : List StallDesc) : Bool :=
  let d := descOf m o
  decide (14 < d.index) || decide (2 < d.plane) || (decide (7 < d.engine) && d.engine != 0xFF)
    || decide (64 ≤ b1 m (o + 3)) || decide (1023 < d.wd) || decide (1 < h2 m (o + 6))
    || d.entry % 4 != 0 || decide (d.imgLen ≤ d.entry) || decide (d.imgLen < 4) || decide (32768 < d.imgLen) || d.imgLen % 4 != 0
    || decide (8192 < d.datLen) || d.datLen % 4 != 0 || (d.datLen == 0 && d.datOff != 0) || !zeroBytes m (o + 0x1C) 4
    || ((stallRanges d).any fun r => decide (r.1 < lo) || decide (c.off + c.len < r.1 + r.2))
    || before.any fun b => b.index == d.index || (d.engine != 0xFF && b.engine == d.engine)

/-- Every descriptor, in order. -/
def checkDescs (m : Mem) (c : Sect) (lo : Nat) (before : List StallDesc) (l : List Nat) : Bad :=
  match l with
  | [] => none
  | o :: t => (badIf (descBad m c lo o before) rnStall o).or (checkDescs m c lo (before ++ [descOf m o]) t)

/-- The STALLS section and the CHECK role (R343, R344). -/
def checkStalls (m : Mem) (c : Sect) : Bad :=
  let n := b1 m c.off
  let l := descs m
  let chk := l.filter (·.check)
  let wr := fun q => match sectOf m 0x11 with | some y => (routeOf m (y.off + 64 * q)).wr | none => 0
  (badIf (n == 0 || decide (15 < n) || !zeroBytes m (c.off + 1) 3 || decide (c.len < 4 + 48 * n)) rnStall c.off).or <|
  (checkDescs m c (c.off + 4 + 48 * n) [] (descOffs m c)).or <|
  (badIf (anyOverlap (l.flatMap stallRanges)) rnStall c.off).or <|
  badIf (!(chk.length == 1 && chk.all fun d => d.plane == 1 && d.engine != 0xFF && bit (wr d.index) 6)) rnStall c.off

/-- One section against every rule (R334 to R344, R350). -/
def checkSect (m : Mem) (p : State) (all : List RegEntry) (t : Nat) : Bad :=
  match sectOf m t with
  | none => none
  | some c =>
    (if regForm t then checkReg m all c else none).or <|
    (match t with
      | 5 => checkAerials m c
      | 8 => checkField p c
      | 0xC => checkSession m p c
      | 0x10 => checkEnrol m c
      | 0x11 => checkYard m c
      | 0x12 => checkStalls m c
      | _ => none).or <|
    firstBad (rangeRules p t) fun r => badIf r.2 rnRange (whereOf m c r.1)

/-- Every section, in type order (R334, R350). -/
def checkSects (m : Mem) : Bad :=
  let p := planState m
  let all := regEntries m
  firstBad ((List.range 0x13).drop 1) (checkSect m p all)

/-- The first pass (R350) but for the plan tag: `tagBad` is the refusal its check would give, in its place of the order. -/
def firstPass (s : State) (m : Mem) (import_ : Bool) (tagBad : Bad) : Bad :=
  (badIf (lifeState s == 0 || lifeState s == 4) rnState 0).or <|
  (checkHeader m).or <|
  (if import_ then checkCrc m else none).or <|
  tagBad.or <|
  (badIf (decide (planVersion m < ringLive s 0)) rnRollback 0x0C).or <|
  (checkDir m).or (checkSects m)

/-- The tag of one stall's image (R346). -/
def itagOf (m : Mem) (root : Nat) (d : StallDesc) : Nat :=
  cmac false (kSealP root) (ascii "STAL" ++ bytesBe (planVersion m) 4 ++ bytesBe d.index 1
    ++ Store.getList m d.imgOff d.imgLen ++ Store.getList m d.datOff d.datLen)

/-- The image with every itag and the plan tag computed (R345 to R347). -/
def sealImage (m : Mem) (root : Nat) : Mem :=
  let offs := match sectOf m 0x12 with | some c => descOffs m c | none => []
  let m := offs.foldl (fun t o => Store.putList t (o + 32) (bytesBe (itagOf t root (descOf t o)) 16)) m
  Store.putList m (planLen m - 16) (bytesBe (planTag m root) 16)

/-- The byte lengths the SEAL channel is given to seal an image (R345, R346). -/
def sealLens (m : Mem) : List Nat := (descs m).map (fun d => 9 + d.imgLen + d.datLen) ++ [planLen m - 16]

/-- The image staged (R342, R352) and the image of the plan region (R347). -/
def stagedImage (s : State) : Mem := Store.window s.feed 0x8_0000 0x3_F000
def regionImage (s : State) : Mem := Store.window s.loft.front 0 0x3_F000

end Sys2Proof.Machine
end

