-- ==== Sys2Proof/Machine/Yard.lean ====
section
/-!
DEFINITION. The plan loader (chapter 14): sources, import, the second pass, stall installs (R326 to R329), the margin overlay
(R355, R356), ring 0 (R348), and the end of a store, which its requesters wait for.
-/
namespace Sys2Proof.Machine

/-- YARD_PSTAT.state codes. -/
def psNone : Nat := 0
def psLoading : Nat := 1
def psRun : Nat := 2
def psWaitHost : Nat := 3
def psStaging : Nat := 4
def psPending : Nat := 5
def psApplying : Nat := 6

def planState_ (s : State) : Nat := s.get F.YARD_PSTAT.state

/-- The state the loader rests in: RUN with a plan, else waiting for the host. -/
def planRest (s : State) : State := setPlanState s (if s.yard.applied then psRun else psWaitHost)

/-- A pass of the farrier ends with a result (R441, R444); its inputs start anew. -/
def farrierEnd (s : State) (res : Nat) : State :=
  if s.get F.HLTH_STAT.farr_step = 0 then s
  else
    let due := (s.aonTs + orDefault (s.get F.HLTH_FARR_CFG0.period) 7 * 2831155200) % 2 ^ 48
    let s := s.sets [(F.HLTH_STAT.farr_res, res), (F.HLTH_STAT.farr_step, 0), (F.HLTH_EVT.farr, 1),
      (F.HLTH_NEXT_LO.due_lo, due), (F.HLTH_NEXT_HI.due_hi, due / 2 ^ 32), (F.VERD_FARR.pending, 0)]
    let s := s.zero (F.HLTH_CLKDEV.dev 0).addr 12
    { s with hlth := { s.hlth with samples := [], cEst := none, busy := false, part := false } }

/-- farr_res codes. -/
def farrDone : Nat := 1
def farrPartial : Nat := 2
def farrAborted : Nat := 3
def farrRefused : Nat := 4

/-- Whether the plan loader can write the plan region: no commit, gather or store stands in its way (R285, R287). -/
def regionFree (s : State) : Bool :=
  !loftClosed s && s.loft.gather.isNone && s.loft.commit.isNone && !storeRuns s

/-- The overlay area of the front (R355). -/
def ovlBase : Nat := 0x3_F000

/-- The overlay area is zeroed. -/
def zeroOverlay (s : State) : State :=
  putFront s ovlBase 0x1000 []

/-- The poll shadow is written from its sources (R227). -/
def writeShadow (s : State) : State :=
  let v := s.get F.LF_FRAME_VEC.poll_vec
  let put := fun (t : State) (i a : Nat) => t.setWord (F.POLL_SHADOW.copy i).addr (t.word a)
  let s := (List.range 12).foldl (fun t n => put t n (F.LF_VEC.amp v n).addr) s
  let s := (List.range 12).foldl (fun t n => put t (12 + n) (F.LF_AER_CFG.gain n).addr) s
  let s := put (put (put (put s 24 F.LF_FTW.ftw.addr) 25 F.UHF_CFG.mode.addr) 26 (F.UHF_CHAN.freq 0).addr) 27
    (F.UHF_CHAN.freq 1).addr
  s.set (F.POLL_SHADOW.copy 28) s.yard.enrolMap

/-- The masked bits of a word replaced. -/
def maskWord (w : Word) (mask value : Nat) : Word :=
  (w &&& ~~~(BitVec.ofNat 32 mask)) ||| (BitVec.ofNat 32 value &&& BitVec.ofNat 32 mask)

/-- Overlay entries are written; the fields of the overlay they replace return to their plan values first (R356, R443). -/
def writeOverlay (s : State) (l : List OvlEntry) : State :=
  let s := s.yard.ovlOld.foldl
    (fun (t : State) e => t.setWord e.1 (maskWord (t.word e.1) e.2 (Store.get t.yard.planRegs e.1).toNat)) s
  let s := l.foldl (fun (t : State) e => t.setWord e.addr (maskWord (t.word e.addr) e.mask e.value)) s
  let s := s.modYard fun y => { y with ovlOld := l.map fun e => (e.addr, e.mask) }
  writeShadow ((s.set F.YARD_OVL.count l.length).set F.YARD_OVL.pending 0)

/-- The bytes of an overlay area without its tag (R355). -/
def overlayBytes (version : Nat) (l : List OvlEntry) : List Byte :=
  bytesLe 0x4F56_4C59 4 ++ bytesLe version 4 ++ bytesLe l.length 2 ++ bytesLe 0 2
    ++ l.flatMap fun e => bytesLe e.addr 4 ++ bytesLe e.mask 4 ++ bytesLe e.value 4

/-- The overlay area is rewritten under a root's key. -/
def storeOverlay (s : State) (root : Nat) (l : List OvlEntry) : State :=
  let b := overlayBytes (s.get F.YARD_PVER.version) l
  putFront (pchRun s 2 b.length) ovlBase 0x1000 (Store.putList [] 0 (b ++ bytesBe (cmac false (kSealP root) b) 16))

/-- The entries of the overlay area. -/
def areaEntries (s : State) : List OvlEntry :=
  let m := s.loft.front
  (List.range (h2 m (ovlBase + 8))).map fun i =>
    { addr := w4 m (ovlBase + 12 + 12 * i), mask := w4 m (ovlBase + 16 + 12 * i), value := w4 m (ovlBase + 20 + 12 * i) }

/-- Whether the overlay area is valid for the running plan under a root (R355, R356). -/
def areaValid (s : State) (root : Nat) : Bool :=
  let m := s.loft.front
  let n := h2 m (ovlBase + 8)
  let b := Store.getList m ovlBase (12 + 12 * n)
  w4 m ovlBase == 0x4F56_4C59 && w4 m (ovlBase + 4) == s.get F.YARD_PVER.version && decide (1 ≤ n) && decide (n ≤ 64)
    && natBe (Store.getList m (ovlBase + 12 + 12 * n) 16) == cmac false (kSealP root) b

/-- The overlay of the area is applied, or the area is zeroed; at start-up ovl_bad says so (R350, R356). -/
def restoreOverlay (s : State) (startup : Bool) : State :=
  let roots := (activeRoot s).toList ++ (rootOf s (partnerState (lifeState s))).toList
  let s := pchRun s 2 (12 + 12 * h2 s.loft.front (ovlBase + 8))
  if roots.any (areaValid s) then
    let l := areaEntries s
    let s := writeOverlay s l
    match activeRoot s with
    | some r => if areaValid s r then s else storeOverlay s r l
    | none => s
  else
    let s := (zeroOverlay s).set F.YARD_OVL.count 0
    if startup then s.set F.YARD_PSTAT.ovl_bad 1 else s

/-- A refused load (R350, R351): its reason and place are recorded; a start-up load from the Loft resets the chip, which
then waits for the host. -/
def planFail (s : State) (l : PlanLoad) (b : Nat × Nat) : State :=
  let s := (s.set F.YARD_PSTAT.reason b.1).set F.YARD_PWHERE.off b.2
  let s := s.modYard fun y => { y with load := none }
  if l.startup then (chipReset s F.RST_CAUSE.plan_fail).modYard fun y => { y with ignoreLoft := true }
  else planRest s

/-- Whether the test port holds EXTEST, HIGHZ or CLAMP, which keeps the loader from starting a load (R481). -/
def tapHolds (s : State) : Bool := s.tap.ir == 0 || s.tap.ir == 3 || s.tap.ir == 4

/-- The load of the plan region: SEAL is asked for the plan tag (R345, R347, R350), unless the load waits for the test port
(R481). -/
def loadRegion (s : State) (l : PlanLoad) : State :=
  let t := (setPlanState s psLoading).modYard fun y => { y with load := some l }
  if tapHolds s then t else pchAsk t (.seal 4) 2 (planLen (regionImage s) - 16)

/-- PLAN_LOAD_START (R349, R433, R436): after recall and seeding, not while roots are filled or keys are blocked; a plan that
ran when STANDBY began loads from the Loft under every source. -/
def planLoadStart (s : State) : State :=
  let filling := lifeState s == 0 && !s.flag F.KEYS_LC.root_fail
  if planState_ s = psNone ∧ domOn s 2 ∧ ¬ loftClosed s ∧ s.flag F.RNG_STAT.seeded ∧ ¬ filling
      ∧ ¬ s.flag F.KEYS_STAT.blocked then
    if (s.get F.RST_STRAP.src = 0 ∨ s.poll.planRan) ∧ ¬ s.yard.ignoreLoft then
      loadRegion s { staged := false, startup := true }
    else wakeOver (setPlanState s psWaitHost)
  else s

def execPlanLoadStart (s : State) : Host.Outcome State Fault Refusal := .next (planLoadStart s)

/-- What the plan tag of the region shows (R347): none under the active root, the partner root's acceptance, or a refusal. -/
def regionTag (s : State) (m : Mem) : Bad × Bool :=
  let ok := fun r => planTag m r == storedPlanTag m
  match activeRoot s, rootOf s (partnerState (lifeState s)) with
  | some a, some b => if ok a then (none, false) else if ok b then (none, true) else (some (rnSeal, planLen m - 16), false)
  | some a, none => (badIf (!ok a) rnSeal (planLen m - 16), false)
  | none, _ => (some (rnState, 0), false)

/-- PLAN_VERIFY_DONE (R347, R349, R350, R481): the SEAL result of the region's tag; a wipe makes the load start over. -/
def planVerifyDone (s : State) (status : BitVec 4) : State :=
  match s.yard.load with
  | some l =>
    if l.staged ∨ l.ready ∨ tapHolds s then s
    else
      let m := regionImage s
      let (s, st) := pchResult s (.seal 4) 2 (planLen m - 16) status.toNat
      if st = stBlocked ∨ st = stTamper then
        (setPlanState s (if l.startup then psNone else psWaitHost)).modYard fun y => { y with load := none }
      else
        let (tagBad, partner) := if st = stDone then regionTag s m else (some (rnSeal, planLen m - 16), false)
        match firstPass s m false tagBad, activeRoot s with
        | some b, _ => planFail s l b
        | none, none => planFail s l (rnState, 0)
        | none, some root =>
          let s := s.modYard fun y => { y with load := some { l with ready := true } }
          if partner then putFront s 0 (planLen m) (sealImage m root) else s
  | none => s

def execPlanVerifyDone (status : BitVec 4) (s : State) : Host.Outcome State Fault Refusal :=
  .next (planVerifyDone s status)

/-- The staging area is cleared. -/
def clearStaging (s : State) : State := { s with feed := Store.clear s.feed 0x8_0000 0x4_0000 }

/-- BEGIN (R352): with a tag and no change being applied, an import starts. -/
def planBegin (s : State) (tagged : Bool) : State :=
  let st := planState_ s
  if ¬ tagged ∨ st = psApplying ∨ st = psLoading ∨ st = psNone then s
  else (setPlanState (clearStaging s) psStaging).modYard fun y => { y with load := none }

def execBegin (tagged : Bool) (s : State) : Host.Outcome State Fault Refusal := .next (onDom s 2 (planBegin s tagged))

/-- PDATA_WRITE (R352). -/
def pdataWrite (s : State) (data : Word) (tagged : Bool) : State :=
  if tagged ∧ planState_ s = psStaging then
    let a := s.get F.YARD_PADDR.addr
    if 258048 ≤ a then s.set F.YARD_PSTAT.overrun 1
    else ({ s with feed := Mem.putWord s.feed (0x8_0000 + a) data } : State).set F.YARD_PADDR.addr (a + 4)
  else s

def execPdataWrite (data : Word) (tagged : Bool) (s : State) : Host.Outcome State Fault Refusal :=
  .next (onDom s 2 (pdataWrite s data tagged))

/-- APPLY (R347, R350, R352): the first pass over the staged image, then every tag is filled. -/
def planApplyCmd (s : State) (tagged : Bool) : State :=
  if tagged ∧ planState_ s = psStaging then
    let m := stagedImage s
    let l : PlanLoad := { staged := true, startup := false, ready := true }
    match firstPass s m true none, activeRoot s with
    | some b, _ => planFail s l b
    | none, none => planFail s l (rnState, 0)
    | none, some root =>
      let refusal := (sealLens m).findSome? fun n => pchRefusal s 2 n
      match refusal with
      | some _ => planFail s l (if s.flag F.KEYS_STAT.blocked then rnState else rnSeal, 0)
      | none =>
        let s := (sealLens m).foldl (fun t n => pchRun t 2 n) s
        let s : State := { s with feed := Store.copy s.feed (sealImage m root) 0x8_0000 0 (planLen m) }
        (setPlanState s psPending).modYard fun y => { y with load := some l }
  else s

def execApply (tagged : Bool) (s : State) : Host.Outcome State Fault Refusal := .next (onDom s 2 (planApplyCmd s tagged))

/-- CANCEL (R352): in STAGING or PENDING. -/
def planCancel (s : State) (tagged : Bool) : State :=
  if tagged ∧ (planState_ s = psStaging ∨ planState_ s = psPending) then
    let s := (clearStaging s).modYard fun y => { y with load := none }
    planRest (s.set F.YARD_PSTAT.reason rnAborted)
  else s

def execCancel (tagged : Bool) (s : State) : Host.Outcome State Fault Refusal := .next (onDom s 2 (planCancel s tagged))

/-- USE_LOFT (R349): under the Host source while the loader waits; refused in recovery wait. -/
def useLoft (s : State) (tagged : Bool) : State :=
  if tagged ∧ planState_ s = psWaitHost ∧ s.get F.RST_STRAP.src = 1 ∧ ¬ s.yard.ignoreLoft then
    loadRegion s { staged := false, startup := false }
  else s

def execUseLoft (tagged : Bool) (s : State) : Host.Outcome State Fault Refusal := .next (onDom s 2 (useLoft s tagged))

/-- The block enables the plan gives a starting value (R19): a change acts as a write of the enable; sessions whose paddock
the plan dropped end before (R212). -/
def enableActs : List (Fld × (State → Bool → State)) :=
  [(F.LF_CTRL.syn_en, synEnWrite), (F.LF_CTRL.lfa_en, fun s v => bankEnWrite s .lfa v),
   (F.LF_CTRL.lfb_en, fun s v => bankEnWrite s .lfb v), (F.UHF_CTRL.u0_en, fun s v => uEnWrite s false v),
   (F.UHF_CTRL.u1_en, fun s v => uEnWrite s true v), (F.UWB_CTRL.rf_en, rfEnWrite), (F.SOLV_CTRL.en, solvEnWrite),
   (F.VERD_CTRL.en, verdEnWrite), (F.SESS_CTRL.en, fun s v => sessEnWrite (sessPlanCheck s) v), (F.POLL_CTRL.en, pollEnWrite), (F.RNG_CTRL.en, rngEnWrite)]

/-- Every plan-valued field returns to 0 and takes its value from the image (R335, R350). -/
def applyWords (s : State) (m : Mem) : State :=
  let w := planWords m
  let s : State := { s with rng := { s.rng with planned := true } }
  let old := enableActs.map fun e => s.flag e.1
  let regs := Store.mapCells s.regs fun a v => v &&& ~~~(BitVec.ofNat 32 (planMask a))
  let s : State := { s with regs := w.foldl (fun r e => Store.put r e.1 (Store.get r e.1 ||| e.2)) regs }
  let new := enableActs.map fun e => s.flag e.1
  let s := uwbTrims ((enableActs.zip old).foldl (fun t e => t.put e.1.1 e.2) s)
  ((enableActs.zip old).zip new).foldl (fun t e => if e.1.2 = e.2 then t else e.1.1.2 t e.2) s

/-- Counters whose plan-valued fields an apply changed start anew (R373). -/
def tallyApply (s : State) (cfg : List (Word × Bool)) : State :=
  (List.range 16).foldl
    (fun t n =>
      let now := (t.word (F.TALLY_CFG.mode n).addr, t.bitAt F.TALLY_EN.en n)
      if cfg.getD n (0, false) = now then t else tallyRestart t n) s

/-- The sealed regions not yet verified are verified under the active root or, once, the partner's (R260, R303); one that
fails is zeroed and sealed anew. A region that SEAL cannot verify stays unverified. -/
def verifySeals (s : State) : State :=
  (List.range 4).foldl
    (fun t q =>
      match sealRegion t q, activeRoot t with
      | some (b, n), some root =>
        if t.flag (F.LOFT_SEAL.verified q) then t
        else
          let (t, st) := pchTry t 3 (12 + n - 16)
          if st ≠ stDone then t
          else
          let t := t.set (F.LOFT_SEAL.verified q) 1
          if storedTag t q = sealTag t (kSealL root) q then t
          else if (rootOf t (partnerState (lifeState t))).any fun r => storedTag t q == sealTag t (kSealL r) q then
            askTag (t.set (F.LOFT_SEAL.resealing q) 1) q
          else
            let t : State := { t with loft := { t.loft with front := Store.clear t.loft.front b n } }
            let t := putTag t q (sealTag t (kSealL root) q)
            healthFault (t.set F.LOFT_STAT.seal_bad 1) F.HLTH_EVT.loft
      | _, _ => t) s

/-- A sealed region whose place a plan changes is not verified (R303). -/
def sealsChanged (s : State) (old : List (Nat × Nat)) : State :=
  (List.range 4).foldl
    (fun t q =>
      let now := (t.get (F.LOFT_SEAL.page q), t.get (F.LOFT_SEAL.npg q))
      if old.getD q (0, 0) = now then t else (t.set (F.LOFT_SEAL.verified q) 0).set (F.LOFT_SEAL.resealing q) 0) s

/-- The registers that show the running plan's stalls and routes. -/
def showStalls (s : State) : State :=
  let s := (s.zero (F.YARD_STALL.present 0).addr 15)
  let s := (List.range 15).foldl
    (fun t q =>
      let r := t.yard.routes.getD q {}
      let on := (List.range 8).find? fun e => stallOf t e == q && engState t e != gIdle && engState t e != gLoading
      let t := t.sets [(F.YARD_ROUTE_W0.rd_mask q, r.rd), (F.YARD_ROUTE_W4.wr_mask q, r.wr), (F.YARD_STALL.engine q, on.getD 15)]
      match stallDesc t q with
      | some d => t.sets [(F.YARD_STALL.present q, 1), (F.YARD_STALL.plane q, d.plane), (F.YARD_STALL.check q, b2n d.check),
          (F.YARD_STALL.essential q, b2n d.essential)]
      | none => t) s
  s

/-- Whether an engine's stall is the same in both plans: descriptor, itag and route (R352). -/
def stallKept (old : YardState) (s : State) (e : Nat) : Bool :=
  let q := stallOf s e
  q != 15 && engState s e != gLoading && (stallDesc s q).isSome
    && old.stalls.find? (fun d => d.index == q) == stallDesc s q && old.routes.getD q {} == s.yard.routes.getD q {}

/-- Engines whose stall changes are stopped, and the stalls to install are listed in ascending index (R329, R352). -/
def planInstalls (s : State) (old : YardState) (startup : Bool) : State :=
  let kept := (List.range 8).filter (stallKept old s)
  let s := (List.range 8).foldl
    (fun t e =>
      if kept.contains e then
        t.sets [(F.GROOM_STAT.restarts e, 0), (F.GROOM_STAT.reload_pend e, 0), (F.GROOM_STAT.move_pend e, 0)]
      else if stallOf t e = 15 then t
      else idleEngine (stopStall t (Fin.ofNat 8 e)) e 0) s
  let have_ := kept.map (stallOf s)
  let want := (List.range 15).filterMap fun q =>
    match stallDesc s q with
    | some d => if d.engine < 8 ∧ ¬ have_.contains q then some ({ stall := q, engine := d.engine, startup := startup } : Install)
      else none
    | none => none
  s.modYard fun y => { y with installs := want, moves := [], installing := true }

/-- An engine is held in LOADING while SEAL recomputes its stall's image tag (R326, R346). -/
def loadStall (s : State) (e q restarts : Nat) : State :=
  let s := loadEngine s e q restarts
  match stallDesc s q with
  | some d => pchAsk s (.seal (8 + e)) 2 (9 + d.imgLen + d.datLen)
  | none => s

/-- The next install that waits begins (R326, R329). -/
def nextInstall (s : State) : State :=
  if s.yard.installs.any (·.running) then s
  else
    match s.yard.installs.find? fun i => !i.deferred with
    | some i =>
      let s := s.modYard fun y => { y with
        installs := y.installs.map fun j => if j = i then { j with running := true } else j }
      loadStall s i.engine i.stall 0
    | none => s

/-- Mesh seeds are drawn at an apply (R449): the words come from the expander and are free values. -/
def meshSeed (s : State) : State :=
  let (k, s) := s.fresh
  let (j, s) := s.fresh
  { s with hlth := { s.hlth with lfsr := [(Config.freeWord k).toNat, (Config.freeWord j).toNat] } }

/-- What an apply takes from the sections that are no registers (R336 to R343). -/
def applySections (s : State) (m : Mem) : State :=
  let at_ := fun t => (sectOf m t).map (·.off)
  let aer := (at_ 5).getD 0
  let ses := (at_ 0xC).getD 0
  let enr := (at_ 0x10).getD 0
  let yrd := (at_ 0x11).getD 0
  let s := s.modYard fun y => { y with
    stalls := descs m
    routes := (List.range 15).map fun q => routeOf m (yrd + 64 * q)
    enrolMap := h2 m enr, hpAdmit := h2 m (enr + 2), groups := w4 m (enr + 4), tctrOff := w4 m (enr + 8)
    genRing := b1 m ses, failRing := b1 m (ses + 1)
    refs := (List.range 12).map fun n => (b1 m (aer + 4 * n), h2 m (aer + 4 * n + 2) % 1024)
    planRegs := planWords m, ovlOld := [] }
  let (model, ok) : Mem × Bool := match sectOf m 8 with
    | some c => (Store.window m c.off c.len, gridOk s)
    | none => ([], false)
  let s : State := { s with solv := { s.solv with model := model } }
  s.put F.SOLV_STAT.model_ok ok

/-- Steps 1 to 4 of the second pass (R350) with everything the chapters tie to a plan load. -/
def secondPass (s : State) (m : Mem) : State :=
  let cfg := (List.range 16).map fun n => (s.word (F.TALLY_CFG.mode n).addr, s.bitAt F.TALLY_EN.en n)
  let seals := (List.range 4).map fun q => (s.get (F.LOFT_SEAL.page q), s.get (F.LOFT_SEAL.npg q))
  let s := applySections (applyWords s m) m
  let s := sealsChanged (tallyApply s cfg) seals
  let s := (s.set F.VERD_WIN.guard_plan (s.get F.VERD_WIN.guard)).setWord F.VERD_FARR.c_cable.addr 0
  let s := match lowestSet (s.get F.POLL_CFG.groups) 4 with
    | some g => s.set F.POLL_STAT.group g
    | none => s
  let due := (s.aonTs + orDefault (s.get F.HLTH_FARR_CFG0.period) 7 * 2831155200) % 2 ^ 48
  let s := s.sets [(F.HLTH_NEXT_LO.due_lo, due), (F.HLTH_NEXT_HI.due_hi, due / 2 ^ 32), (F.YARD_PVER.version, planVersion m),
    (F.YARD_PLEN.length, planLen m), (F.YARD_PBUILD_W0.build_lo, w4 m 0x18), (F.YARD_PBUILD_W4.build_hi, w4 m 0x1C),
    (F.HOST_STAT.plan_cfg, 1), (F.HOST_IRQSTAT.rdy, 1), (F.YARD_PSTAT.locked, 1)]
  let s : State := { s with hlth := { s.hlth with portChecked := false }, keys := { s.keys with tombs := [] } }
  let s := s.set F.KEYS_STAT.tomb_full 0
  let s := verifySeals (writeShadow (meshSeed s))
  let s := if domOn s 3 then rngServeHeld s else s
  let s := (List.range 4).foldl
    (fun t i => if domPolicy t (4 + i) % 3 = 0 then (if domOn t (4 + i) then t else domWant t (4 + i)) else t)
    (s.modYard fun y => { y with applied := true })
  manAllocate ((List.range 4).foldl (fun t i => if offAllowed t (4 + i) then offRequest t (4 + i) else t) s)

/-- The session manager after an apply (R220, R221): the generation is made ready on the first apply, and anew on one that
changes its ring. -/
def sessAfterApply (s : State) (oldRing : Nat × Word) : State :=
  let ring := (s.yard.genRing, s.word (F.LOFT_RCFG.nslots s.yard.genRing).addr)
  let s := sessPlanCheck (failResume s)
  if s.yard.firstApply then genResume (s.modYard fun y => { y with firstApply := false }) false
  else if ring = oldRing then s
  else genResume s true

/-- The generation ring of the plan in force with its settings. -/
def genRingNow (s : State) : Nat × Word := (s.yard.genRing, s.word (F.LOFT_RCFG.nslots s.yard.genRing).addr)

/-- Ring 0 takes the running plan's version where that is higher (R348). -/
def versionRing (s : State) : State :=
  let v := s.get F.YARD_PVER.version
  let s := s.modYard fun y => { y with ringDue := false }
  if ringLive s 0 < v then ringSet s 0 v else s

/-- An apply is complete (R20, R236, R352): plan_apply clears and latched triggers start. -/
def applyOver (s : State) : State :=
  nextTrig (deliverWake (setPlanState (s.set F.SYS_GATE_STAT.plan_apply 0) psRun))

/-- The second pass is complete (R348, R350, R352): ring 0 follows at once, after an import once its store has ended, and the
apply is over. -/
def finishApply (s : State) : State :=
  match s.yard.load with
  | some l =>
    if s.yard.installing ∧ s.yard.installs.all (·.deferred) then
      let s := s.modYard fun y => { y with load := none, installing := false }
      let s := (restoreOverlay s (!l.staged)).put F.YARD_PSTAT.source l.staged
      if l.staged ∧ ringLive s 0 < s.get F.YARD_PVER.version ∧ ¬ storeOver s wtPlan then s.modYard fun y => { y with ringDue := true }
      else applyOver (versionRing s)
    else s
  | none => s

/-- PLAN_APPLY (R266, R352, R354, R481): at a quiet point, once SEAL can serve and no test instruction holds an import back, the image is copied and stored (an import), the second pass runs and the
installs begin; an overlay that waits is discarded and a farrier pass ends. The system watchdog starts, or takes its new
period (R424), and the plan-configured balls leave their fuse-mapped state (R430). -/
def planApply (s : State) : State :=
  match s.yard.load with
  | some l =>
    if l.ready ∧ quiet s ∧ regionFree s ∧ ¬ s.yard.installing ∧ ¬ s.flag F.SYS_GATE_STAT.plan_apply
        ∧ (pchRefusal s 2 1).isNone ∧ ¬ (l.staged ∧ tapHolds s) then
      let m := if l.staged then stagedImage s else regionImage s
      let old := s.yard
      let ring := genRingNow s
      let s := s.set F.SYS_GATE_STAT.plan_apply 1
      let s := if l.staged then setPlanState s psApplying else s
      let s := farrierEnd s farrAborted
      let s := if s.yard.overlay.isSome then
          zeroOverlay ((s.set F.YARD_OVL.pending 0).modYard fun y => { y with overlay := none })
        else s
      let s := if l.staged then
          requestStoreFor (loaderCommits (putFront s 0 (planLen m) m) (planLen m)) wtPlan
        else s
      let per := s.get F.RST_WDOG.period
      let s := secondPass s m
      let s := if old.applied ∧ s.get F.RST_WDOG.period = per then s else s.set F.RST_WDOG.left (s.get F.RST_WDOG.period)
      let s := { sessAfterApply s ring with tap := { s.tap with fused := s.tap.fused &&& 0x1F0_0000 } }
      let s := if domOn s 4 then aerTake s false else s
      let s := if domOn s 5 then aerTake s true else s
      let s := showStalls (planInstalls s old l.startup)
      finishApply (nextInstall s)
    else s
  | none => s

def execPlanApply (s : State) : Host.Outcome State Fault Refusal := .next (planApply s)

/-- OVERLAY_APPLY (R201, R356, R444): at a quiet point the entries are written, the overlay area rewritten and a store
commanded; an entry that reaches past plan-valued fields refuses the overlay. -/
def overlayApply (s : State) : State :=
  match s.yard.overlay, activeRoot s with
  | some l, some root =>
    if quiet s ∧ regionFree s ∧ s.yard.load.isNone ∧ s.yard.applied ∧ (pchRefusal s 2 (12 + 12 * l.length)).isNone then
      let s := (s.modYard fun y => { y with overlay := none }).set F.YARD_OVL.pending 0
      if l.any fun e => outside e.mask (planMask e.addr) then farrierEnd s farrRefused
      else
        let s := requestStore (storeOverlay (writeOverlay s l) root l)
        farrierEnd s (if s.hlth.part then farrPartial else farrDone)
    else s
  | _, _ => s

def execOverlayApply (s : State) : Host.Outcome State Fault Refusal := .next (overlayApply s)

/-- After an install: the next one of an apply, or the end of a restart's change (R20, R329). -/
def afterInstall (s : State) : State :=
  let s := s.put F.YARD_PSTAT.deferred (s.yard.installs.any (·.deferred))
  if s.yard.installing then finishApply (nextInstall s)
  else nextTrig (s.set F.SYS_GATE_STAT.plan_apply 0)

/-- An install fails its tag (R326): the engine is IDLE with fault ECC; an essential stall is a plan-load failure. -/
def installFail (s : State) (e : Nat) (i : Install) (d : StallDesc) : State :=
  let s := healthFault (idleEngine s e fltEcc) F.HLTH_EVT.groom
  if d.essential then
    let s := (s.set F.YARD_PSTAT.reason rnStall).set F.YARD_PWHERE.off 0
    let s := chipReset s F.RST_CAUSE.plan_fail
    if i.startup then s.modYard fun y => { y with ignoreLoft := true } else s
  else afterInstall s

/-- STALL_INSTALL_DONE (R307, R326, R354): the SEAL result of a running install. -/
def stallInstallDone (s : State) (e : Fin 8) (status : BitVec 4) : State :=
  match s.yard.installs.find? fun i => i.running && i.engine == e.val with
  | some i =>
    let rest := s.yard.installs.filter fun j => j != i
    match stallDesc s i.stall with
    | none => afterInstall (idleEngine (s.modYard fun y => { y with installs := rest }) e 0)
    | some d =>
      let (s, st) := pchResult s (.seal (8 + e)) 2 (9 + d.imgLen + d.datLen) status.toNat
      if st = stBlocked ∨ (st = stTamper ∧ s.flag F.KEYS_STAT.blocked) then
        let s := idleEngine (s.modYard fun y => { y with installs := rest ++ [{ i with running := false, deferred := true }] }) e 0
        afterInstall s
      else
        let s := s.modYard fun y => { y with installs := rest }
        if st = stDone then
          let m := regionImage s
          if (activeRoot s).any fun r => itagOf m r d == d.itag then
            let image := Store.window m d.imgOff d.imgLen
            let data := Store.window m d.datOff d.datLen
            afterInstall (releaseEngine s e d image data)
          else installFail s e i d
        else installFail s e i d
  | none => s

def execStallInstallDone (e : Fin 8) (status : BitVec 4) (s : State) : Host.Outcome State Fault Refusal :=
  .next (stallInstallDone s e status)

/-- The lowest-numbered IDLE engine. -/
def lowestIdle (s : State) : Option Nat := (List.range 8).find? fun e => engState s e == gIdle

/-- A stall leaves one engine and is installed on another or the same (R327). -/
def restartOn (s : State) (e : Fin 8) (target : Nat) : State :=
  let q := stallOf s e
  let n := s.get (F.GROOM_STAT.restarts e)
  let s := stopStall s e
  let s := if target = e.val then s else idleEngine s e 0
  let s := (s.set (F.GROOM_STAT.reload_pend e) 0).set (F.GROOM_STAT.move_pend e) 0
  let i : Install := { stall := q, engine := target, from_ := some e.val, running := true }
  let s := s.modYard fun y => { y with moves := y.moves.filter (fun m => m.1 != e.val), installs := y.installs ++ [i] }
  loadStall (s.set F.SYS_GATE_STAT.plan_apply 1) target q n

/-- STALL_RESTART (R324, R327, R328, R354): one deferred install, reload or move per quiet point. -/
def stallRestart (s : State) (e : Fin 8) : State :=
  if quiet s ∧ s.yard.applied ∧ s.yard.load.isNone ∧ ¬ s.flag F.SYS_GATE_STAT.plan_apply
      ∧ ¬ s.flag F.KEYS_STAT.blocked ∧ ¬ s.yard.installs.any (·.running) then
    match s.yard.installs.find? fun i => i.engine == e.val with
    | some i =>
      let s := s.modYard fun y => { y with
        installs := y.installs.map fun j => if j = i then { j with running := true, deferred := false } else j }
      loadStall (s.set F.SYS_GATE_STAT.plan_apply 1) e i.stall 0
    | none =>
      if stallOf s e = 15 then s
      else if s.flag (F.GROOM_STAT.reload_pend e) then restartOn s e e
      else if s.flag (F.GROOM_STAT.move_pend e) then
        match s.yard.moves.find? fun m => m.1 == e.val with
        | some (_, some t) =>
          if engState s t = gIdle then restartOn s e t
          else (s.set (F.GROOM_STAT.wr_refused e) 1).set (F.GROOM_STAT.move_pend e) 0
        | _ => restartOn s e ((lowestIdle s).getD e)
      else s
  else s

def execStallRestart (e : Fin 8) (s : State) : Host.Outcome State Fault Refusal := .next (stallRestart s e)

/-- A wipe meets the loader (R354): an import not yet copied ends with reason STATE; installs that have not started are
deferred. -/
def yardWipe (s : State) : State :=
  let s := if planState_ s = psStaging ∨ planState_ s = psPending then
      planRest ((s.set F.YARD_PSTAT.reason rnState).modYard fun y => { y with load := none })
    else s
  if s.yard.installing then
    let s := s.modYard fun y => { y with
      installs := y.installs.map fun i => if i.running then i else { i with deferred := true } }
    let s := s.put F.YARD_PSTAT.deferred (s.yard.installs.any (·.deferred))
    finishApply s
  else s

/-- STORE_DONE (R220, R289, R290, R348, R352): the store ends and those who wait for it go on. -/
def storeDone (s : State) : State :=
  match s.loft.store with
  | some r =>
    if r.begun then
      let s := storeEnd s r
      if r.pf then s
      else
        let s := genStoreDone s
        if s.yard.ringDue ∧ storeOver s wtPlan then applyOver (versionRing s) else s
    else s
  | none => s

def execStoreDone (s : State) : Host.Outcome State Fault Refusal := .next (storeDone s)

end Sys2Proof.Machine
end

