-- ==== Sys2Proof/Machine/LifeCycle.lean ====
section
/-!
DEFINITION. The life cycle, the export path and KEYS_CLEAR (R259 to R266).
-/
namespace Sys2Proof.Machine

/-- Changes the key tree's hidden state. -/
def State.modKeys (s : State) (f : KeysState → KeysState) : State := { s with keys := f s.keys }

/-- Whether a life-cycle command is refused for now (R260): the point is not quiet, a session or a key operation runs, an import is
pending, or an earlier command runs. -/
def lcBusy (s : State) : Bool :=
  !quiet s || s.flag F.SESS_STAT.entry_open || s.flag F.SESS_STAT.start_open || !s.ciph.ops.isEmpty
    || s.yard.load.isSome || planState_ s == psStaging || s.keys.lcPend.isSome || s.flag F.SYS_GATE_STAT.plan_apply

/-- Sets the status of a life-cycle command. -/
def lcStatus (s : State) (st : Nat) : State := s.set F.KEYS_LCCMD.status st

/-- The plan, the overlay and every sealed Loft object are sealed under a new root (R260). -/
def resealAll (s : State) (old new : Nat) : State :=
  let m := regionImage s
  let s := if (checkHeader m).isNone && planTag m old == storedPlanTag m then
      let s := (sealLens m).foldl (fun t n => pchRun t 2 n) s
      putFront s 0 (planLen m) (sealImage m new)
    else s
  let s := if areaValid s old then storeOverlay s new (areaEntries s) else s
  (List.range 4).foldl
    (fun t q =>
      match sealRegion t q with
      | some (_, n) => if t.flag (F.LOFT_SEAL.verified q) then putTag (pchRun t 3 (12 + n - 16)) q (sealTag t (kSealL new) q) else t
      | none => t) s

/-- The objects are resealed under the next state's keys and the store follows; before the end of recall, and while a commit
copies, this waits (R260, R292). -/
def lcReseal (s : State) : State :=
  match s.keys.lcPend with
  | none => s
  | some t =>
    if loftClosed s || s.loft.commit.isSome then s.modKeys fun k => { k with lcWait := true }
    else
      match activeRoot s, rootOf s (lcCode t) with
      | some old, some new => wipeSlots (requestStoreFor ((resealAll s old new).modKeys fun k => { k with lcWait := false }) wtLife)
      | _, _ => s

/-- The resealing that waited runs. -/
def lcResume (s : State) : State := if s.keys.lcWait then lcReseal s else s

/-- COMMIT_END (R286, R302), and a transition that waited for it (R260). -/
def execCommitEnd (s : State) : Host.Outcome State Fault Refusal := .next (lcResume (commitEnd s))

/-- RECALL_DONE (R291, R293), and a transition that waited for it (R260). -/
def execRecallDone (ecc : RecallEcc) (s : State) : Host.Outcome State Fault Refusal := .next (lcResume (recallDone s ecc))

/-- An accepted transition (R260): the handles are wiped, the objects resealed, and a store follows; RETIRED has nothing to
store. -/
def lcAccept (s : State) (t : LcTarget) : State :=
  let s := lcStatus (wipeSlots s) stBusy
  let s := s.modKeys fun k => { k with lcPend := some t }
  match t with
  | .retired => s
  | _ => lcReseal s

/-- GO_FIELD (R259, R260), from MAKER or SHOP. -/
def goField (s : State) (tagged : Bool) : State :=
  if ¬ tagged then s
  else if lifeState s ≠ 1 ∧ lifeState s ≠ 3 then lcStatus s stDenied
  else if s.flag F.LOFT_STAT.gen_end then lcStatus s stDenied
  else if s.flag F.KEYS_STAT.blocked then lcStatus s stBlocked
  else if lcBusy s then lcStatus s stBusy
  else lcAccept s .field

def execGoField (tagged : Bool) (s : State) : Host.Outcome State Fault Refusal := .next (onDom s 3 (goField s tagged))

/-- GO_SHOP (R259, R260), from FIELD; LIMIT after 256 entries. -/
def goShop (s : State) (tagged : Bool) : State :=
  if ¬ tagged then s
  else if lifeState s ≠ 2 then lcStatus s stDenied
  else if 256 ≤ s.get F.KEYS_LC.shop_cnt then lcStatus s stLimit
  else if s.flag F.LOFT_STAT.gen_end then lcStatus s stDenied
  else if s.flag F.KEYS_STAT.blocked then lcStatus s stBlocked
  else if lcBusy s then lcStatus s stBusy
  else lcAccept s .shop

def execGoShop (tagged : Bool) (s : State) : Host.Outcome State Fault Refusal := .next (onDom s 3 (goShop s tagged))

/-- RETIRE (R259, R260, R262), from MAKER, FIELD or SHOP, with confirm 0xA5. -/
def retire (s : State) (confirm : BitVec 8) (tagged : Bool) : State :=
  if ¬ tagged then s
  else if confirm ≠ 0xA5#8 then lcStatus s stDenied
  else if (activeRoot s).isNone then lcStatus s stDenied
  else if s.flag F.LOFT_STAT.gen_end then lcStatus s stDenied
  else if lcBusy s then lcStatus s stBusy
  else lcAccept s .retired

def execRetire (confirm : BitVec 8) (tagged : Bool) (s : State) : Host.Outcome State Fault Refusal :=
  .next (onDom s 3 (retire s confirm tagged))

/-- LC_CMD_REFUSED (KEYS_LCCMD): codes 0 and 4 to 15; codes 1 to 3 have rows of their own. -/
def lcCmdRefused (s : State) (cmd : BitVec 4) (tagged : Bool) : State :=
  if tagged ∧ (cmd.toNat = 0 ∨ 4 ≤ cmd.toNat) then lcStatus s stDenied else s

def execLcCmdRefused (cmd : BitVec 4) (tagged : Bool) (s : State) : Host.Outcome State Fault Refusal :=
  .next (onDom s 3 (lcCmdRefused s cmd tagged))

/-- Places a wrapped key in KEYS_WOUT (R263): W and the leftmost 64 bits of its CMAC under KT. -/
def putWrapped (s : State) (kt id : Nat) (ctx : List Byte) (key : Nat) : State :=
  let w := bytesBe (aesEnc false kt key) 16
  let t := (bytesBe (cmac false kt (ascii "WRAP" ++ bytesBe id 1 ++ ctx ++ w)) 16).take 8
  let out := w ++ t
  let s := (List.range 6).foldl (fun t n => t.set (F.KEYS_WOUT.w n) (natLe ((out.drop (4 * n)).take 4))) s
  s.modKeys fun k => { k with woutRead := 0 }

/-- The itags of the running plan's stalls follow the image the transition resealed. -/
def refreshItags (s : State) : State :=
  match activeRoot s with
  | some r =>
    let m := regionImage s
    s.modYard fun y => { y with stalls := y.stalls.map fun d => { d with itag := itagOf m r d } }
  | none => s

/-- Every unprogrammed bit of the root slots is programmed; keys, handles and records are lost, and so are operations begun since
the command was accepted (R256, R262). -/
def destroyRoots (s : State) : State :=
  ((loseHandles s).set F.KEYS_STAT.tomb_full 0).modKeys fun k =>
    { k with roots := k.roots.map fun r => { r with key := 2 ^ 256 - 1, programmed := true }, tombs := [] }

/-- The state bits of a transition are programmed and the link binds anew (R259 to R262, R385). -/
def lcProgram (s : State) (t : LcTarget) : State :=
  let old := lifeState s
  let from_ := activeRoot s
  let s := setLc s F.KEYS_LC.state (lcCode t)
  let s := s.modKeys fun k => { k with lcPend := none, kt := 0, ktMask := 0 }
  let s := match t with
    | .field => if old = 3 then s.modKeys fun k => { k with exits := k.exits + 1 } else s
    | .shop => setLc s F.KEYS_LC.shop_cnt (s.get F.KEYS_LC.shop_cnt + 1)
    | .retired => destroyRoots s
  let s := match from_, activeRoot s with
    | some a, some b => if old = 3 then s else putWrapped s (kHost a) 1 [] (kHost b)
    | _, _ => s
  let s := refreshItags (loseHandles s)
  lcStatus (hostUnbind s true) stDone

/-- LC_STATE_PROGRAM (R260): once the store has committed; a store refused under gen_end ends the command. -/
def lcStateProgram (s : State) : State :=
  match s.keys.lcPend with
  | some .retired => lcProgram s .retired
  | some t =>
    if s.keys.lcWait ∨ ¬ storeOver s wtLife then s
    else if s.flag F.LOFT_STAT.gen_end then lcStatus (s.modKeys fun k => { k with lcPend := none }) stDenied
    else lcProgram s t
  | none => s

def execLcStateProgram (s : State) : Host.Outcome State Fault Refusal := .next (lcStateProgram s)

/-- Whether an untagged bootstrap access is open (R264): in MAKER before the export of K_HOST. -/
def bootOpen (s : State) : Bool := lifeState s == 1 && !s.keys.boot

/-- Whether a PRIV access of the key block takes effect: tagged outside RETIRED, or in the bootstrap (R262, R264). -/
def keysPriv (s : State) (tagged : Bool) : Bool := (tagged && lifeState s != 4) || bootOpen s

/-- KEYS_IMP_WRITE (R263, R264): bytes 4n to 4n + 3 of KT. -/
def keysImpWrite (s : State) (n : Fin 4) (data : Word) (tagged : Bool) : State :=
  if keysPriv s tagged then
    let b := bytesBe s.keys.kt 16
    let kt := natBe (b.take (4 * n) ++ bytesLe data.toNat 4 ++ b.drop (4 * n + 4))
    s.modKeys fun k => { k with kt := kt, ktMask := setBit k.ktMask n }
  else s

def execKeysImpWrite (n : Fin 4) (data : Word) (tagged : Bool) (s : State) : Host.Outcome State Fault Refusal :=
  .next (onDom s 3 (keysImpWrite s n data tagged))

/-- The context of an exported id and its key (R248, R263). -/
def exportKey (s : State) (root id index : Nat) : Option (List Byte × Nat) :=
  if id = 1 then some ([], kHost root)
  else if id = 4 then some (vidBytes s ++ relgenBytes s, kRel s root)
  else if id = 5 then some (vidBytes s ++ bytesBe index 1, kTok s root index)
  else none

/-- An export begins (R263): the key is derived into a slot of the tree, wrapped and tagged on the cores; FULL without a slot. The
slot reads owner 9 (log entry 167). -/
def exportBegin (s : State) (id : Nat) (ctx : List Byte) (key : Nat) : State :=
  match freeSlot s with
  | none => s.set F.KEYS_WRAP.status stFull
  | some h =>
    let s := fillSlot s h { key := key, depth := 1, owner := 9, id := id, ctx := ctx, limE := maxE s }
    let n := 3 + 1 + cmacBlocks (4 + 1 + ctx.length + 16) + 1
    (addOp s { who := .exp, left := n, slot := h, input := s.keys.kt, derId := id, derCtx := ctx }).set F.KEYS_WRAP.status stBusy

/-- KEYS_WRAP_START (R263, R264, R268): a key leaves wrapped under the imported KT, which serves once. Id 1 leaves only in the
MAKER bootstrap, and an untagged export only with it. A start while an export is BUSY changes nothing. -/
def keysWrapStart (s : State) (id : BitVec 5) (index : BitVec 4) (tagged : Bool) : State :=
  if keysPriv s tagged ∧ (opOf s .exp).isNone then
    let s := (s.set F.KEYS_WRAP.id id.toNat).set F.KEYS_WRAP.index index.toNat
    let boot := bootOpen s
    if s.flag F.KEYS_STAT.blocked then s.set F.KEYS_WRAP.status stBlocked
    else if s.keys.ktMask ≠ 15 ∨ boot ≠ (id.toNat = 1) then s.set F.KEYS_WRAP.status stDenied
    else
      match activeRoot s with
      | none => s.set F.KEYS_WRAP.status stDenied
      | some root =>
        match exportKey s root id.toNat index.toNat with
        | none => s.set F.KEYS_WRAP.status stDenied
        | some (ctx, key) => exportBegin s id.toNat ctx key
  else s

def execKeysWrapStart (id : BitVec 5) (index : BitVec 4) (tagged : Bool) (s : State) :
    Host.Outcome State Fault Refusal :=
  .next (onDom s 3 (keysWrapStart s id index tagged))

/-- KEYS_WOUT_READ (R263): after a complete host read the six words read 0. -/
def keysWoutRead (s : State) : State := (s.zero (F.KEYS_WOUT.w 0).addr 6).modKeys fun k => { k with woutRead := 0 }

def execKeysWoutRead (s : State) : Host.Outcome State Fault Refusal := .next (onDom s 3 (keysWoutRead s))

/-- A host read of one word of KEYS_WOUT; the last of the six empties them. -/
def keysWoutWord (s : State) (n : Nat) : State :=
  let s := s.modKeys fun k => { k with woutRead := setBit k.woutRead n }
  if s.keys.woutRead = 63 then keysWoutRead s else s

/-- Whether a source whose latch bit is set is live (R452). -/
def latchedLive (s : State) : Bool :=
  (List.range 8).any fun i => s.bitAt F.HLTH_TMP_LATCH.latch i && s.bitAt F.HLTH_TMP_LIVE.live i

/-- KEYS_CLEAR (R266, R452). -/
def keysClear (s : State) (tagged : Bool) : State :=
  if tagged ∧ lifeState s ≠ 4 ∧ ¬ latchedLive s then s.set F.KEYS_STAT.blocked 0 else s

def execKeysClear (tagged : Bool) (s : State) : Host.Outcome State Fault Refusal := .next (onDom s 3 (keysClear s tagged))

end Sys2Proof.Machine
end

