-- ==== Sys2Proof/Machine/Cores.lean ====
section
/-!
DEFINITION. The bridle cores at work (R239 to R242): dispatch, the end of a block, and what its operation's last block releases.
-/
namespace Sys2Proof.Machine

/-- CORE_DISPATCH (R239, R241, R484). -/
def execCoreDispatch (s : State) : Host.Outcome State Fault Refusal := .next (coreDispatch (verdKick s))

/-- An export completes (R263, R264): the wrapped key stands in KEYS_WOUT, KT has served, and the derived key is freed. -/
def expComplete (s : State) (o : CoreOp) : State :=
  let s := putWrapped (dropOp s .exp) o.input o.derId o.derCtx (keySlot s o.slot).key
  let s := (freeSlotTree s o.slot).modKeys fun k => { k with kt := 0, ktMask := 0, boot := k.boot || o.derId == 1 }
  s.set F.KEYS_WRAP.status stDone

/-- The cores of a completed block are free: both of a CMAC block, the one of a raw block. -/
def freeCoresOf (s : State) (o : CoreOp) (core : Nat) : State :=
  { s with ciph := { s.ciph with
      cores := if rawOp o then s.ciph.cores.set core none else s.ciph.cores.map fun c => if c == some o.who then none else c } }

/-- What an operation's last block releases (R242, R247, R263, R484); a privileged message's result comes by its user's step. -/
def opComplete (s : State) (o : CoreOp) : State :=
  match o.who with
  | .ech e => echComplete s e o
  | .der e => derComplete s e o
  | .verd => preStageEnd s o
  | .exp => expComplete s o
  | _ => addOp (dropOp s o.who) { o with left := 0 }

/-- BLOCK_DONE (R240): a core's block and its check complete. A mismatch ends the operation with FAULT; an operation to
end does so at this boundary; the last block releases the output. -/
def blockDone (s : State) (core : Fin 4) (mismatch : Bool) : State :=
  match s.ciph.cores.getD core none with
  | none => s
  | some u =>
    match opOf s u with
    | none => dropOp s u
    | some o =>
      let s := s.wrapInc F.CIPH_CNT.blocks
      if mismatch then
        let s := (s.bump F.CIPH_FAULT.count).set F.CIPH_FAULT.last_req (faultReq u)
        healthFault (endOp (s.set F.CIPH_STAT.fault 1) u stFault) F.HLTH_EVT.ciph
      else
        match o.ending with
        | some st => endOp s u st
        | none =>
          if o.left ≤ 1 then opComplete s o
          else
            let s := freeCoresOf s o core
            { s with ciph := { s.ciph with
                ops := s.ciph.ops.map fun p => if p.who = u then { p with left := p.left - 1 } else p } }

def execBlockDone (core : Fin 4) (mismatch : Bool) (s : State) : Host.Outcome State Fault Refusal :=
  .next (blockDone s core mismatch)

end Sys2Proof.Machine
end

