-- ==== Sys2Proof/Machine/Hlth.lean ====
section
/-!
DEFINITION. The health monitor (chapter 19): the farrier pass, the scrubber, the tamper sources and the latch in PD_AON.
-/
namespace Sys2Proof.Machine

/-- Changes the health monitor's state. -/
def State.modHlth (s : State) (f : HlthState → HlthState) : State := { s with hlth := f s.hlth }

/-- The class of a tamper source; the reserved class acts as WIPE_RESET (R450). -/
def tamperClass (s : State) (src : Nat) : Nat := min 2 (s.get F.HLTH_TMP_CFG.class_ / 4 ^ src % 4)

/-- Whether a key operation, a derivation or a life-cycle transition is in flight (R260, R265, R450). -/
def keysBusy (s : State) : Bool := !s.ciph.ops.isEmpty || s.host.checking.isSome || s.keys.lcPend.isSome

/-- What a key-wiping tamper does (R133, R182, R196, R210, R265, R278, R354, R450). -/
def tamperWipe (s : State) : State := yardWipe (verdWipe (endSessions (wipeHandles s) endTamper))

/-- The action of a latched tamper (R434, R450, R451): a wake in STANDBY and BURST; before PD_TACK is released the sequence halts;
every class wipes before a plan applies; the class decides while a plan runs. -/
def tamperAct (s : State) (src : Nat) : State :=
  let s := if s.get F.POLL_STAT.state = 0 then s else s.set F.POLL_WAKE.tamper 1
  if asleep s then startWaking s
  else if ¬ domOn s 3 then (if seqDomain s = some 3 then tamperHalt s else s)
  else if ¬ s.yard.applied then tamperWipe s
  else
    let c := tamperClass s src
    let s := if c ≠ 0 ∨ keysBusy s then tamperWipe s else s
    if c = 2 then chipReset s F.RST_CAUSE.tamper else s

/-- A tamper source latches (R444, R448, R450, R454): the latch, the count, the event, tally code 0x0F; a farrier pass ends
and hands no overlay over, and a STANDBY request whose store runs is cancelled (R235). -/
def tamperLatch (s : State) (src : Nat) : State :=
  let s := (s.putBit F.HLTH_TMP_LATCH.latch src true).bump F.HLTH_TMP_CNT.events
  let s := (s.set F.HLTH_TMP_CNT.last src).set F.HLTH_EVT.tamper 1
  let s := tallyEvent (s.modPoll fun p => { p with sleepReq := false }) 0x0F
  let s := if s.get F.HLTH_STAT.farr_step = 0 then s
    else farrierEnd ((s.set F.YARD_OVL.pending 0).modYard fun y => { y with overlay := none }) farrAborted
  tamperAct s src

/-- A source's condition: it latches when it becomes live (R448). -/
def sourceLive (s : State) (src : Nat) (live : Bool) : State :=
  let was := s.bitAt F.HLTH_TMP_LIVE.live src
  let s := s.putBit F.HLTH_TMP_LIVE.live src live
  if live && !was then tamperLatch s src else s

/-- The mode of a tamper ball (R449). -/
def tamperMode (s : State) (n : Nat) : Nat := s.get F.HLTH_TMP_CFG.mode / 4 ^ n % 4

/-- One sample of a tamper input: live after two in a row (R449). -/
def tamperRun (s : State) (n : Nat) (hit : Bool) : State :=
  let run := if hit then s.hlth.tmpRun.getD n 0 + 1 else 0
  let s := s.modHlth fun h => { h with tmpRun := h.tmpRun.set n (min run 2) }
  sourceLive s n (decide (2 ≤ run))

/-- TMP_SAMPLE (R448, R449): the switch-mode inputs, every 32 AON ticks; an unused input and a mesh driver are no active sources. -/
def tmpSample (s : State) (levels : BitVec 4) : State :=
  (List.range 4).foldl
    (fun t n =>
      match tamperMode t n with
      | 1 => tamperRun t n (!bit levels.toNat n)
      | 2 => tamperRun t n (bit levels.toNat n)
      | 3 => if n % 2 = 0 then tamperRun t n false else t
      | _ => tamperRun t n false) s

def execTmpSample (levels : BitVec 4) (s : State) : Host.Outcome State Fault Refusal := .next (tmpSample s levels)

/-- One step of the 16-bit generator with taps 16, 14, 13 and 11, shifting towards its low bit (R449, log entry 15). -/
def lfsrStep (x : Nat) : Nat :=
  let b := b2n (bit x 0 != (bit x 2 != (bit x 3 != bit x 5)))
  x / 2 + 32768 * b

/-- MESH_STEP (R449): the generators of the pairs in mesh mode step. -/
def meshStep (s : State) : State :=
  (List.range 2).foldl
    (fun t p =>
      if tamperMode t (2 * p) = 3 then t.modHlth fun h => { h with lfsr := h.lfsr.modify p lfsrStep } else t) s

def execMeshStep (s : State) : Host.Outcome State Fault Refusal := .next (meshStep s)

/-- MESH_SAMPLE (R449): a receiver that does not read its driver's bit, twice in a row, is live. -/
def meshSample (s : State) (levels : BitVec 4) : State :=
  (List.range 2).foldl
    (fun t p =>
      if tamperMode t (2 * p) = 3 then
        tamperRun t (2 * p + 1) (bit levels.toNat (2 * p + 1) != bit (t.hlth.lfsr.getD p 0) 0)
      else t) s

def execMeshSample (levels : BitVec 4) (s : State) : Host.Outcome State Fault Refusal := .next (meshSample s levels)

/-- A glitch: its source is live for 1 ms and latches at every event (R448). -/
def glitch (s : State) (src : Nat) : State := tamperLatch (s.putBit F.HLTH_TMP_LIVE.live src true) src

/-- VOLTAGE_GLITCH (R448, R467): while a VDD18 domain is on; a brown-out of VDD18 disarms the low side. -/
def voltageGlitch (s : State) (lowSide : Bool) : State :=
  if (domOn s 2 ∨ domOn s 3) ∧ ¬ (lowSide ∧ s.rst.bor18) then glitch s 4 else s

def execVoltageGlitch (lowSide : Bool) (s : State) : Host.Outcome State Fault Refusal := .next (voltageGlitch s lowSide)

/-- CLOCK_GLITCH (R448): while PD_CORE or PD_TACK is on. -/
def clockGlitch (s : State) : State := if domOn s 2 ∨ domOn s 3 then glitch s 5 else s

def execClockGlitch (s : State) : Host.Outcome State Fault Refusal := .next (clockGlitch s)

/-- TEMP_SAMPLE (R448): Tj in °C, signed; two samples in a row beyond a limit make its source live. -/
def tempSample (s : State) (tj : BitVec 16) : State :=
  let cold := if tj.toInt < -55 then min 2 (s.hlth.cold + 1) else 0
  let hot := if 150 < tj.toInt then min 2 (s.hlth.hot + 1) else 0
  let s := s.modHlth fun h => { h with cold := cold, hot := hot }
  sourceLive (sourceLive s 6 (cold == 2)) 7 (hot == 2)

def execTempSample (tj : BitVec 16) (s : State) : Host.Outcome State Fault Refusal := .next (tempSample s tj)

/-- GLITCH_LIVE_END (R448): 1 ms after an event; false names the voltage glitch, true the clock glitch. -/
def glitchLiveEnd (s : State) (clock : Bool) : State := s.putBit F.HLTH_TMP_LIVE.live (if clock then 5 else 4) false

def execGlitchLiveEnd (b : Bool) (s : State) : Host.Outcome State Fault Refusal := .next (glitchLiveEnd s b)

/-- TMP_LATCH_CLEAR (R452): with a tag; a live source keeps its bit and sets clr_refused. -/
def tmpLatchClear (s : State) (data : Word) (tagged : Bool) : State :=
  if tagged then
    (List.range 8).foldl
      (fun t i =>
        if bit data.toNat i then
          if t.bitAt F.HLTH_TMP_LIVE.live i then
            if t.bitAt F.HLTH_TMP_LATCH.latch i then t.set F.HLTH_STAT.clr_refused 1 else t
          else t.putBit F.HLTH_TMP_LATCH.latch i false
        else t) s
  else s

def execTmpLatchClear (data : Word) (tagged : Bool) (s : State) : Host.Outcome State Fault Refusal :=
  .next (tmpLatchClear s data tagged)

/-- HLTH_TS_READ (R441): a read of HLTH_TS_LO copies bits [47:32]. -/
def hlthTsRead (s : State) : State := s.set F.HLTH_TS_HI.ts_hi (s.aonTs / 2 ^ 32)

def execHlthTsRead (s : State) : Host.Outcome State Fault Refusal := .next (hlthTsRead s)

/-- SCRUB (R251, R445, R446): a read of the protected words, as the command's operand shows them: no error, or a region 1 to
4 with "double-bit". A single-bit error of region 1 is corrected; every other error is critical. -/
def scrub (s : State) (err : Option (Fin 5 × Bool)) : State :=
  match err with
  | none => s
  | some (r, double) =>
    if r.val = 0 ∨ ¬ domOn s 2 then s
    else if r.val = 1 ∧ ¬ double then ((s.bump F.HLTH_CNT.corr).set F.HLTH_EVT.corr 1).set F.KEYS_STAT.ecc_corr 1
    else criticalError s r (r.val == 1)

def execScrub (err : Option (Fin 5 × Bool)) (s : State) : Host.Outcome State Fault Refusal := .next (scrub s err)

/-- FARRIER_DUE (R441): the timestamp has reached HLTH_NEXT; ignored while a pass runs. -/
def farrierDue (s : State) : State :=
  let due := s.get F.HLTH_NEXT_LO.due_lo + 2 ^ 32 * s.get F.HLTH_NEXT_HI.due_hi
  if due ≤ s.aonTs % 2 ^ 48 ∧ s.get F.HLTH_STAT.farr_step = 0 ∧ domOn s 2 then s.set F.HLTH_STAT.farr_pend 1 else s

def execFarrierDue (s : State) : Host.Outcome State Fault Refusal := .next (farrierDue s)

/-- FARR_START (R441): with a tag; ignored while a pass runs. -/
def farrStart (s : State) (tagged : Bool) : State :=
  if tagged ∧ s.get F.HLTH_STAT.farr_step = 0 then s.set F.HLTH_STAT.farr_pend 1 else s

def execFarrStart (tagged : Bool) (s : State) : Host.Outcome State Fault Refusal := .next (onDom s 2 (farrStart s tagged))

/-- Whether the block of a farrier step accepts its work (R93, R125, R141, R442). -/
def stepReady (s : State) (k : Nat) : Bool :=
  match k with
  | 1 => lfOwner s == ownIdle && !s.txn.open_
  | 2 => !s.txn.open_ && !s.uwb.calRun
  | 3 => !s.txn.open_ && domOn s 7 && !s.uwb.tscalRun
  | 4 => !loftClosed s
  | _ => true

/-- The work a farrier step starts (R442): calibration of every installed aerial, port check, interpolators, store. -/
def stepStart (s : State) (k : Nat) : State :=
  match k with
  | 1 =>
    let mask := s.get F.LF_CAL_CTRL.mask
    let all := ((List.range 12).filter fun n => s.flag (F.LF_AER_CFG.installed n)).foldl setBit 0
    (calStart (s.set F.LF_CAL_CTRL.mask all)).set F.LF_CAL_CTRL.mask mask
  | 2 => uwbCalStart s
  | 3 => tscalStart s
  | 4 => requestStoreFor s wtFarr
  | _ => s

/-- Whether the work of a step that began has ended. -/
def stepOver (s : State) (k : Nat) : Bool :=
  match k with
  | 1 => lfOwner s != ownCal
  | 2 => !s.uwb.calRun
  | 3 => !s.uwb.tscalRun
  | 4 => storeOver s wtFarr
  | _ => true

/-- A step begins if its block accepts it; an AUTO domain it needs is asked for. -/
def stepTry (s : State) : State :=
  let k := s.get F.HLTH_STAT.farr_step
  if s.hlth.busy then s
  else if stepReady s k then (stepStart s k).modHlth fun h => { h with busy := true }
  else if k = 3 then domWork s 7 else s

/-- FARRIER_PASS_START (R441): at a quiet point with a plan running, PD_CORE on and no block of key operations. -/
def farrierPassStart (s : State) : State :=
  if s.flag F.HLTH_STAT.farr_pend ∧ s.get F.HLTH_STAT.farr_step = 0 ∧ quiet s ∧ s.yard.applied ∧ domOn s 2
      ∧ ¬ s.flag F.KEYS_STAT.blocked ∧ ¬ s.flag F.SYS_GATE_STAT.plan_apply then
    let s := (s.set F.HLTH_STAT.farr_pend 0).set F.HLTH_STAT.farr_step 1
    stepTry (s.modHlth fun h => { h with busy := false, part := false, portPass := false, cEst := none })
  else s

def execFarrierPassStart (s : State) : Host.Outcome State Fault Refusal := .next (farrierPassStart s)

/-- Whether the power domain of a ring oscillator is on; the DBG one is measured with debug enabled (R438). -/
def roOn (s : State) (c : Nat) : Bool :=
  match c with
  | 2 => true
  | 11 => s.flag F.RST_STRAP.dbg
  | _ => (clkDomains c).any (domOn s)

/-- Step 5 (R438): each oscillator's slowdown in 0.01 %, where its domain is on. -/
def measureRo (s : State) (slow : List (Option (BitVec 16))) : State :=
  (List.range 12).foldl
    (fun t c =>
      match slow.getD c none with
      | some v => if roOn t c then (t.set (F.HLTH_RO.slow c) v.toNat).set (F.HLTH_RO.valid c) 1 else t.set (F.HLTH_RO.valid c) 0
      | none => t.set (F.HLTH_RO.valid c) 0) s

/-- Places a quotient in a list sorted by value. -/
def insertQ (x : Int × Nat) (l : List (Int × Nat)) : List (Int × Nat) :=
  match l with
  | [] => [x]
  | y :: t => if x.1 * y.2 ≤ y.1 * x.2 then x :: y :: t else y :: insertQ x t

/-- A quotient as an integer, rounded down or up by a free bit where inexact. -/
def roundFree (q : Int × Nat) (k : Nat) : Int :=
  let d : Int := q.2
  if q.1 % d = 0 then q.1 / d else q.1 / d + b2n (Config.freeBit k)

/-- The REF estimate of the pass (R439): the median in 0.1 ppm; of an even number, either middle value. -/
def crystal (s : State) : State :=
  let l := s.hlth.samples.foldl (fun a x => insertQ x a) []
  let n := l.length
  let s := s.set F.HLTH_XTAL.samples (min n 32767)
  if n < 16 then s.set F.HLTH_XTAL.valid 0
  else
    let (k, s) := s.fresh
    let (j, s) := s.fresh
    let i := if n % 2 = 1 then n / 2 else n / 2 - 1 + b2n (Config.freeBit k)
    let v := roundFree (l.getD i (0, 1)) j
    (s.set F.HLTH_XTAL.ppm (truncTo 16 (clampI (-32768) 32767 v))).set F.HLTH_XTAL.valid 1

/-- The plan's value of a field (R443). -/
def planGet (s : State) (f : Fld) : Nat := bitsOf (Store.get s.yard.planRegs f.addr) f.lo f.len

/-- An overlay entry that sets a field. -/
def fldEntry (f : Fld) (v : Nat) : OvlEntry := { addr := f.addr, mask := (2 ^ f.len - 1) * 2 ^ f.lo, value := v * 2 ^ f.lo }

/-- The new relay guard (R200, R443): its terms are recorded and the entry is always named. -/
def marginGuard (s : State) : List OvlEntry × State :=
  let dev := (sxt 16 (s.get (F.UWB_CALRES.dev (s.get F.UWB_CFG.ref_port)))).natAbs
  let cable := if ¬ s.hlth.portChecked then 0 else if s.hlth.portPass then (dev + 1) / 2 else s.get F.VERD_FARR.c_cable
  let interp := if s.flag F.UWB_TSCAL.valid then (3 * s.get F.UWB_TSCAL.dnl_max + 15) / 16 else 0
  let g := s.get F.VERD_WIN.guard_plan + cable + interp
  let s := s.sets [(F.VERD_FARR.c_cable, min 255 cable), (F.VERD_FARR.c_interp, min 255 interp),
    (F.VERD_FARR.clamped, b2n (decide (192 < g))), (F.VERD_FARR.pending, 1)]
  let s := if 192 ≤ g then driftBit s F.HLTH_DRIFT.guard 0 else s
  ([fldEntry F.VERD_WIN.guard (min 192 g)], s)

/-- An aerial's new gain and trim (R94, R443), or what is in force for an aerial without a new result. -/
def marginAerial (s : State) (n : Nat) : List OvlEntry × State :=
  let g0 := planGet s (F.LF_AER_CFG.gain n)
  let t0 := planGet s (F.LF_AER_CFG.trim n)
  let above := s.bitAt F.HLTH_DRIFT.aer n
  let ronHigh := decide (orDefault (s.get F.HLTH_FARR_CFG1.ron_lim) 125 < s.get (F.LF_RON.ron n)) && s.flag (F.LF_RON.valid n)
  let s := if ronHigh && !above then driftBit s F.HLTH_DRIFT.aer n else s
  let (gain, trim, s) : Nat × Nat × State :=
    if s.flag (F.LF_CAL_RES.valid n) ∧ s.flag (F.LF_AER_CFG.installed n) then
      let (iRef, phRef) := s.yard.refs.getD n (0, 0)
      let (k, s) := s.fresh
      let amp := s.get (F.LF_CAL_RES.i_amp n)
      let raw : Int := if amp = 0 then (Config.freeWord k).toNat else divRound (g0 * iRef) amp
      let lo : Int := max 1 ((3 * g0 + 3) / 4)
      let hi : Int := min 255 (5 * g0 / 4)
      let d := sxt 10 (truncTo 10 ((s.get (F.LF_CAL_RES.i_phase n) : Int) - phRef))
      let shift := clampI (-32) 32 (-d)
      let s := if raw ≤ lo ∨ hi ≤ raw ∨ 32 ≤ d.natAbs then driftBit s F.HLTH_DRIFT.aer n else s
      ((clampI lo (max lo hi) raw).toNat, truncTo 10 ((t0 : Int) + shift), s)
    else (s.get (F.LF_AER_CFG.gain n), s.get (F.LF_AER_CFG.trim n), s)
  if gain = g0 ∧ trim = t0 then ([], s)
  else ([{ addr := (F.LF_AER_CFG.gain n).addr, mask := 0x3FFFF, value := gain + 256 * trim }], s)

/-- The clock tolerance fields with their defaults (CLK_MARG0, CLK_MARG1). -/
def margFlds : List (Nat × Fld × Nat) :=
  [(0, F.CLK_MARG1.aon, 2), (1, F.CLK_MARG0.sby, 60), (2, F.CLK_MARG0.ref, 1), (3, F.CLK_MARG0.core, 4),
   (4, F.CLK_MARG0.ciph, 40), (5, F.CLK_MARG0.lfs, 2), (6, F.CLK_MARG1.uhf, 4), (7, F.CLK_MARG1.uwb, 4),
   (8, F.CLK_MARG1.stmp, 4), (10, F.CLK_MARG1.stor, 50)]

/-- A clock domain's new tolerance (R443). -/
def marginClock (s : State) (c : Nat × Fld × Nat) : List OvlEntry × State :=
  let m := orDefault (planGet s c.2.1) c.2.2
  let need := (2 * s.get (F.HLTH_CLKDEV.dev c.1) + 49) / 50
  let hi := min (2 * m) 63
  let s := if hi ≤ need then driftBit s F.HLTH_DRIFT.clk 0 else s
  let v := min hi (max m need)
  (if v = m then [] else [fldEntry c.2.1 v], s)

/-- The new store cutoff (R443): only from a capacitance measured in step 4. -/
def marginStore (s : State) : List OvlEntry × State :=
  let v0 := orDefault (planGet s F.LOFT_CFG.v_ct) 160
  let qst := orDefault (s.get F.HLTH_FARR_CFG0.qst) 90
  let hi := max v0 (min (orDefault (s.get F.HLTH_FARR_CFG0.vct_max) 200) (v0 + 40))
  let (v, s) : Nat × State := match s.hlth.cEst with
    | some c =>
      let (k, s) := s.fresh
      let need := if c = 0 then (Config.freeWord k).toNat else (2700 * c + 10000 * qst + 25 * c - 1) / (25 * c)
      (min hi (max v0 need), if hi ≤ need then driftBit s F.HLTH_DRIFT.hold 0 else s)
    | none => (orDefault (s.get F.LOFT_CFG.v_ct) 160, s)
  (if v = v0 then [] else [fldEntry F.LOFT_CFG.v_ct v], s)

/-- The entries of several margins, in order. -/
def margins (s : State) (l : List (State → List OvlEntry × State)) : List OvlEntry × State :=
  l.foldl (fun a f => let (e, s) := f a.2; (a.1 ++ e, s)) ([], s)

/-- Step 6 (R439, R440, R443): the drift comparisons, the margins, and the overlay handed to the plan loader. -/
def handOverlay (s : State) : State :=
  let s := crystal s
  let roHigh := (List.range 12).any fun c => s.flag (F.HLTH_RO.valid c)
    && decide ((10 * orDefault (s.get F.HLTH_FARR_CFG1.ro_lim) 50 : Int) < sxt 16 (s.get (F.HLTH_RO.slow c)))
  let xtalHigh := s.flag F.HLTH_XTAL.valid
    && decide (10 * orDefault (s.get F.HLTH_FARR_CFG0.xtal_lim) 40 < (sxt 16 (s.get F.HLTH_XTAL.ppm)).natAbs)
  let s := if roHigh then driftBit s F.HLTH_DRIFT.ro 0 else s
  let s := if xtalHigh then driftBit s F.HLTH_DRIFT.xtal 0 else s
  let s := if s.flag F.LOFT_STAT.hold_low then driftBit s F.HLTH_DRIFT.hold 0 else s
  let fs := ((List.range 12).map fun n t => marginAerial t n) ++ [marginGuard] ++ (margFlds.map fun c t => marginClock t c)
    ++ [marginStore]
  let (l, s) := margins s fs
  (s.set F.YARD_OVL.pending 1).modYard fun y => { y with overlay := some l }

/-- The pass moves to a step, and step 6 hands its overlay over at once. -/
def toStep (s : State) (k : Nat) : State :=
  let s := (s.set F.HLTH_STAT.farr_step k).modHlth fun h => { h with busy := false }
  if k = 6 then handOverlay (s.modHlth fun h => { h with busy := true }) else stepTry s

/-- FARRIER_STEP_DONE (R442, R444): the step under way has ended and the next begins; a step that waited tries again. The
slowdowns are step 5's measurement. Blocked key operations end the pass. -/
def farrierStepDone (s : State) (slow : List (Option (BitVec 16))) : State :=
  let k := s.get F.HLTH_STAT.farr_step
  if k = 0 ∨ k = 6 then s
  else if s.flag F.KEYS_STAT.blocked then farrierEnd s farrAborted
  else if ¬ s.hlth.busy then stepTry s
  else if stepOver s k then toStep (if k = 5 then measureRo s slow else s) (k + 1)
  else s

def execFarrierStepDone (slow : List (Option (BitVec 16))) (s : State) : Host.Outcome State Fault Refusal :=
  .next (farrierStepDone s slow)

/-- FARRIER_TIMEOUT (R442): a pass not at step 6 within 10 s computes from what it has and ends PARTIAL. -/
def farrierTimeout (s : State) : State :=
  let k := s.get F.HLTH_STAT.farr_step
  if k = 0 ∨ k = 6 then s else toStep (s.modHlth fun h => { h with part := true }) 6

def execFarrierTimeout (s : State) : Host.Outcome State Fault Refusal := .next (farrierTimeout s)

end Sys2Proof.Machine
end

