-- ==== Sys2Proof/Machine/Rst.lean ====
section
/-!
DEFINITION. The reset controller (chapter 18): reset sources, strap, trims, the release sequence, the system watchdog and block
resets.
-/
namespace Sys2Proof.Machine

/-- The state after POR (R421, R304): fuses, roots, the life-cycle history and the Loft's copies and rings are kept; so are
the commands waiting. -/
def porState (s : State) : State :=
  { State.reset with
    fuses := s.fuses, fuseSerial := s.fuseSerial, fuseKey := s.fuseKey, ctr := s.ctr
    keys := { roots := s.keys.roots, boot := s.keys.boot, exits := s.keys.exits }
    loft := { copyA := s.loft.copyA, copyB := s.loft.copyB, rings := s.loft.rings }
    rst := { bor33 := s.rst.bor33, bor18 := s.rst.bor18 }
    pending := s.pending }

def execPor (s : State) : Host.Outcome State Fault Refusal := .next (porState s)

/-- BOR33 (R294, R304, R420, R421): with pf_en the power-fail store runs on VHOLD; without it PD_STOR loses its supply. -/
def bor33 (s : State) (vhold : BitVec 8) : State :=
  let s := if s.loft.pf then s else if s.flag F.LOFT_CFG.pf_en ∧ ¬ loftClosed s then pfTrip s vhold.toNat else storPowerOff s
  chipReset { s with rst := { s.rst with bor33 := true } } F.RST_CAUSE.bor33

def execBor33 (vhold : BitVec 8) (s : State) : Host.Outcome State Fault Refusal := .next (bor33 s vhold)

/-- BOR18 (R420, R467): the low side of the glitch source is disarmed until the rail returns. -/
def bor18 (s : State) : State := chipReset { s with rst := { s.rst with bor18 := true } } F.RST_CAUSE.bor18

def execBor18 (s : State) : Host.Outcome State Fault Refusal := .next (bor18 s)

/-- BROWN_OUT_RELEASE (R421, R466): the domains on the rail may be switched on again. -/
def brownOutRelease (s : State) (r : Rail) : State :=
  match r with
  | .vdd33 => { s with rst := { s.rst with bor33 := false } }
  | .vdd18 => { s with rst := { s.rst with bor18 := false } }

def execBrownOutRelease (r : Rail) (s : State) : Host.Outcome State Fault Refusal := .next (brownOutRelease s r)

/-- NRST_ASSERT (R423): the chip is held in reset. -/
def nrstAssert (s : State) : State := chipReset { s with rst := { s.rst with nrstLow := true } } F.RST_CAUSE.pin

def execNrstAssert (s : State) : Host.Outcome State Fault Refusal := .next (nrstAssert s)

/-- NRST_RELEASE (R423). -/
def nrstRelease (s : State) : State :=
  if s.rst.nrstLow then beginSeq { s with rst := { s.rst with nrstLow := false } } else s

def execNrstRelease (s : State) : Host.Outcome State Fault Refusal := .next (nrstRelease s)

/-- Whether the system watchdog counts (R424). -/
def wdogRuns (s : State) : Bool := domOn s 2 && planRuns s && s.flag F.RST_WDOG.period && !s.flag F.RST_STAT.aon_wait

/-- SYS_WDOG_EXPIRY (R424). -/
def sysWdogExpiry (s : State) : State := if wdogRuns s then chipReset s F.RST_CAUSE.sys_wdog else s

def execSysWdogExpiry (s : State) : Host.Outcome State Fault Refusal := .next (sysWdogExpiry s)

/-- A millisecond passes on the system watchdog (R424). -/
def wdogMs (s : State) : State :=
  if wdogRuns s then
    let n := s.get F.RST_WDOG.left
    if n ≤ 1 then sysWdogExpiry s else s.set F.RST_WDOG.left (n - 1)
  else s

/-- RST_WDKICK (R424). -/
def rstWdkick (s : State) (v : Word) : State :=
  if v = 0x0000_6E6E#32 then s.set F.RST_WDOG.left (s.get F.RST_WDOG.period) else s

def execRstWdkick (v : Word) (s : State) : Host.Outcome State Fault Refusal := .next (rstWdkick s v)

/-- RST_CTRL_WRITE (R420): the key is privileged; other values are ignored. -/
def rstCtrlWrite (s : State) (v : Word) (tagged : Bool) : State :=
  if tagged ∧ v = 0x0000_C3C3#32 then chipReset s F.RST_CAUSE.sw else s

def execRstCtrlWrite (v : Word) (tagged : Bool) (s : State) : Host.Outcome State Fault Refusal :=
  .next (rstCtrlWrite s v tagged)

/-- Link, plan source, debug and gap of a strap code (R429). -/
def strapRow (code : Nat) : Nat × Nat × Nat × Nat :=
  match code with
  | 0 => (0, 2, 1, 1)
  | 1 => (0, 2, 1, 2)
  | 2 => (0, 1, 1, 1)
  | 3 => (0, 0, 1, 1)
  | 4 => (0, 0, 0, 0)
  | 5 => (0, 0, 0, 1)
  | 6 => (0, 0, 0, 2)
  | 7 => (0, 1, 0, 1)
  | 8 => (1, 2, 1, 1)
  | 9 => (1, 1, 1, 1)
  | 10 => (1, 0, 1, 1)
  | 11 => (1, 1, 0, 1)
  | 12 => (1, 0, 0, 0)
  | 13 => (1, 0, 0, 2)
  | 14 => (1, 2, 0, 1)
  | _ => (1, 0, 0, 1)

/-- STRAP_DONE (R374, R428, R429): once after POR. -/
def strapDone (s : State) (code : BitVec 4) : State :=
  if s.rst.strapDone then s
  else
    let (link, src, dbg, gap) := strapRow code.toNat
    let s := s.sets [(F.RST_STRAP.code, code.toNat), (F.RST_STRAP.link, link), (F.RST_STRAP.src, src),
      (F.RST_STRAP.dbg, dbg), (F.RST_STRAP.gap, gap), (F.HOST_STAT.form, link)]
    beginSeq { s with rst := { s.rst with strapDone := true } }

def execStrapDone (code : BitVec 4) (s : State) : Host.Outcome State Fault Refusal := .next (strapDone s code)

/-- TRIM_LOAD_DONE (R431, R432): a valid CRC applies the shadow; a failed load starts again, the third in a row gives way to
safe trims. -/
def trimLoadDone (s : State) (crcOk : Bool) : State :=
  if s.get F.RST_STAT.step = 1 ∧ ¬ s.rst.nrstLow then
    if crcOk then startRelease ((loadFuses s false).sets [(F.RST_STAT.trim_tries, 0), (F.RST_STAT.safe_trim, 0)])
    else startTrim (trimFailed s)
  else s

def execTrimLoadDone (crcOk : Bool) (s : State) : Host.Outcome State Fault Refusal := .next (trimLoadDone s crcOk)

/-- The sequence goes to a position: a domain that a burst left on counts as released (R425, R436). -/
def seqGoto (s : State) (pos : Nat) : State :=
  let s : State := { s with rst := { s.rst with pos := pos, gap := false } }
  let s := s.set F.RST_STAT.step (2 + pos)
  let d := releaseOrder.getD pos 0
  if domOn s d then seqNext s else domWant s d

/-- DOMAIN_RELEASE_GAP (R425, R434, R451): the next domain is switched on; before PD_TACK a latched tamper halts. -/
def domainReleaseGap (s : State) : State :=
  if s.rst.gap then
    if s.rst.pos = 0 ∧ s.get F.HLTH_TMP_LATCH.latch ≠ 0 then tamperHalt s
    else seqGoto s (s.rst.pos + 1)
  else s

def execDomainReleaseGap (s : State) : Host.Outcome State Fault Refusal := .next (domainReleaseGap s)

/-- TAMPER_HALT_RESUME (R434): no source whose latch bit is set is live. -/
def tamperHaltResume (s : State) : State :=
  if s.get F.RST_STAT.step = 12 ∧ ¬ latchedLive s then seqGoto (s.set F.KEYS_STAT.blocked 1) 1 else s

def execTamperHaltResume (s : State) : Host.Outcome State Fault Refusal := .next (tamperHaltResume s)

/-- AON_CLOCK_TIMEOUT (R427): 2 s after POR without AON clock-good; the blocks stay held. -/
def aonClockTimeout (s : State) : State :=
  if s.bitAt F.CLK_STAT.good 0 then s
  else s.sets [(F.RST_CAUSE.clk_loss, 1), (F.CLK_LOSS.domain, 0), (F.CLK_LOSS.valid, 1), (F.RST_STAT.aon_wait, 1)]

def execAonClockTimeout (s : State) : Host.Outcome State Fault Refusal := .next (aonClockTimeout s)

/-- The window and power domain of a block's reset bit (R437, RST_BLOCK). -/
def blockPlace (b : Nat) : Nat × Nat :=
  match b with
  | 0 => (0x05, 1)
  | 1 => (0x06, 6)
  | 2 => (0x07, 7)
  | 3 => (0x08, 2)
  | 4 => (0x09, 2)
  | 5 => (0x0A, 2)
  | 6 => (0x0B, 0)
  | 7 => (0x0C, 3)
  | 8 => (0x0D, 3)
  | 9 => (0x0E, 3)
  | 10 => (0x0F, 9)
  | 11 => (0x12, 8)
  | 12 => (0x04, 0)
  | 13 => (0x13, 2)
  | 14 => (0x14, 8)
  | 15 => (0x11, 2)
  | 16 => (0x02, 2)
  | 17 => (0x00, 2)
  | 18 => (0x03, 0)
  | _ => (0x10, 2)

/-- The registers a block reset restores; the manger keeps its requests (RST_BLOCK). -/
def blockRanges (b : Nat) : List (Nat × Nat) :=
  if b = 16 then [(0x02_0000, 0x200), (0x02_0300, 0xFD00)]
  else if 19 ≤ b then [(0x10_0000 + 0x1000 * (b - 19), 0x1000)]
  else [((blockPlace b).1 * 0x1_0000, 0x1_0000)]

/-- Every handle is freed and every operation ends CUT (R267). -/
def coresReset (s : State) (b : Nat) : State :=
  let l := s.ciph.ops.map (·.who)
  let s := resetRanges (wipeSlots (endAllOps s stCut)) (blockRanges b) blkScope
  let s : State := { s with ciph := { ended := s.ciph.ended } }
  l.foldl (fun t u => userStatus t u stCut) s

/-- A UHF block reset (R117): entries, records and the poll latch are lost; open and later placements end RX_CUT. -/
def uhfBlockReset (s : State) : State :=
  let busy := (s.txn.open_ && s.txn.woke) || s.lf.stage == .listen
  let late := (List.range 8).filter fun i => qstate s (8 + i) == 2
  let acks := (List.range 8).filter fun i => qstate s i == 2 && (s.slotT i).ackOver
  let open_ := s.uhf.open_
  let s := resetRanges s (blockRanges 1) blkScope
  let s : State := { s with uhf := { cut0 := busy, cut1 := busy } }
  let s := open_.foldl (fun t p => endPlacement t p plRxCut false [] 0 0 0 0) s
  let s := late.foldl (fun t i => reportOver t i false false) s
  acks.foldl (fun t i => t.modSlotT i fun q => { q with ackOver := true, collided := true }) s

/-- A UWB block reset (R123, R126, R133, R146): records, captures and the STS store are lost; tracked slots get new records
with rstat CUT. -/
def uwbBlockReset (s : State) : State :=
  let ready := s.get F.UWB_STAT.ts_ready
  let open_ := s.txn.open_
  let s := manRelease s 4
  let s := resetRanges s (blockRanges 2) blkScope
  let s : State := { s with uwb := {} }
  let s := counterClear (s.set F.UWB_STAT.ts_ready ready)
  (List.range 8).foldl
    (fun t i => if (t.slotT i).tracked ∧ open_ then t.set (F.UWB_REC_W0.rstat i) rsCut else t) s

/-- A LOFT block reset (R304): a running commit and store end first; the open gather is discarded. -/
def loftBlockReset (s : State) : State :=
  let s := commitEnd s
  let s := dropGathers s
  let s := match s.loft.store with
    | some r => if r.begun ∧ ¬ r.pf then storeDone s else s
    | none => s
  resetRanges s (blockRanges 10) blkScope

/-- An engine block reset (R327, R328, R437): the engine's stall is to be installed again. -/
def groomBlockReset (s : State) (e : Fin 8) : State :=
  let q := stallOf s e
  let s := idleEngine (stopStall s e) e 0
  let s := resetRanges s (blockRanges (19 + e)) blkScope
  if q = 15 then s
  else
    let i : Install := { stall := q, engine := e }
    (s.set (F.GROOM_STAT.reload_pend e) 1).modYard fun y => { y with
      installs := (y.installs.filter fun j => j.engine != e.val) ++ [i] }

/-- The work a block loses at its reset and its registers (R97, R117, R146, R177, R197, R213, R267, R281, R304, R373, R400,
R437). -/
def blockReset (s : State) (b : Nat) : State :=
  let regs := fun (t : State) => resetRanges t (blockRanges b) blkScope
  match b with
  | 0 => regs (lfBlockReset s)
  | 1 => uhfBlockReset s
  | 2 => uwbBlockReset s
  | 3 => regs { s with solv := { model := s.solv.model } }
  | 4 =>
    let s := verdFree (regs { s with verdPulse := false })
    let s := s.modTxn fun t =>
      { t with slots := t.slots.map fun q => { q with ready := false, expect := [] }, hpExpect := [] }
    updReady (s.put F.VERD_STAT.open_ s.txn.open_)
  | 5 => (regs { s with sess := {} }).put F.SESS_STAT.txn_open s.txn.open_
  | 6 => (List.range 16).foldl tallyRestart (regs s)
  | 7 => coresReset s b
  | 8 => coresReset s b
  | 9 => rngLose (regs s) fun _ => true
  | 10 => loftBlockReset s
  | 11 => hostLose (regs (endStartSess s endDisabled))
  | 15 => regs (planCancel s true)
  | _ => if 19 ≤ b then groomBlockReset s (Fin.ofNat 8 (b - 19)) else regs s

/-- One bit of a write to RST_BLOCK: a block that is held or whose domain is off is not touched (R437). -/
def blockBit (s : State) (b : Nat) : State :=
  if heldBlock s b ∨ ((blockPlace b).2 ≠ 0 ∧ ¬ domOn s (blockPlace b).2) then s
  else
    let s := blockReset s b
    s.setWord F.RST_BLOCK.lf.addr (BitVec.ofNat 32 (setBit (s.word F.RST_BLOCK.lf.addr).toNat b))

/-- Whether the stall of an engine is a management stall whose route grants RST (R424, R437). -/
def mayReset (s : State) (e : Nat) : Bool :=
  let q := stallOf s e
  q != 15 && (stallDesc s q).any (fun d => d.plane == 2) && bit (s.yard.routes.getD q {}).wr 1

/-- RST_BLOCK_WRITE (R437): the host needs a tag, an engine a management-plane route. -/
def rstBlockWrite (s : State) (src : Src) (mask : Word) : State :=
  let allowed := match src with | .host t => t | .engine n => mayReset s n
  if allowed then (List.range 27).foldl (fun t b => if bit mask.toNat b then blockBit t b else t) s else s

def execRstBlockWrite (src : Src) (mask : Word) (s : State) : Host.Outcome State Fault Refusal :=
  .next (rstBlockWrite s src mask)

/-- What a block does on its release (R115, R177, R197, R213, R398). -/
def blockStart (s : State) (b : Nat) : State :=
  match b with
  | 1 => settleRx s
  | 3 =>
    (List.range 8).foldl
      (fun t i => if t.txn.open_ ∧ (t.slotT i).tracked then fixEnds (t.set (F.SOLV_FIX_W0.fstat i) 6) 6 else t) s
  | 4 => verdWipe s
  | 5 => if s.yard.applied then genResume (failResume s) false else s
  | 11 => linkReady s
  | _ => s

/-- BLOCK_RESET_RELEASE (R437): the bit reads 0. -/
def blockResetRelease (s : State) (b : Fin 27) : State :=
  if heldBlock s b then
    blockStart (s.setWord F.RST_BLOCK.lf.addr (BitVec.ofNat 32 (clrBit (s.word F.RST_BLOCK.lf.addr).toNat b))) b
  else s

def execBlockResetRelease (b : Fin 27) (s : State) : Host.Outcome State Fault Refusal := .next (blockResetRelease s b)

end Sys2Proof.Machine
end

