-- ==== Sys2Proof/Machine/Bus.lean ====
section
/-!
DEFINITION. Register and memory accesses by host address (R5, R6, R30, R310, R378): field types, locks and privilege, the
side effects of writes and reads, and the registers that are views of other state. The GROOM windows are in Access.lean.
-/
namespace Sys2Proof.Machine

/-- Status codes of a host access (R378). -/
def nakAck : Nat := 0x00
def nakCrc : Nat := 0x01
def nakCmd : Nat := 0x02
def nakAuth : Nat := 0x03
def nakUnbound : Nat := 0x04
def nakAddr : Nat := 0x05
def nakOff : Nat := 0x06
def nakBusy : Nat := 0x07
def nakProt : Nat := 0x08
def nakLocked : Nat := 0x09
def nakPriv : Nat := 0x0A
def nakDenied : Nat := 0x0B

/-- Whether a code ends the request at its word (R378). -/
def stopping (code : Nat) : Bool := code == nakAddr || code == nakOff || code == nakBusy || code == nakProt

/-- Whether an address is in the feed store or the Loft window (R29). -/
def inFeed (a : Nat) : Bool := decide (0x20_0000 ≤ a) && decide (a < 0x2C_0000)
def inLoft (a : Nat) : Bool := decide (0x40_0000 ≤ a) && decide (a < 0x48_0000)

/-- Whether an address lies in a range of R29. -/
def addrMapped (a : Nat) : Bool :=
  (decide (a < 0x15_0000) && !(decide (0x10_8000 ≤ a) && decide (a < 0x11_0000))) || inFeed a || inLoft a

/-- Whether a register belongs to the control plane (R10, R20, R26): sessions, the host link and the wake inputs with their levels
and counts. -/
def ctlPlane (a : Nat) : Bool :=
  a / 0x1_0000 == 0x0A || a / 0x1_0000 == 0x12 || (decide (0x04_0054 ≤ a) && decide (a ≤ 0x04_0060))
    || (decide (0x04_0080 ≤ a) && decide (a < 0x04_00A0))

/-- Whether a ring register is asked for (R300). -/
def ringReg (a : Nat) : Bool := decide (0x0F_0200 ≤ a) && decide (a < 0x0F_0300)

/-- Why an access stops before any field is looked at (R20, R30, R292). -/
def accessStop (s : State) (a : Nat) (write : Bool) : Nat :=
  if a % 4 ≠ 0 ∨ ¬ addrMapped a then nakAddr
  else if ¬ domOn s (addrDomain a) then nakOff
  else if ringReg a ∧ loftClosed s then nakBusy
  else if write ∧ ctlPlane a ∧ s.flag F.SYS_GATE_STAT.plan_apply then nakBusy
  else nakAck

/-- The bits of a field in its word. -/
def rowMask (f : FRow) : Nat := (2 ^ f.len - 1) * 2 ^ f.lo

/-- Whether a PRIV field of the word takes an untagged write: the bootstrap of R264. -/
def bootReg (s : State) (a : Nat) : Bool := bootOpen s && decide (0x0D_0010 ≤ a) && decide (a ≤ 0x0D_0020)

/-- Whether the field's chapter grants engines a PRIV write (R290, R310, R437). -/
def enginePriv (s : State) (e a : Nat) (f : FRow) : Bool :=
  (a == 0x0F_0000 && f.lo == 0) || (a == 0x01_0008 && mayReset s e)

/-- Why a write leaves a field unchanged, or 0 (R5, R262, R310, R353). -/
def fieldCode (s : State) (src : Src) (a : Nat) (f : FRow) : Nat :=
  if f.priv then
    if lifeState s = 4 then nakDenied
    else
      match src with
      | .host t => if t || bootReg s a then nakAck else nakPriv
      | .engine e => if enginePriv s e a f then nakAck else nakPriv
  else if f.typ = .rwl ∧ s.flag F.YARD_PSTAT.locked then nakLocked
  else nakAck

/-- Whether hardware changes a field in the cycle of the write, as the bits `hw` say (R5). -/
def hwField (hw : Nat) (f : FRow) : Bool := hw &&& rowMask f != 0

/-- The bits of a word that a write may reach, and the first refusal among its fields (R378); a field that hardware changes in
the same cycle is not reached (R5). -/
def writeMask (s : State) (src : Src) (a : Nat) (fs : List FRow) (hw : Nat := 0) : Nat × Nat :=
  fs.foldl
    (fun (r : Nat × Nat) f =>
      let c := fieldCode s src a f
      if hwField hw f then r
      else if c = nakAck then (r.1 + rowMask f, r.2) else (r.1, if r.2 = 0 then c else r.2)) (0, 0)

/-- A field's new bits by its type (R5): only RW, RWL, W1C and W1S change on a write. -/
def fieldWrite (mask : Nat) (data : Word) (w : Word) (f : FRow) : Word :=
  if mask / 2 ^ f.lo % 2 = 0 then w
  else
    let old := bitsOf w f.lo f.len
    let d := bitsOf data f.lo f.len
    match f.typ with
    | .rw => putBits w f.lo f.len d
    | .rwl => putBits w f.lo f.len d
    | .w1c => putBits w f.lo f.len (old &&& (2 ^ f.len - 1 - d))
    | .w1s => putBits w f.lo f.len (old ||| d)
    | _ => w

/-- Values that a register's own Effect column ignores or trims: carriers outside their range, a guard outside 32 to 192,
low address bits (LF_FTW, UHF_CHANn, VERD_WIN, SOLV_MADDR, YARD_PADDR). -/
def writeFilter (s : State) (a : Nat) (old new : Word) : Word :=
  if a = F.LF_FTW.ftw.addr then
    if new.toNat < 0x0199_999A ∨ 0x0266_6666 < new.toNat then old else new
  else if a = (F.UHF_CHAN.freq 0).addr then if carrierOk (s.get F.UHF_CFG.band0) new.toNat then new else old
  else if a = (F.UHF_CHAN.freq 1).addr then if carrierOk (s.get F.UHF_CFG.band1) new.toNat then new else old
  else if a = F.VERD_WIN.guard.addr then
    let g := bitsOf new 0 8
    if g < 32 ∨ 192 < g then putBits new 0 8 (bitsOf old 0 8) else new
  else if a = F.SOLV_MADDR.addr.addr ∨ a = F.YARD_PADDR.addr.addr then putBits new 0 2 0
  else new

/-- The plain part of a register write (R5, R6). -/
def plainWrite (s : State) (a mask : Nat) (data : Word) (fs : List FRow) : State :=
  let old := s.word a
  s.setWord a (writeFilter s a old (fs.foldl (fieldWrite mask data) old))

/-- The enabled HOST_IRQSTAT bits (R396, R397). -/
def irqEnabled (s : State) : Nat := irqStat s &&& s.get F.HOST_IRQEN.en

/-- After a W1C write to HOST_IRQSTAT, SESS_EVT or HLTH_EVT that leaves the IRQ ball asserted, the link releases it for
1 µs (R397); bits that fell count as gained when they rise again (R396). -/
def irqRound (s : State) : State :=
  let s : State := { s with host := { s.host with ntfSeen := s.host.ntfSeen &&& irqEnabled s } }
  if domOn s 8 ∧ irqAsserted s then { s with host := { s.host with irqReleased := true } } else s

/-- An enable bit changes: the write acts as the command of its own (LF_CTRL, UHF_CTRL, UWB_CTRL, …). -/
def enableBit (s : State) (f : Fld) (d : Word) (act : State → Bool → State) : State :=
  let v := bit d.toNat f.lo
  if s.flag f = v then s else act s v

/-- A strobe bit of a write. -/
def strobeBit (s : State) (f : Fld) (d : Word) (act : State → State) : State := if bit d.toNat f.lo then act s else s

/-- Writes to the control words of the data plane (03 to 07). -/
def writeData (s : State) (src : Src) (a mask : Nat) (d : Word) (fs : List FRow) : State :=
  if a = F.LF_CTRL.syn_en.addr then
    let s := enableBit s F.LF_CTRL.syn_en d synEnWrite
    let s := enableBit s F.LF_CTRL.lfa_en d fun t v => bankEnWrite t .lfa v
    let s := enableBit s F.LF_CTRL.lfb_en d fun t v => bankEnWrite t .lfb v
    let s := strobeBit s F.LF_CTRL.abort d fun t => lfAbort t false
    let s := strobeBit s F.LF_CTRL.cal_start d calStart
    strobeBit s F.LF_CTRL.hp_start d fun t => hpStart t true
  else if a = F.LF_TXN.start.addr then
    let s := plainWrite s a mask d fs
    strobeBit s F.LF_TXN.start d fun t =>
      txnStart t (BitVec.ofNat 2 (t.get F.LF_TXN.kind)) (BitVec.ofNat 2 (t.get F.LF_TXN.sweep_sel))
  else if (F.LF_CHAL.c0 0).addr ≤ a ∧ a ≤ (F.LF_CHAL.c0 3).addr then
    lfChalWrite s (Fin.ofNat 4 ((a - (F.LF_CHAL.c0 0).addr) / 4)) d
  else if a = F.LF_FAULT.short.addr then lfFaultClear s d
  else if a = F.UHF_CTRL.u0_en.addr then
    let s := enableBit s F.UHF_CTRL.u0_en d fun t v => uEnWrite t false v
    let s := enableBit s F.UHF_CTRL.u1_en d fun t v => uEnWrite t true v
    strobeBit s F.UHF_CTRL.stat_clr d uhfStatClr
  else if a = F.UHF_QCHK.entry.addr then
    match src with
    | .host _ => s
    | .engine e => uhfQchkWrite s e (bitsOf d 0 5) (bit d.toNat 5)
  else if a = F.UWB_CTRL.rf_en.addr then
    let s := enableBit s F.UWB_CTRL.rf_en d rfEnWrite
    let s := strobeBit s F.UWB_CTRL.abort d fun t => uwbAbort t false
    let s := strobeBit s F.UWB_CTRL.cal_start d uwbCalStart
    strobeBit s F.UWB_CTRL.tscal_start d tscalStart
  else if a = F.UWB_CFG.profile.addr then uwbTrims (plainWrite s a mask d fs)
  else if a = F.SOLV_CTRL.en.addr then
    let s := enableBit s F.SOLV_CTRL.en d solvEnWrite
    strobeBit s F.SOLV_CTRL.abort d fun t => solvAbort t false
  else if a = F.SOLV_MDATA.data.addr then solvMdataAccess s (some d)
  else if a = F.VERD_CTRL.en.addr then
    let s := enableBit s F.VERD_CTRL.en d verdEnWrite
    strobeBit s F.VERD_CTRL.abort d fun t => verdAbort t none
  else plainWrite s a mask d fs

/-- Writes to the control words of the control plane (08, 09, 16). -/
def writeControl (s : State) (a mask : Nat) (d : Word) (fs : List FRow) : State :=
  if a = F.POLL_CTRL.en.addr then
    let s := enableBit s F.POLL_CTRL.en d pollEnWrite
    let s := strobeBit s F.POLL_CTRL.sleep d fun t => sleep t true
    let s := strobeBit s F.POLL_CTRL.host_wake d hostWakeWrite
    strobeBit s F.POLL_CTRL.cnt_clr d pollCntClr
  else if a = F.SESS_CTRL.en.addr then
    if mask % 2 = 1 ∧ ¬ bit d.toNat 0 then sessEnWrite s false else enableBit s F.SESS_CTRL.en d sessEnWrite
  else if a = F.SESS_CMD.kind.addr then
    let s := plainWrite s a mask d fs
    let s := strobeBit s F.SESS_CMD.end_entry d fun t => endEntrySess t endHost
    let s := strobeBit s F.SESS_CMD.end_start d fun t => endStartSess t endHost
    strobeBit s F.SESS_CMD.start d fun t => sessStartCmd t (BitVec.ofNat 2 (t.get F.SESS_CMD.kind)) true
  else if a = F.SESS_EVT.fail.addr then irqRound (plainWrite s a mask d fs)
  else if a = F.SESS_SLK.fault.addr then strobeBit s F.SESS_SLK.fault d slkFaultClear
  else if a = F.HOST_IRQSTAT.rdy.addr then irqRound (plainWrite s a mask d fs)
  else if a = F.HOST_BIND.bind.addr then
    if mask ≠ 0 ∧ s.flag F.HOST_STAT.bound then hostUnbind s true else s
  else if a = F.HOST_RESET.key.addr then
    if d = 0x0000_A55A#32 then { s with host := { s.host with resetPend := true } } else s
  else plainWrite s a mask d fs

/-- The life-cycle command word (R260). -/
def lcWrite (s : State) (d : Word) : State :=
  match bitsOf d 0 4 with
  | 1 => goField s true
  | 2 => goShop s true
  | 3 => retire s (BitVec.ofNat 8 (bitsOf d 8 8)) true
  | c => lcCmdRefused s (BitVec.ofNat 4 c) true

/-- Writes to the tack room (10, 11): the channel's IN and handle are the engine's own (R244), and so are its derivation registers
(R250, KEYS_DERn). -/
def writeTack (s : State) (src : Src) (a mask : Nat) (d : Word) (fs : List FRow) : State :=
  let host : Bool := match src with | .host _ => true | .engine _ => false
  if a < 0x0C_0300 ∧ 0x0C_0100 ≤ a then
    let e : Fin 8 := Fin.ofNat 8 ((a - 0x0C_0100) / 64)
    if a % 64 = 0 then
      let d := if host then putBits d 16 16 (s.get (F.CIPH_ECH_W0.handle e)) else d
      let s := if s.get (F.CIPH_ECH_W4.status e) = stBusy then s else plainWrite s a mask d fs
      let s := strobeBit s (F.CIPH_ECH_W0.abort e) d fun t => echAbort t e false
      strobeBit s (F.CIPH_ECH_W0.start e) d fun t =>
        let h := BitVec.ofNat 16 (t.get (F.CIPH_ECH_W0.handle e))
        match bitsOf d 0 2 with
        | 3 => echOpReserved t e
        | k => echStart t e k h
    else if host then s
    else plainWrite s a mask d fs
  else if a = F.KEYS_LCCMD.cmd.addr then (if mask % 2 = 0 then s else lcWrite s d)
  else if a = F.KEYS_CLEAR.clr.addr then strobeBit s F.KEYS_CLEAR.clr d fun t => keysClear t true
  else if (F.KEYS_IMP.kt 0).addr ≤ a ∧ a ≤ (F.KEYS_IMP.kt 3).addr then
    if mask = 0 then s else keysImpWrite s (Fin.ofNat 4 ((a - (F.KEYS_IMP.kt 0).addr) / 4)) d (src == .host true)
  else if a = F.KEYS_WRAP.id.addr then
    let s := plainWrite s a mask d fs
    strobeBit s F.KEYS_WRAP.start d fun t =>
      keysWrapStart t (BitVec.ofNat 5 (bitsOf d 0 5)) (BitVec.ofNat 4 (bitsOf d 5 4)) (src == .host true)
  else if host ∧ 0x0D_0400 ≤ a ∧ a < 0x0D_0600 then s
  else if 0x0D_0400 ≤ a ∧ a < 0x0D_0600 ∧ a % 64 = 0 then
    let e : Fin 8 := Fin.ofNat 8 ((a - 0x0D_0400) / 64)
    strobeBit (plainWrite s a mask d fs) (F.KEYS_DER_W0.start e) d fun t => deriveStart t e
  else if 0x0D_0400 ≤ a ∧ a < 0x0D_0600 ∧ a % 64 = 0x2C then
    handleFree s (Fin.ofNat 8 ((a - 0x0D_0400) / 64)) (BitVec.ofNat 16 (bitsOf d 0 16))
  else if a = F.RNG_CTRL.en.addr then
    let s := enableBit s F.RNG_CTRL.en d rngEnWrite
    let s := strobeBit s F.RNG_CTRL.reseed d forcedReseed
    strobeBit s F.RNG_CTRL.qflush d qflush
  else plainWrite s a mask d fs

/-- Writes to the management plane's control words (12, 14, 15, 17, 18, 19). -/
def writeManage (s : State) (src : Src) (a mask : Nat) (d : Word) (fs : List FRow) : State :=
  if a = F.RST_BLOCK.lf.addr then
    if mask = 0 then s else rstBlockWrite s (match src with | .host _ => .host true | .engine e => .engine e) d
  else if a = F.RST_CTRL.key.addr then (if mask = 0 then s else rstCtrlWrite s d true)
  else if a = F.RST_WDKICK.kick.addr then
    match src with
    | .host _ => rstWdkick s d
    | .engine e => if mayReset s e then rstWdkick s d else s
  else if a = F.TALLY_FREEZE.freeze.addr then tallyFreezeWrite s (bitsOf d 0 16)
  else if a = F.TALLY_SWCAP.cap.addr then tallySwcap s (bitsOf d 0 16)
  else if 0x0B_0100 ≤ a ∧ a < 0x0B_0200 ∧ a % 16 = 4 then tallyCntWrite s ((a - 0x0B_0100) / 16) (bitsOf d 0 16)
  else if 0x0B_0100 ≤ a ∧ a < 0x0B_0200 ∧ a % 16 = 12 then tallyCmpWrite s ((a - 0x0B_0100) / 16) (bitsOf d 0 16)
  else if a = F.LOFT_CTRL.store.addr then
    let s := strobeBit s F.LOFT_CTRL.commit d fun t => loftCommit t src
    let s := strobeBit s F.LOFT_CTRL.gabort d fun t => gabort t src false
    strobeBit s F.LOFT_CTRL.store d requestStore
  else if a = F.YARD_PCTRL.begin.addr then
    let s := strobeBit s F.YARD_PCTRL.begin d fun t => planBegin t true
    let s := strobeBit s F.YARD_PCTRL.apply d fun t => planApplyCmd t true
    let s := strobeBit s F.YARD_PCTRL.cancel d fun t => planCancel t true
    strobeBit s F.YARD_PCTRL.use_loft d fun t => useLoft t true
  else if a = F.YARD_PDATA.data.addr then (if mask = 0 then s else pdataWrite s d true)
  else if a = F.HLTH_CTRL.farr_start.addr then strobeBit s F.HLTH_CTRL.farr_start d fun t => farrStart t true
  else if a = F.HLTH_EVT.tamper.addr then irqRound (plainWrite s a mask d fs)
  else if a = F.HLTH_TMP_LATCH.latch.addr then (if mask = 0 then s else tmpLatchClear s d true)
  else plainWrite s a mask d fs

/-- A register write whose refused fields are cleared in `d` (R5). -/
def regWrite (s : State) (src : Src) (a mask : Nat) (d : Word) (fs : List FRow) : State :=
  let w := a / 0x1_0000
  if 0x05 ≤ w ∧ w ≤ 0x09 then writeData s src a mask d fs
  else if w = 0x04 ∨ w = 0x0A ∨ w = 0x12 then writeControl s a mask d fs
  else if 0x0C ≤ w ∧ w ≤ 0x0E then writeTack s src a mask d fs
  else writeManage s src a mask d fs

/-- A ring word by a requester (R300): the owner's val_hi is a change; anyone else is refused, the host's own rings with PRIV
for want of a tag. -/
def ringWrite (s : State) (src : Src) (a : Nat) (d : Word) : State × Nat :=
  let r : Fin 16 := Fin.ofNat 16 ((a - 0x0F_0200) / 16)
  if 8 ≤ a % 16 then (s, nakAck)
  else if ringOwned s src r then
    if a % 16 = 4 then (ringChange s src r d, nakAck) else (s.setWord a d, nakAck)
  else
    match src with
    | .host _ => (s, if ringOwner s r = 1 then nakPriv else nakBusy)
    | .engine _ => (s, nakBusy)

/-- Whether a write of the plan loader's words is refused while it applies a change (R352). -/
def planBusy (s : State) (a : Nat) (d : Word) : Bool :=
  planState_ s == psApplying
    && (a == F.YARD_PDATA.data.addr || (a == F.YARD_PCTRL.begin.addr && bitsOf d 0 2 != 0))

/-- The data a write leaves to act: the fields it reaches; a field whose write is discarded shows its own value where it is
writable as it stands (R5). -/
def reachedData (s : State) (a mask hw : Nat) (fs : List FRow) (data : Word) : Word :=
  let own := fs.foldl (fun m f => if hwField hw f ∧ (f.typ = .rw ∨ f.typ = .rwl) then m + rowMask f else m) 0
  (data &&& BitVec.ofNat 32 mask) ||| (s.word a &&& BitVec.ofNat 32 own)

/-- Whether a write asks for a host wake while a change is applied: a control-plane bit of POLL_CTRL (R20, R233). -/
def wakeBusy (s : State) (a : Nat) (d : Word) : Bool :=
  a == F.POLL_CTRL.en.addr && s.flag F.SYS_GATE_STAT.plan_apply && bit d.toNat F.POLL_CTRL.host_wake.lo

/-- A write of one word outside the GROOM windows: the state after it and its code (R30, R378). `hw` holds the bits that hardware
changes in the same cycle (R5). -/
def busWrite (s : State) (src : Src) (a : Nat) (data : Word) (hw : Nat := 0) : State × Nat :=
  let stop := accessStop s a true
  if stop ≠ nakAck then (s, stop)
  else if inFeed a then
    let off := a - 0x20_0000
    if 0x8_0000 ≤ off then (s, nakAck) else ({ s with feed := Mem.putWord s.feed off data }, nakAck)
  else if inLoft a then
    let (t, c) := loftWrite s (loftOwner src) (a - 0x40_0000) data
    (t, if c = accOk then nakAck else if c = accProt then nakProt else nakBusy)
  else if ringReg a then ringWrite s src a data
  else
    match findRow a with
    | none => (s, nakAck)
    | some r =>
      let (mask, code) := writeMask s src a r.fields hw
      let d := reachedData s a mask hw r.fields data
      if planBusy s a d ∨ wakeBusy s a d then (s, nakBusy) else (regWrite s src a mask d r.fields, code)

/-- The current request, grant and queueing of a requester, as LF_GRANT and UWB_GRANT show them (R87, R144). -/
def grantView (s : State) (r : Nat) (w : Word) : Word :=
  let st := s.get (F.PWR_REQ.state r)
  let w := putBits w 0 10 (if st = 0 then 0 else s.get (F.PWR_REQ.req r))
  putBits (putBits w 16 10 (if st = 2 then s.get (F.PWR_REQ.grant r) else 0)) 26 1 (b2n (st == 1))

/-- CLK_STAT as it reads: HOST in SPI form and DBG follow their own rules (R409), and the locks of the PLLs (R406). -/
def clkStatView (s : State) : Word :=
  let w := s.word F.CLK_STAT.good.addr
  let form := s.flag F.HOST_STAT.form
  let w := if form then w else putBits w 9 1 (b2n (domOn s 8))
  let w := putBits w 11 1 (s.get F.RST_STRAP.dbg)
  let g := fun c => bit w.toNat c
  putBits w 12 4 (b2n (g 3) + 2 * b2n (g 5) + 4 * b2n (g 6 || (form && g 9)) + 8 * b2n (g 7))

/-- UWB_STAT.state as it reads: the ranging grant makes TIMER READY, the port check's makes it CAL (R142). -/
def uwbStatView (s : State) : Word :=
  let w := s.word F.UWB_STAT.state.addr
  let w := if s.get F.UWB_STAT.state = 1 then
      putBits w 0 3 (if manGranted s 3 then 2 else if s.uwb.calRun && manGranted s 4 then 5 else 1)
    else w
  putBits w 4 1 (b2n (decide (2 ≤ bitsOf w 0 3)))

/-- KEYS_SLOTh as it reads. -/
def keySlotView (s : State) (h : Nat) : Word :=
  let k := keySlot s h
  if k.live then
    BitVec.ofNat 32 (1 + 4 * k.depth + 32 * k.owner + 512 * k.id + 2 ^ 14 * k.parent + 2 ^ 20 * (k.uses / 256 % 4096))
  else BitVec.ofNat 32 (2 ^ 14 * 0x3F + (if slotInUse s h then 2 else 0))

/-- RNG_STAT as it reads. -/
def rngStatView (s : State) : Word :=
  putBits (putBits (s.word F.RNG_STAT.state.addr) 0 3 (rngStateCode s)) 12 7 s.rng.queue.length

/-- LOFT_STAT as it reads. -/
def loftStatView (s : State) : Word :=
  let owner := match s.loft.gather, s.loft.commit with
    | some g, _ => g.owner
    | none, some g => g.owner
    | none, none => 0
  let w := putBits (s.word F.LOFT_STAT.state.addr) 3 1 (b2n s.loft.commit.isSome)
  putBits (putBits w 4 1 (b2n s.loft.gather.isSome)) 5 4 owner

/-- POLL_LVL as it reads: the minutes left on the rung, rounded up. -/
def pollLvlView (s : State) : Word :=
  let left := if s.get F.POLL_STAT.rung = 7 ∨ ¬ s.flag F.POLL_CTRL.en then 0 else (s.poll.dwellEnd - s.aonTs + 1966079) / 1966080
  putBits (s.word F.POLL_LVL.dwell_left.addr) 16 16 left

/-- Words of the quarantine buffer (R110): the host sees VERIFIED entries, stalls UNVERIFIED ones too. -/
def quarView (s : State) (src : Src) (a : Nat) : Word :=
  let off := a - 0x06_8000
  let q := qstate s (off / 128)
  let open_ : Bool := match src with | .host _ => q == 3 | .engine _ => q == 2 || q == 3
  if off < 3072 ∧ open_ then Mem.word s.uhf.quar off else 0

/-- A word of a software port (R280): the host port for the host, an engine's port for that engine. -/
def portView (s : State) (src : Src) (a : Nat) : Word :=
  let port : Option (Fin 8) := if a < 0x0E_0040 then none else some (Fin.ofNat 8 ((a - 0x0E_0040) / 32))
  let mine : Bool := match src, port with
    | .host _, none => true
    | .engine e, some n => e == n
    | _, _ => false
  if ¬ mine then 0
  else if a % 32 = 0 then putBits (s.word a) 0 1 (b2n (portValid s port))
  else if portValid s port then s.word a
  else 0

/-- Registers of the tack room as they read (R238 to R281). -/
def viewTack (s : State) (src : Src) (a : Nat) : Word :=
  let w := s.word a
  let host : Bool := match src with | .host _ => true | .engine _ => false
  if a = F.CIPH_STAT.core_busy.addr then
    let busy := (List.range 4).foldl (fun n i => if (s.ciph.cores.getD i none).isSome then setBit n i else n) 0
    putBits (putBits w 0 4 busy) 4 1 (b2n (s.bitAt F.CLK_STAT.good 4))
  else if 0x0C_0010 ≤ a ∧ a < 0x0C_001C then
    let c := (a - 0x0C_0010) / 4
    putBits w 4 1 (b2n ((s.ciph.pch.getD c none).isSome || (c == 2 && (s.ciph.pch.getD 3 none).isSome)))
  else if 0x0C_0100 ≤ a ∧ a < 0x0C_0300 ∧ host then
    if a % 64 = 0 then putBits w 16 16 0 else if a % 64 = 4 then w else 0
  else if a = F.KEYS_STAT.live.addr then
    let live := ((List.range 48).filter fun h => (keySlot s h).live).length
    putBits (putBits w 3 6 live) 9 6 s.keys.tombs.length
  else if 0x0D_1000 ≤ a ∧ a < 0x0D_10C0 then keySlotView s ((a - 0x0D_1000) / 4)
  else if a = F.RNG_STAT.state.addr then rngStatView s
  else if 0x0E_0020 ≤ a ∧ a < 0x0E_0140 ∧ (findRow a).isSome then portView s src a
  else w

/-- Registers of the data plane as they read. -/
def viewData (s : State) (src : Src) (a : Nat) : Word :=
  let w := s.word a
  if a = F.LF_GRANT.req.addr then grantView s (lfRequester (lfOwner s)) w
  else if 0x06_8000 ≤ a ∧ a < 0x07_0000 then quarView s src a
  else if a = F.UWB_STAT.state.addr then uwbStatView s
  else if a = F.UWB_GRANT.req.addr then grantView s (if s.get (F.PWR_REQ.state 3) = 0 then 4 else 3) w
  else if a = F.UWB_STMP_LO.ts_lo.addr then s.uwb.stmp.setWidth 32
  else if a = F.SOLV_MDATA.data.addr then solvMdata s
  else w

/-- Registers of the other blocks as they read. -/
def viewOther (s : State) (src : Src) (a : Nat) : Word :=
  let w := s.word a
  if a = F.SYS_GATE_STAT.quiet.addr then
    let w := putBits (putBits w 17 1 (b2n (!s.man.queue.isEmpty))) 18 1 (s.get F.LF_STAT.trim)
    putBits w 19 1 (b2n (quiet s))
  else if a = F.PWR_DOM_STAT.pg.addr then w ||| 0x0001_0001#32
  else if a = F.PWR_MGR_STAT.queued.addr then
    putBits (putBits (putBits w 0 10 (railAlloc s false)) 16 10 (railAlloc s true)) 26 3 s.man.queue.length
  else if a = F.CLK_STAT.good.addr then clkStatView s
  else if a = F.POLL_LVL.dwell_left.addr then pollLvlView s
  else if (F.SESS_RCODE.code 0).addr ≤ a ∧ a < (F.SESS_RCODE.code 0).addr + 16 then
    match src with
    | .host _ => w
    | .engine _ => 0
  else if 0x0B_0100 ≤ a ∧ a < 0x0B_0200 ∧ a % 16 = 4 then BitVec.ofNat 32 (tallyCntValue s ((a - 0x0B_0100) / 16))
  else if a = F.LOFT_STAT.state.addr then loftStatView s
  else if a = F.LOFT_GATHER.start.addr then gatherWord s
  else if a = F.YARD_PRING.ring.addr then BitVec.ofNat 32 (ringLive s 0)
  else if a = F.HOST_IRQSTAT.rdy.addr then BitVec.ofNat 32 (irqStat s)
  else if a = F.HLTH_TS_LO.ts_lo.addr then BitVec.ofNat 32 s.aonTs
  else w

/-- What a register reads as; unassigned offsets read 0 (R30). -/
def viewWord (s : State) (src : Src) (a : Nat) : Word :=
  let w := a / 0x1_0000
  if (findRow a).isNone then 0
  else if 0x05 ≤ w ∧ w ≤ 0x08 then viewData s src a
  else if 0x0C ≤ w ∧ w ≤ 0x0E then viewTack s src a
  else viewOther s src a

/-- What a read changes before its value is taken (R364, R368). -/
def readBefore (s : State) (a : Nat) : State :=
  if 0x0B_0100 ≤ a ∧ a < 0x0B_0200 then
    let n := (a - 0x0B_0100) / 16
    if a % 16 = 4 then tallyCntRead s n else if a % 16 = 8 then tallyCapRead s n false else s
  else s

/-- What a read changes after its value is taken (R89, R122, R152, R263, R273, R280, R441). -/
def readAfter (s : State) (src : Src) (a : Nat) : State :=
  if a = F.LF_TRIM.t_min.addr then lfTrimRead s
  else if a = F.UWB_STMP_LO.ts_lo.addr then stmpLoRead s
  else if a = F.SOLV_MDATA.data.addr then solvMdataAccess s none
  else if a = F.RNG_STRETCH.max_int.addr then rngStretchRead s
  else if a = F.HLTH_TS_LO.ts_lo.addr then hlthTsRead s
  else
    match src with
    | .host _ =>
      if (F.KEYS_WOUT.w 0).addr ≤ a ∧ a ≤ (F.KEYS_WOUT.w 5).addr then keysWoutWord s ((a - (F.KEYS_WOUT.w 0).addr) / 4)
      else if a = (F.RNG_HPORT_W4.data 3).addr then portConsume s none
      else s
    | .engine e => if a = (F.RNG_EPORT_W4.data e 3).addr then portConsume s (some e) else s

/-- A read of one word outside the GROOM windows: the state after it, its code and the value (R30, R286, R303). -/
def busRead (s : State) (src : Src) (a : Nat) : State × Nat × Word :=
  let stop := accessStop s a false
  if stop ≠ nakAck then (s, stop, 0)
  else if inFeed a then
    let off := a - 0x20_0000
    (s, nakAck, if 0x8_0000 ≤ off then 0 else Mem.word s.feed off)
  else if inLoft a then
    let off := a - 0x40_0000
    if loftClosed s || sealUnverified s off || s.loft.commit.isSome then (s, nakBusy, 0)
    else (s, nakAck, Mem.word s.loft.front off)
  else
    let t := readBefore s a
    (readAfter t src a, nakAck, viewWord t src a)

end Sys2Proof.Machine
end

