-- ==== Sys2Proof/Machine/Operands.lean ====
section
/-!
DEFINITION. Operand forms of the groom instructions (R305, R306, R312): registers, immediates, branch targets and the
encodings of the five formats.
-/
namespace Sys2Proof.Machine

/-- Format R (R312): bits [13:0] zero. -/
def encR (op : Nat) (rd ra rb : BitVec 4) : Word := BitVec.ofNat 6 op ++ rd ++ ra ++ rb ++ 0#14

/-- Format I (R312); the stores' source register stands in rd. -/
def encI (op : Nat) (rd ra : BitVec 4) (imm : BitVec 18) : Word := BitVec.ofNat 6 op ++ rd ++ ra ++ imm

/-- Format B (R312). -/
def encB (op : Nat) (ra rb : BitVec 4) (off : BitVec 18) : Word := BitVec.ofNat 6 op ++ ra ++ rb ++ off

/-- Format J (R312). -/
def encJ (op : Nat) (off : BitVec 26) : Word := BitVec.ofNat 6 op ++ off

/-- Format U (R312). -/
def encU (op : Nat) (rd : BitVec 4) (imm : BitVec 22) : Word := BitVec.ofNat 6 op ++ rd ++ imm

/-- Fields of an instruction word (R312). -/
def opOfWord (w : Word) : Nat := (w.extractLsb' 26 6).toNat
def rdOf (w : Word) : BitVec 4 := w.extractLsb' 22 4
def raOf (w : Word) : BitVec 4 := w.extractLsb' 18 4
def rbOf (w : Word) : BitVec 4 := w.extractLsb' 14 4
def imm18Of (w : Word) : BitVec 18 := w.extractLsb' 0 18
def imm22Of (w : Word) : BitVec 22 := w.extractLsb' 0 22
def off26Of (w : Word) : BitVec 26 := w.extractLsb' 0 26

/-- A register of an engine; x0 reads 0 (R305). -/
def Engine.getX (g : Engine) (r : BitVec 4) : Word := if r = 0#4 then 0 else Store.get g.x r.toNat

/-- An engine with a register written; x0 ignores writes (R305). -/
def Engine.setX (g : Engine) (r : BitVec 4) (v : Word) : Engine :=
  if r = 0#4 then g else { g with x := Store.put g.x r.toNat v }

/-- Register `r` of engine `e`. -/
def xOf (s : State) (e : Nat) (r : BitVec 4) : Word := (s.engine e).getX r

/-- Writes register `r` of engine `e`. -/
def setXOf (s : State) (e : Nat) (r : BitVec 4) (v : Word) : State := s.modEng e fun g => g.setX r v

/-- The signed immediate of format I (R312). -/
def immS (imm : BitVec 18) : Word := imm.signExtend 32

/-- The zero-extended immediate of ANDI, ORI, XORI, the shifts and CSRR and CSRW (R312). -/
def immZ (imm : BitVec 18) : Word := imm.setWidth 32

/-- The target of a branch: the instruction's own address + 4 × offset (R312). -/
def target (pc off : Word) : Word := pc + 4#32 * off

/-- The effective address of a load, a store or an atomic (R313). -/
def effAddr (s : State) (e : Nat) (ra : BitVec 4) (imm : BitVec 18) : Word := xOf s e ra + immS imm

/-- The address an engine fetches from: instructions are aligned to 4 bytes. -/
def fetchAddr (pc : Word) : Nat := pc.toNat / 4 * 4

/-- Whether the pc lies in IMEM (R308, R313). -/
def pcInImem (pc : Word) : Bool := decide (pc.toNat < 0x8000)

/-- The instruction word at the engine's pc. -/
def fetchWord (s : State) (e : Nat) : Word := Mem.word (s.engine e).imem (fetchAddr (s.engine e).pc)

end Sys2Proof.Machine
end

