-- ==== Sys2Proof/Machine/Flags.lean ====
section
/-!
DEFINITION. What the groom arithmetic computes beyond wrapping (R313, R315): the Q16.16 helpers with their saturation flag,
comparisons, minimum, maximum and leading zeros.
-/
namespace Sys2Proof.Machine

/-- sat32 (R315): the clamped value, and whether it was clamped. -/
def sat32 (x : Int) : Word × Bool :=
  if x < -2147483648 then (0x8000_0000#32, true)
  else if 2147483647 < x then (0x7FFF_FFFF#32, true)
  else (BitVec.ofInt 32 x, false)

/-- qmul (R315): the product rounded by half a unit, shifted arithmetically. -/
def qmul (a b : Word) : Word × Bool := sat32 ((a.toInt * b.toInt + 0x8000) / 65536)

/-- qdiv (R315): toward zero; a zero divisor saturates by the sign of the dividend. -/
def qdiv (a b : Word) : Word × Bool :=
  if b = 0#32 then (if a.toInt < 0 then 0x8000_0000#32 else 0x7FFF_FFFF#32, true)
  else sat32 ((a.toInt * 65536).tdiv b.toInt)

/-- qsqrt (R315): the floor of the true root; a negative input gives 0 and saturates. -/
def qsqrt (a : Word) : Word × Bool :=
  if a.toInt < 0 then (0#32, true) else (BitVec.ofNat 32 (isqrt (a.toNat * 65536)), false)

/-- SLT and SLTU (R313). -/
def sltW (a b : Word) : Word := if a.toInt < b.toInt then 1#32 else 0#32
def sltuW (a b : Word) : Word := if a.toNat < b.toNat then 1#32 else 0#32

/-- MIN and MAX, signed (R313). -/
def minW (a b : Word) : Word := if a.toInt < b.toInt then a else b
def maxW (a b : Word) : Word := if a.toInt < b.toInt then b else a

/-- The high word of the signed product (R313). -/
def mulhW (a b : Word) : Word := BitVec.ofInt 32 (a.toInt * b.toInt / 4294967296)

/-- Leading zeros, 0 to 32 (R313). -/
def clzW (a : Word) : Word :=
  BitVec.ofNat 32 ((List.range 32).foldl (fun n i => if bit a.toNat i then 31 - i else n) 32)

end Sys2Proof.Machine
end

