-- ==== Sys2Proof/Machine/Groom.lean ====
section
/-!
DEFINITION. The groom engines (R305 to R322): one meaning per instruction, the memory map, the CSRs, interrupts and WAIT, the
timer and the watchdog.
-/
namespace Sys2Proof.Machine

/-- The events that would interrupt the engine at its next boundary (R317). -/
def irqMask (g : Engine) : Nat := if g.ie then g.evpend &&& g.evmask else 0

/-- Whether an engine issues the given instruction word next: it runs, no interrupt is taken first (R317), its pc lies in
IMEM and the word stands there (R312). -/
def issues (s : State) (e : Nat) (w : Word) : Bool :=
  domOn s 2 && engState s e == gRun && irqMask (s.engine e) == 0 && pcInImem (s.engine e).pc && fetchWord s e == w

/-- A fetch outside IMEM is a ROUTE fault at the fetch (R313), unless an interrupt is taken first (R317). -/
def fetchCheck (s : State) (e : Nat) : State :=
  let pc := (s.engine e).pc
  if engState s e = gRun ∧ irqMask (s.engine e) = 0 ∧ ¬ pcInImem pc then engineFault s e fltRoute pc.toNat else s

/-- The pc moves. -/
def setPc (s : State) (e : Nat) (pc : Word) : State := s.modEng e fun g => { g with pc := pc }

/-- An instruction completes (R314): its cycles pass and the engine goes on at `pc`. -/
def finishAt (s : State) (e : Nat) (pc : Word) (cycles : Nat) : State :=
  fetchCheck (setPc (addCycles s e (8 * cycles)) e pc) e

/-- An instruction completes and the engine goes on at the next word. -/
def finish (s : State) (e : Nat) (cycles : Nat) : State := finishAt s e ((s.engine e).pc + 4#32) cycles

/-- An instruction writes its result to a register and completes. -/
def result (s : State) (e : Nat) (rd : BitVec 4) (v : Word) (cycles : Nat) : State := finish (setXOf s e rd v) e cycles

/-- A Q16.16 result, with the sticky saturation flag (R306, R315). -/
def resultQ (s : State) (e : Nat) (rd : BitVec 4) (q : Word × Bool) (cycles : Nat) : State :=
  result (s.modEng e fun g => { g with sat := g.sat || q.2 }) e rd q.1 cycles

/-- ILLEGAL (R312, R313). -/
def illegal (s : State) (e : Nat) : State := engineFault s e fltIllegal 0

/-- The instruction's meaning applies when the engine issues its word; otherwise the command finds nothing to do. -/
def ifIssued (s : State) (e : Nat) (w : Word) (t : State) : State := if issues s e w then t else s

/-- A two-register operation (R313). -/
def opRR (s : State) (e : Nat) (rd ra rb : BitVec 4) (cycles : Nat) (f : Word → Word → Word) : State :=
  result s e rd (f (xOf s e ra) (xOf s e rb)) cycles

/-- A register and immediate operation (R313). -/
def opRI (s : State) (e : Nat) (rd ra : BitVec 4) (imm : Word) (f : Word → Word → Word) : State :=
  result s e rd (f (xOf s e ra) imm) 1

/-- A shift by an immediate: imm[17:5] must be 0 (R313). -/
def opShI (s : State) (e : Nat) (rd ra : BitVec 4) (imm : BitVec 18) (f : Word → Nat → Word) : State :=
  if 32 ≤ imm.toNat then illegal s e else result s e rd (f (xOf s e ra) imm.toNat) 1

/-- A conditional branch (R313). -/
def branch (s : State) (e : Nat) (ra rb : BitVec 4) (off : BitVec 18) (p : Word → Word → Bool) : State :=
  if p (xOf s e ra) (xOf s e rb) then finishAt s e (target (s.engine e).pc (immS off)) 2 else finish s e 1

/-- Where an engine address lies (R308). -/
inductive Place where
  | imem (off : Nat)
  | dmem (off : Nat)
  | feed (off : Nat)
  | yard (addr : Nat)
  | bad (fault : Nat)
deriving DecidableEq, Repr

/-- The route of the stall an engine runs. -/
def stallRoute (s : State) (e : Nat) : Route := s.yard.routes.getD (stallOf s e) {}

/-- Whether the stall's feed windows grant an access (R309); the staging area is in none (R352). -/
def feedAllowed (s : State) (e off : Nat) (write : Bool) : Bool :=
  decide (off < 0x8_0000) && (stallRoute s e).feed.any fun w =>
    decide (w.base ≤ off) && decide (off < w.base + 0x1000 * w.size) && (if write then w.access == 2 else w.access == 1 || w.access == 2)

/-- Whether the yard permits an access to host address `h` (R310, R341): the engine's own services, or a routed window; never
the GROOM windows, the feed store or another engine's services. -/
def yardAllowed (s : State) (e h : Nat) (write : Bool) : Bool :=
  let svc := fun (base size : Nat) => decide (base ≤ h) && decide (h < base + 8 * size)
  let own := fun (base size : Nat) => decide (base + size * e ≤ h) && decide (h < base + size * e + size)
  let r := stallRoute s e
  let routed := fun (i : Nat) => bit r.wr i || (!write && bit r.rd i)
  if own 0x0C_0100 64 || own 0x0D_0400 64 || own 0x0E_0040 32 then true
  else if svc 0x0C_0100 64 || svc 0x0D_0400 64 || svc 0x0E_0040 32 then false
  else if inLoft h then routed 0x0F
  else if h / 0x1_0000 = 0x10 ∨ 0x15_0000 ≤ h then false
  else routed (h / 0x1_0000)

/-- The place of an access, or its fault (R308 to R310): alignment first, then the map. -/
def placeOf (s : State) (e a size : Nat) (write atomic : Bool) : Place :=
  let inYard := decide (0x3000_0000 ≤ a) && decide (a < 0x3048_0000)
  if a % size ≠ 0 ∨ (inYard ∧ (size ≠ 4 ∨ atomic)) then .bad fltAlign
  else if a < 0x8000 then (if write then .bad fltImemWr else .imem a)
  else if 0x1000_0000 ≤ a ∧ a < 0x1000_2000 then .dmem (a - 0x1000_0000)
  else if 0x2000_0000 ≤ a ∧ a < 0x200C_0000 then
    if feedAllowed s e (a - 0x2000_0000) write then .feed (a - 0x2000_0000) else .bad fltRoute
  else if inYard ∧ yardAllowed s e (a - 0x3000_0000) write then .yard (a - 0x3000_0000)
  else .bad fltRoute

/-- A local or feed memory as the engine sees it. -/
def memOf (s : State) (e : Nat) (p : Place) : Mem × Nat :=
  match p with
  | .imem o => ((s.engine e).imem, o)
  | .dmem o => ((s.engine e).dmem, o)
  | .feed o => (s.feed, o)
  | _ => ([], 0)

/-- Bytes of local or feed memory, little-endian (R4). -/
def memLoad (s : State) (e : Nat) (p : Place) (size : Nat) : Nat := Mem.natLe (memOf s e p).1 (memOf s e p).2 size

/-- Stores bytes to DMEM or the feed store (R4). -/
def memStore (s : State) (e : Nat) (p : Place) (size : Nat) (v : Word) : State :=
  let b := bytesLe v.toNat size
  match p with
  | .dmem o => s.modEng e fun g => { g with dmem := Store.putList g.dmem o b }
  | .feed o => { s with feed := Store.putList s.feed o b }
  | _ => s

/-- What ECC showed on a word read by an engine (R311): a corrected error is counted. -/
def eccCount (s : State) (e : Nat) (ecc : Ecc) : State :=
  match ecc with
  | .single => s.bump (F.GROOM_CNT.ecc_corr e)
  | _ => s

/-- A yard refusal (R310): yerr, or wr_refused for locked and privileged fields. -/
def yardRefusal (s : State) (e h code : Nat) : State :=
  let y := if code = nakOff then some 1
    else if code = nakBusy then some (if inLoft h || ringReg h then 2 else 4)
    else if code = nakProt then some 3
    else none
  match y with
  | some n => s.set (F.GROOM_STAT.yerr e) n
  | none => if code = nakAck ∨ code = nakAddr then s else s.set (F.GROOM_STAT.wr_refused e) 1

/-- A store through the yard (R310). -/
def yardStore (s : State) (e : Fin 8) (h : Nat) (data : Word) (hw : Nat := 0) : State :=
  let (t, code) := busWrite s (.engine e) h data hw
  yardRefusal t e h code

/-- A load through the yard (R310): a refusal returns 0. -/
def yardLoad (s : State) (e : Fin 8) (h : Nat) : State × Word :=
  let (t, code, v) := busRead s (.engine e) h
  if code = nakAck then (t, v) else (yardRefusal t e h code, 0)

/-- Whether a yard read is held: the Loft window while a commit runs (R286). -/
def yardHeld (s : State) (h : Nat) : Bool :=
  inLoft h && s.loft.commit.isSome && domOn s 9 && !loftClosed s && !sealUnverified s (h - 0x40_0000)

/-- Whether an engine still runs after an access that may have reset it. -/
def stillRuns (s : State) (e : Nat) : Bool := engState s e == gRun

/-- A load (R308 to R311, R313): `ext` widens the bytes read. The cycles of a yard load are typical figures only, so they are
free (R3, R310). -/
def load (s : State) (e : Fin 8) (rd ra : BitVec 4) (imm : BitVec 18) (size : Nat) (ext : Nat → Word) (ecc : Ecc) : State :=
  let a := (effAddr s e ra imm).toNat
  match placeOf s e a size false false with
  | .bad f => engineFault s e f a
  | .yard h =>
    if yardHeld s h then s
    else
      let (t, v) := yardLoad s e h
      let (c, t) := t.fresh
      result t e rd v (Config.freeWord c).toNat
  | p =>
    match ecc with
    | .double => engineFault s e fltEcc a
    | _ => result (eccCount s e ecc) e rd (ext (memLoad s e p size)) (match p with | .feed _ => 4 | _ => 2)

/-- A store (R308 to R310, R313). -/
def store (s : State) (e : Fin 8) (rs ra : BitVec 4) (imm : BitVec 18) (size : Nat) : State :=
  let a := (effAddr s e ra imm).toNat
  match placeOf s e a size true false with
  | .bad f => engineFault s e f a
  | .yard h =>
    let t := yardStore s e h (xOf s e rs)
    if stillRuns t e then finish t e 1 else t
  | p => finish (memStore s e p size (xOf s e rs)) e 1

/-- An atomic (R308, R311, R313, R314): the old word goes to rd. -/
def atomic (s : State) (e : Fin 8) (rd ra : BitVec 4) (imm : BitVec 18) (f : Word → Word → Word) (ecc : Ecc) : State :=
  let a := (effAddr s e ra imm).toNat
  match placeOf s e a 4 true true with
  | .bad c => engineFault s e c a
  | p =>
    match ecc with
    | .double => engineFault s e fltEcc a
    | _ =>
      let old := BitVec.ofNat 32 (memLoad s e p 4)
      result (memStore (eccCount s e ecc) e p 4 (f old (xOf s e rd))) e rd old 3

/-- CSR numbers (R306). -/
def csrNumber (imm : BitVec 18) : Nat := imm.toNat % 256

/-- What CSRR returns (R306); unassigned numbers return 0. -/
def csrRead (s : State) (e n : Nat) : Word :=
  let g := s.engine e
  match n with
  | 0x00 => BitVec.ofNat 32 (e + 8 * stallOf s e)
  | 0x01 => BitVec.ofNat 32 (b2n g.ie + 2 * b2n g.sat + 4 * s.get (F.GROOM_STAT.yerr e))
  | 0x02 => g.epc
  | 0x03 => BitVec.ofNat 32 g.cause
  | 0x04 => BitVec.ofNat 32 g.evpend
  | 0x05 => BitVec.ofNat 32 g.evmask
  | 0x06 => g.ivec
  | 0x08 => BitVec.ofNat 32 (g.cyc8 / 8)
  | 0x09 => g.cycleh
  | 0x0A => g.tcmp
  | 0x0B => g.dbval
  | _ => 0

/-- Reading CYCLE latches its high half in CYCLEH (R306). -/
def csrLatch (s : State) (e n : Nat) : State :=
  if n = 0x08 then s.modEng e fun g => { g with cycleh := BitVec.ofNat 32 (g.cyc8 / 8 / 2 ^ 32) } else s

/-- The write of a CSR other than WDKICK (R306); STATUS.sat and yerr are cleared by writing 0. -/
def csrWrite (s : State) (e n : Nat) (v : Word) : State :=
  match n with
  | 0x01 =>
    (s.modEng e fun g => { g with ie := bit v.toNat 0, sat := g.sat && bit v.toNat 1 }).set (F.GROOM_STAT.yerr e)
      (s.get (F.GROOM_STAT.yerr e) &&& bitsOf v 2 3)
  | 0x02 => s.modEng e fun g => { g with epc := v }
  | 0x04 => s.modEng e fun g => { g with evpend := g.evpend &&& (0xFFFF - bitsOf v 0 16) }
  | 0x05 => s.modEng e fun g => { g with evmask := bitsOf v 0 16 }
  | 0x06 => s.modEng e fun g => { g with ivec := putBits v 0 2 0 }
  | 0x0A => s.modEng e fun g => { g with tcmp := v }
  | _ => s

/-- The watchdog reloads its stall's period (R321). -/
def wdReload (s : State) (e : Nat) : State := s.set (F.GROOM_WD.left e) (orDefault (s.get (F.GROOM_WD.period e)) 100)

/-- The lowest event of a mask. -/
def lowestEvent (m : Nat) : Nat := (lowestSet m 16).getD 0

/-! The instructions. -/

/-- ADD to MAX (R313). -/
def opAdd (s : State) (e : Nat) (rd ra rb : BitVec 4) : State := opRR s e rd ra rb 1 (· + ·)
def opSub (s : State) (e : Nat) (rd ra rb : BitVec 4) : State := opRR s e rd ra rb 1 (· - ·)
def opAnd (s : State) (e : Nat) (rd ra rb : BitVec 4) : State := opRR s e rd ra rb 1 (· &&& ·)
def opOr (s : State) (e : Nat) (rd ra rb : BitVec 4) : State := opRR s e rd ra rb 1 (· ||| ·)
def opXor (s : State) (e : Nat) (rd ra rb : BitVec 4) : State := opRR s e rd ra rb 1 (· ^^^ ·)
def opShl (s : State) (e : Nat) (rd ra rb : BitVec 4) : State := opRR s e rd ra rb 1 fun a b => a <<< (b.toNat % 32)
def opShr (s : State) (e : Nat) (rd ra rb : BitVec 4) : State := opRR s e rd ra rb 1 fun a b => a >>> (b.toNat % 32)
def opSra (s : State) (e : Nat) (rd ra rb : BitVec 4) : State := opRR s e rd ra rb 1 fun a b => a.sshiftRight (b.toNat % 32)
def opSlt (s : State) (e : Nat) (rd ra rb : BitVec 4) : State := opRR s e rd ra rb 1 sltW
def opSltu (s : State) (e : Nat) (rd ra rb : BitVec 4) : State := opRR s e rd ra rb 1 sltuW
def opMul (s : State) (e : Nat) (rd ra rb : BitVec 4) : State := opRR s e rd ra rb 2 (· * ·)
def opMulh (s : State) (e : Nat) (rd ra rb : BitVec 4) : State := opRR s e rd ra rb 2 mulhW
def opMin (s : State) (e : Nat) (rd ra rb : BitVec 4) : State := opRR s e rd ra rb 1 minW
def opMax (s : State) (e : Nat) (rd ra rb : BitVec 4) : State := opRR s e rd ra rb 1 maxW

/-- CLZ (R313): rb must be x0. -/
def opClz (s : State) (e : Nat) (rd ra rb : BitVec 4) : State :=
  if rb ≠ 0#4 then illegal s e else result s e rd (clzW (xOf s e ra)) 1

/-- QMUL, QDIV and QSQRT (R315). -/
def opQmul (s : State) (e : Nat) (rd ra rb : BitVec 4) : State := resultQ s e rd (qmul (xOf s e ra) (xOf s e rb)) 2
def opQdiv (s : State) (e : Nat) (rd ra rb : BitVec 4) : State := resultQ s e rd (qdiv (xOf s e ra) (xOf s e rb)) 18
def opQsqrt (s : State) (e : Nat) (rd ra rb : BitVec 4) : State :=
  if rb ≠ 0#4 then illegal s e else resultQ s e rd (qsqrt (xOf s e ra)) 17

/-- ADDI to SLTI and LUI (R312, R313). -/
def opAddi (s : State) (e : Nat) (rd ra : BitVec 4) (imm : BitVec 18) : State := opRI s e rd ra (immS imm) (· + ·)
def opAndi (s : State) (e : Nat) (rd ra : BitVec 4) (imm : BitVec 18) : State := opRI s e rd ra (immZ imm) (· &&& ·)
def opOri (s : State) (e : Nat) (rd ra : BitVec 4) (imm : BitVec 18) : State := opRI s e rd ra (immZ imm) (· ||| ·)
def opXori (s : State) (e : Nat) (rd ra : BitVec 4) (imm : BitVec 18) : State := opRI s e rd ra (immZ imm) (· ^^^ ·)
def opShli (s : State) (e : Nat) (rd ra : BitVec 4) (imm : BitVec 18) : State := opShI s e rd ra imm (· <<< ·)
def opShri (s : State) (e : Nat) (rd ra : BitVec 4) (imm : BitVec 18) : State := opShI s e rd ra imm (· >>> ·)
def opSrai (s : State) (e : Nat) (rd ra : BitVec 4) (imm : BitVec 18) : State := opShI s e rd ra imm BitVec.sshiftRight
def opSlti (s : State) (e : Nat) (rd ra : BitVec 4) (imm : BitVec 18) : State := opRI s e rd ra (immS imm) sltW
def opLui (s : State) (e : Nat) (rd : BitVec 4) (imm : BitVec 22) : State := result s e rd (imm ++ 0#10) 1

/-- Loads, stores and atomics (R313). -/
def opLdw (s : State) (e : Fin 8) (rd ra : BitVec 4) (imm : BitVec 18) (ecc : Ecc) : State :=
  load s e rd ra imm 4 (BitVec.ofNat 32) ecc
def opLdh (s : State) (e : Fin 8) (rd ra : BitVec 4) (imm : BitVec 18) (ecc : Ecc) : State :=
  load s e rd ra imm 2 (fun n => (BitVec.ofNat 16 n).signExtend 32) ecc
def opLdhu (s : State) (e : Fin 8) (rd ra : BitVec 4) (imm : BitVec 18) (ecc : Ecc) : State :=
  load s e rd ra imm 2 (BitVec.ofNat 32) ecc
def opLdb (s : State) (e : Fin 8) (rd ra : BitVec 4) (imm : BitVec 18) (ecc : Ecc) : State :=
  load s e rd ra imm 1 (fun n => (BitVec.ofNat 8 n).signExtend 32) ecc
def opLdbu (s : State) (e : Fin 8) (rd ra : BitVec 4) (imm : BitVec 18) (ecc : Ecc) : State :=
  load s e rd ra imm 1 (BitVec.ofNat 32) ecc
def opStw (s : State) (e : Fin 8) (rd ra : BitVec 4) (imm : BitVec 18) : State := store s e rd ra imm 4
def opSth (s : State) (e : Fin 8) (rd ra : BitVec 4) (imm : BitVec 18) : State := store s e rd ra imm 2
def opStb (s : State) (e : Fin 8) (rd ra : BitVec 4) (imm : BitVec 18) : State := store s e rd ra imm 1
def opSwapw (s : State) (e : Fin 8) (rd ra : BitVec 4) (imm : BitVec 18) (ecc : Ecc) : State :=
  atomic s e rd ra imm (fun _ v => v) ecc
def opAddw (s : State) (e : Fin 8) (rd ra : BitVec 4) (imm : BitVec 18) (ecc : Ecc) : State :=
  atomic s e rd ra imm (· + ·) ecc

/-- Branches (R313). -/
def opBeq (s : State) (e : Nat) (ra rb : BitVec 4) (off : BitVec 18) : State := branch s e ra rb off fun a b => a == b
def opBne (s : State) (e : Nat) (ra rb : BitVec 4) (off : BitVec 18) : State := branch s e ra rb off fun a b => a != b
def opBlt (s : State) (e : Nat) (ra rb : BitVec 4) (off : BitVec 18) : State :=
  branch s e ra rb off fun a b => decide (a.toInt < b.toInt)
def opBge (s : State) (e : Nat) (ra rb : BitVec 4) (off : BitVec 18) : State :=
  branch s e ra rb off fun a b => decide (b.toInt ≤ a.toInt)
def opBltu (s : State) (e : Nat) (ra rb : BitVec 4) (off : BitVec 18) : State :=
  branch s e ra rb off fun a b => decide (a.toNat < b.toNat)
def opBgeu (s : State) (e : Nat) (ra rb : BitVec 4) (off : BitVec 18) : State :=
  branch s e ra rb off fun a b => decide (b.toNat ≤ a.toNat)

/-- JMP and CALL (R305, R313). -/
def opJmp (s : State) (e : Nat) (off : BitVec 26) : State :=
  finishAt s e (target (s.engine e).pc (off.signExtend 32)) 2
def opCall (s : State) (e : Nat) (off : BitVec 26) : State :=
  finishAt (setXOf s e 15#4 ((s.engine e).pc + 4#32)) e (target (s.engine e).pc (off.signExtend 32)) 2

/-- JR (R313): rb must be x0. -/
def opJr (s : State) (e : Nat) (rd ra rb : BitVec 4) : State :=
  if rb ≠ 0#4 then illegal s e
  else finishAt (setXOf s e rd ((s.engine e).pc + 4#32)) e (putBits (xOf s e ra) 0 2 0) 2

/-- WAIT (R318): rb must be x0. -/
def opWait (s : State) (e : Nat) (rd ra rb : BitVec 4) : State :=
  if rb ≠ 0#4 then illegal s e
  else
    let m := (xOf s e ra).toNat % 65536
    let hit := (s.engine e).evpend &&& m
    if hit ≠ 0 then result s e rd (BitVec.ofNat 32 (lowestEvent hit)) 1
    else (setEngState (addCycles s e 8) e gWait).modEng e fun g => { g with waitMask := m, waitRd := rd.toNat }

/-- IRET (R313): pc = EPC, ie = 1. -/
def opIret (s : State) (e : Nat) : State := finishAt (s.modEng e fun g => { g with ie := true }) e (s.engine e).epc 2

/-- CSRR and CSRW (R306, R313, R321). -/
def opCsrr (s : State) (e : Nat) (rd ra : BitVec 4) (imm : BitVec 18) : State :=
  if ra ≠ 0#4 then illegal s e else result (csrLatch s e (csrNumber imm)) e rd (csrRead s e (csrNumber imm)) 1
def opCsrw (s : State) (e : Nat) (rd ra : BitVec 4) (imm : BitVec 18) : State :=
  if rd ≠ 0#4 then illegal s e
  else if csrNumber imm = 0x07 then
    if xOf s e ra = 0x5A#32 then finish (wdReload s e) e 1 else engineFault s e fltWdkey 0
  else finish (csrWrite s e (csrNumber imm) (xOf s e ra)) e 1

/-- Whether a format R word has its low bits zero (R312). -/
def zeroR (w : Word) : Bool := w.extractLsb' 0 14 == 0#14

/-- The opcodes of format R (R313). -/
def isFormatR (op : Nat) : Bool := (decide (1 ≤ op) && decide (op ≤ 0x12)) || op == 0x38 || op == 0x39 || op == 0x3A

/-- The opcodes of R313. -/
def opListed (op : Nat) : Bool :=
  isFormatR op || (decide (0x18 ≤ op) && decide (op ≤ 0x20)) || (decide (0x24 ≤ op) && decide (op ≤ 0x2D))
    || (decide (0x30 ≤ op) && decide (op ≤ 0x37)) || op == 0x3B || op == 0x3C

/-- Whether a word is no instruction (R312, R313). -/
def notInstr (w : Word) : Bool :=
  !opListed (opOfWord w) || (isFormatR (opOfWord w) && !zeroR w) || (opOfWord w == 0x3A && w != encR 0x3A 0#4 0#4 0#4)

/-- One instruction word runs on an engine (R312, R313). -/
def runWord (s : State) (e : Fin 8) (w : Word) (ecc : Ecc) : State :=
  let (rd, ra, rb, imm) := (rdOf w, raOf w, rbOf w, imm18Of w)
  if notInstr w then illegal s e
  else
    match opOfWord w with
    | 0x01 => opAdd s e rd ra rb
    | 0x02 => opSub s e rd ra rb
    | 0x03 => opAnd s e rd ra rb
    | 0x04 => opOr s e rd ra rb
    | 0x05 => opXor s e rd ra rb
    | 0x06 => opShl s e rd ra rb
    | 0x07 => opShr s e rd ra rb
    | 0x08 => opSra s e rd ra rb
    | 0x09 => opSlt s e rd ra rb
    | 0x0A => opSltu s e rd ra rb
    | 0x0B => opMul s e rd ra rb
    | 0x0C => opMulh s e rd ra rb
    | 0x0D => opMin s e rd ra rb
    | 0x0E => opMax s e rd ra rb
    | 0x0F => opClz s e rd ra rb
    | 0x10 => opQmul s e rd ra rb
    | 0x11 => opQdiv s e rd ra rb
    | 0x12 => opQsqrt s e rd ra rb
    | 0x18 => opAddi s e rd ra imm
    | 0x19 => opAndi s e rd ra imm
    | 0x1A => opOri s e rd ra imm
    | 0x1B => opXori s e rd ra imm
    | 0x1C => opShli s e rd ra imm
    | 0x1D => opShri s e rd ra imm
    | 0x1E => opSrai s e rd ra imm
    | 0x1F => opSlti s e rd ra imm
    | 0x20 => opLui s e rd (imm22Of w)
    | 0x24 => opLdw s e rd ra imm ecc
    | 0x25 => opLdh s e rd ra imm ecc
    | 0x26 => opLdhu s e rd ra imm ecc
    | 0x27 => opLdb s e rd ra imm ecc
    | 0x28 => opLdbu s e rd ra imm ecc
    | 0x29 => opStw s e rd ra imm
    | 0x2A => opSth s e rd ra imm
    | 0x2B => opStb s e rd ra imm
    | 0x2C => opSwapw s e rd ra imm ecc
    | 0x2D => opAddw s e rd ra imm ecc
    | 0x30 => opBeq s e rd ra imm
    | 0x31 => opBne s e rd ra imm
    | 0x32 => opBlt s e rd ra imm
    | 0x33 => opBge s e rd ra imm
    | 0x34 => opBltu s e rd ra imm
    | 0x35 => opBgeu s e rd ra imm
    | 0x36 => opJmp s e (off26Of w)
    | 0x37 => opCall s e (off26Of w)
    | 0x38 => opJr s e rd ra rb
    | 0x39 => opWait s e rd ra rb
    | 0x3A => opIret s e
    | 0x3B => opCsrr s e rd ra imm
    | 0x3C => opCsrw s e rd ra imm
    | _ => illegal s e

/-! One meaning per instruction row: it runs when the engine issues its word (R312, R313). -/

def execAdd (e : Fin 8) (rd ra rb : BitVec 4) (s : State) : Host.Outcome State Fault Refusal :=
  .next (ifIssued s e (encR 0x01 rd ra rb) (opAdd s e rd ra rb))
def execSub (e : Fin 8) (rd ra rb : BitVec 4) (s : State) : Host.Outcome State Fault Refusal :=
  .next (ifIssued s e (encR 0x02 rd ra rb) (opSub s e rd ra rb))
def execAnd (e : Fin 8) (rd ra rb : BitVec 4) (s : State) : Host.Outcome State Fault Refusal :=
  .next (ifIssued s e (encR 0x03 rd ra rb) (opAnd s e rd ra rb))
def execOr (e : Fin 8) (rd ra rb : BitVec 4) (s : State) : Host.Outcome State Fault Refusal :=
  .next (ifIssued s e (encR 0x04 rd ra rb) (opOr s e rd ra rb))
def execXor (e : Fin 8) (rd ra rb : BitVec 4) (s : State) : Host.Outcome State Fault Refusal :=
  .next (ifIssued s e (encR 0x05 rd ra rb) (opXor s e rd ra rb))
def execShl (e : Fin 8) (rd ra rb : BitVec 4) (s : State) : Host.Outcome State Fault Refusal :=
  .next (ifIssued s e (encR 0x06 rd ra rb) (opShl s e rd ra rb))
def execShr (e : Fin 8) (rd ra rb : BitVec 4) (s : State) : Host.Outcome State Fault Refusal :=
  .next (ifIssued s e (encR 0x07 rd ra rb) (opShr s e rd ra rb))
def execSra (e : Fin 8) (rd ra rb : BitVec 4) (s : State) : Host.Outcome State Fault Refusal :=
  .next (ifIssued s e (encR 0x08 rd ra rb) (opSra s e rd ra rb))
def execSlt (e : Fin 8) (rd ra rb : BitVec 4) (s : State) : Host.Outcome State Fault Refusal :=
  .next (ifIssued s e (encR 0x09 rd ra rb) (opSlt s e rd ra rb))
def execSltu (e : Fin 8) (rd ra rb : BitVec 4) (s : State) : Host.Outcome State Fault Refusal :=
  .next (ifIssued s e (encR 0x0A rd ra rb) (opSltu s e rd ra rb))
def execMul (e : Fin 8) (rd ra rb : BitVec 4) (s : State) : Host.Outcome State Fault Refusal :=
  .next (ifIssued s e (encR 0x0B rd ra rb) (opMul s e rd ra rb))
def execMulh (e : Fin 8) (rd ra rb : BitVec 4) (s : State) : Host.Outcome State Fault Refusal :=
  .next (ifIssued s e (encR 0x0C rd ra rb) (opMulh s e rd ra rb))
def execMin (e : Fin 8) (rd ra rb : BitVec 4) (s : State) : Host.Outcome State Fault Refusal :=
  .next (ifIssued s e (encR 0x0D rd ra rb) (opMin s e rd ra rb))
def execMax (e : Fin 8) (rd ra rb : BitVec 4) (s : State) : Host.Outcome State Fault Refusal :=
  .next (ifIssued s e (encR 0x0E rd ra rb) (opMax s e rd ra rb))
def execClz (e : Fin 8) (rd ra rb : BitVec 4) (s : State) : Host.Outcome State Fault Refusal :=
  .next (ifIssued s e (encR 0x0F rd ra rb) (opClz s e rd ra rb))
def execQmul (e : Fin 8) (rd ra rb : BitVec 4) (s : State) : Host.Outcome State Fault Refusal :=
  .next (ifIssued s e (encR 0x10 rd ra rb) (opQmul s e rd ra rb))
def execQdiv (e : Fin 8) (rd ra rb : BitVec 4) (s : State) : Host.Outcome State Fault Refusal :=
  .next (ifIssued s e (encR 0x11 rd ra rb) (opQdiv s e rd ra rb))
def execQsqrt (e : Fin 8) (rd ra rb : BitVec 4) (s : State) : Host.Outcome State Fault Refusal :=
  .next (ifIssued s e (encR 0x12 rd ra rb) (opQsqrt s e rd ra rb))
def execJr (e : Fin 8) (rd ra rb : BitVec 4) (s : State) : Host.Outcome State Fault Refusal :=
  .next (ifIssued s e (encR 0x38 rd ra rb) (opJr s e rd ra rb))
def execWait (e : Fin 8) (rd ra rb : BitVec 4) (s : State) : Host.Outcome State Fault Refusal :=
  .next (ifIssued s e (encR 0x39 rd ra rb) (opWait s e rd ra rb))
def execAddi (e : Fin 8) (rd ra : BitVec 4) (imm : BitVec 18) (s : State) : Host.Outcome State Fault Refusal :=
  .next (ifIssued s e (encI 0x18 rd ra imm) (opAddi s e rd ra imm))
def execAndi (e : Fin 8) (rd ra : BitVec 4) (imm : BitVec 18) (s : State) : Host.Outcome State Fault Refusal :=
  .next (ifIssued s e (encI 0x19 rd ra imm) (opAndi s e rd ra imm))
def execOri (e : Fin 8) (rd ra : BitVec 4) (imm : BitVec 18) (s : State) : Host.Outcome State Fault Refusal :=
  .next (ifIssued s e (encI 0x1A rd ra imm) (opOri s e rd ra imm))
def execXori (e : Fin 8) (rd ra : BitVec 4) (imm : BitVec 18) (s : State) : Host.Outcome State Fault Refusal :=
  .next (ifIssued s e (encI 0x1B rd ra imm) (opXori s e rd ra imm))
def execShli (e : Fin 8) (rd ra : BitVec 4) (imm : BitVec 18) (s : State) : Host.Outcome State Fault Refusal :=
  .next (ifIssued s e (encI 0x1C rd ra imm) (opShli s e rd ra imm))
def execShri (e : Fin 8) (rd ra : BitVec 4) (imm : BitVec 18) (s : State) : Host.Outcome State Fault Refusal :=
  .next (ifIssued s e (encI 0x1D rd ra imm) (opShri s e rd ra imm))
def execSrai (e : Fin 8) (rd ra : BitVec 4) (imm : BitVec 18) (s : State) : Host.Outcome State Fault Refusal :=
  .next (ifIssued s e (encI 0x1E rd ra imm) (opSrai s e rd ra imm))
def execSlti (e : Fin 8) (rd ra : BitVec 4) (imm : BitVec 18) (s : State) : Host.Outcome State Fault Refusal :=
  .next (ifIssued s e (encI 0x1F rd ra imm) (opSlti s e rd ra imm))
def execStw (e : Fin 8) (rd ra : BitVec 4) (imm : BitVec 18) (s : State) : Host.Outcome State Fault Refusal :=
  .next (ifIssued s e (encI 0x29 rd ra imm) (opStw s e rd ra imm))
def execSth (e : Fin 8) (rd ra : BitVec 4) (imm : BitVec 18) (s : State) : Host.Outcome State Fault Refusal :=
  .next (ifIssued s e (encI 0x2A rd ra imm) (opSth s e rd ra imm))
def execStb (e : Fin 8) (rd ra : BitVec 4) (imm : BitVec 18) (s : State) : Host.Outcome State Fault Refusal :=
  .next (ifIssued s e (encI 0x2B rd ra imm) (opStb s e rd ra imm))
def execCsrr (e : Fin 8) (rd ra : BitVec 4) (imm : BitVec 18) (s : State) : Host.Outcome State Fault Refusal :=
  .next (ifIssued s e (encI 0x3B rd ra imm) (opCsrr s e rd ra imm))
def execCsrw (e : Fin 8) (rd ra : BitVec 4) (imm : BitVec 18) (s : State) : Host.Outcome State Fault Refusal :=
  .next (ifIssued s e (encI 0x3C rd ra imm) (opCsrw s e rd ra imm))
def execLdw (e : Fin 8) (rd ra : BitVec 4) (imm : BitVec 18) (ecc : Ecc) (s : State) :
    Host.Outcome State Fault Refusal :=
  .next (ifIssued s e (encI 0x24 rd ra imm) (opLdw s e rd ra imm ecc))
def execLdh (e : Fin 8) (rd ra : BitVec 4) (imm : BitVec 18) (ecc : Ecc) (s : State) :
    Host.Outcome State Fault Refusal :=
  .next (ifIssued s e (encI 0x25 rd ra imm) (opLdh s e rd ra imm ecc))
def execLdhu (e : Fin 8) (rd ra : BitVec 4) (imm : BitVec 18) (ecc : Ecc) (s : State) :
    Host.Outcome State Fault Refusal :=
  .next (ifIssued s e (encI 0x26 rd ra imm) (opLdhu s e rd ra imm ecc))
def execLdb (e : Fin 8) (rd ra : BitVec 4) (imm : BitVec 18) (ecc : Ecc) (s : State) :
    Host.Outcome State Fault Refusal :=
  .next (ifIssued s e (encI 0x27 rd ra imm) (opLdb s e rd ra imm ecc))
def execLdbu (e : Fin 8) (rd ra : BitVec 4) (imm : BitVec 18) (ecc : Ecc) (s : State) :
    Host.Outcome State Fault Refusal :=
  .next (ifIssued s e (encI 0x28 rd ra imm) (opLdbu s e rd ra imm ecc))
def execSwapw (e : Fin 8) (rd ra : BitVec 4) (imm : BitVec 18) (ecc : Ecc) (s : State) :
    Host.Outcome State Fault Refusal :=
  .next (ifIssued s e (encI 0x2C rd ra imm) (opSwapw s e rd ra imm ecc))
def execAddw (e : Fin 8) (rd ra : BitVec 4) (imm : BitVec 18) (ecc : Ecc) (s : State) :
    Host.Outcome State Fault Refusal :=
  .next (ifIssued s e (encI 0x2D rd ra imm) (opAddw s e rd ra imm ecc))
def execBeq (e : Fin 8) (ra rb : BitVec 4) (off : BitVec 18) (s : State) : Host.Outcome State Fault Refusal :=
  .next (ifIssued s e (encB 0x30 ra rb off) (opBeq s e ra rb off))
def execBne (e : Fin 8) (ra rb : BitVec 4) (off : BitVec 18) (s : State) : Host.Outcome State Fault Refusal :=
  .next (ifIssued s e (encB 0x31 ra rb off) (opBne s e ra rb off))
def execBlt (e : Fin 8) (ra rb : BitVec 4) (off : BitVec 18) (s : State) : Host.Outcome State Fault Refusal :=
  .next (ifIssued s e (encB 0x32 ra rb off) (opBlt s e ra rb off))
def execBge (e : Fin 8) (ra rb : BitVec 4) (off : BitVec 18) (s : State) : Host.Outcome State Fault Refusal :=
  .next (ifIssued s e (encB 0x33 ra rb off) (opBge s e ra rb off))
def execBltu (e : Fin 8) (ra rb : BitVec 4) (off : BitVec 18) (s : State) : Host.Outcome State Fault Refusal :=
  .next (ifIssued s e (encB 0x34 ra rb off) (opBltu s e ra rb off))
def execBgeu (e : Fin 8) (ra rb : BitVec 4) (off : BitVec 18) (s : State) : Host.Outcome State Fault Refusal :=
  .next (ifIssued s e (encB 0x35 ra rb off) (opBgeu s e ra rb off))
def execJmp (e : Fin 8) (off : BitVec 26) (s : State) : Host.Outcome State Fault Refusal :=
  .next (ifIssued s e (encJ 0x36 off) (opJmp s e off))
def execCall (e : Fin 8) (off : BitVec 26) (s : State) : Host.Outcome State Fault Refusal :=
  .next (ifIssued s e (encJ 0x37 off) (opCall s e off))
def execLui (e : Fin 8) (rd : BitVec 4) (imm : BitVec 22) (s : State) : Host.Outcome State Fault Refusal :=
  .next (ifIssued s e (encU 0x20 rd imm) (opLui s e rd imm))
def execIret (e : Fin 8) (s : State) : Host.Outcome State Fault Refusal :=
  .next (ifIssued s e (encR 0x3A 0#4 0#4 0#4) (opIret s e))

/-- ILLEGAL_OPCODE (R312, R313): the word at the pc is no instruction. -/
def execIllegalOpcode (e : Fin 8) (s : State) : Host.Outcome State Fault Refusal :=
  .next (if notInstr (fetchWord s e) then ifIssued s e (fetchWord s e) (illegal s e) else s)

/-- EVENT_EDGE (R316): the lines of a running PD_CORE. -/
def execEventEdge (e : Fin 8) (line : Fin 16) (s : State) : Host.Outcome State Fault Refusal :=
  .next (if domOn s 2 then raiseLine s e line else s)

/-- Whether an engine issues instructions or waits. -/
def engActive (s : State) (e : Nat) : Bool := engState s e == gRun || engState s e == gWait

/-- An interrupt is taken (R317, R318): EPC holds the next instruction, a WAIT's own address during a WAIT. -/
def takeInterrupt (s : State) (e : Nat) : State :=
  let s := s.modEng e fun g =>
    { g with epc := g.pc, cause := lowestEvent (irqMask g), ie := false, pc := g.ivec }
  fetchCheck (setEngState s e gRun) e

/-- INTERRUPT_TAKEN (R317). -/
def interruptTaken (s : State) (e : Nat) : State :=
  if engActive s e ∧ irqMask (s.engine e) ≠ 0 then takeInterrupt s e else s

def execInterruptTaken (e : Fin 8) (s : State) : Host.Outcome State Fault Refusal := .next (interruptTaken s e)

/-- WAIT_WAKE (R318): the WAIT completes. -/
def waitWake (s : State) (e : Nat) : State :=
  let g := s.engine e
  let hit := g.evpend &&& g.waitMask
  if engState s e = gWait ∧ hit ≠ 0 then
    let s := setXOf (setEngState s e gRun) e (BitVec.ofNat 4 g.waitRd) (BitVec.ofNat 32 (lowestEvent hit))
    fetchCheck (setPc s e (g.pc + 4#32)) e
  else s

def execWaitWake (e : Fin 8) (s : State) : Host.Outcome State Fault Refusal := .next (waitWake s e)

/-- Whether an engine's stall has started, so that CYCLE counts (R306). -/
def cycleRuns (s : State) (e : Nat) : Bool := domOn s 2 && stallOf s e != 15 && engState s e != gLoading

/-- TIMER_COMPARE (R316): CYCLE passes into TCMP, on the transition into it. -/
def timerCompare (s : State) (e : Nat) : State :=
  if cycleRuns s e then
    let g := s.engine e
    let d := (g.tcmp.toNat + 2 ^ 32 - g.cyc8 / 8 % 2 ^ 32) % 2 ^ 32
    let d := if d = 0 then 2 ^ 32 else d
    raiseLine (s.modEng e fun g => { g with cyc8 := (g.cyc8 / 8 + d) * 8 }) e 4
  else s

def execTimerCompare (e : Fin 8) (s : State) : Host.Outcome State Fault Refusal := .next (timerCompare s e)

/-- WATCHDOG_EXPIRY (R321): the count reaches 0; it stops in HALT, in FAULT and during loading. -/
def watchdogExpiry (s : State) (e : Nat) : State :=
  if domOn s 2 ∧ engActive s e then engineFault (s.set (F.GROOM_WD.left e) 0) e fltWdog 0 else s

def execWatchdogExpiry (e : Fin 8) (s : State) : Host.Outcome State Fault Refusal := .next (watchdogExpiry s e)

/-- A millisecond passes on an engine's watchdog (R321). -/
def engineMs (s : State) (e : Nat) : State :=
  if domOn s 2 ∧ engActive s e then
    let n := s.get (F.GROOM_WD.left e)
    if n ≤ 1 then watchdogExpiry s e else s.set (F.GROOM_WD.left e) (n - 1)
  else s

/-- RESTART_CLEAR (R324). -/
def restartClear (s : State) (e : Nat) : State :=
  if engActive s e then s.set (F.GROOM_STAT.restarts e) 0 else s

def execRestartClear (e : Fin 8) (s : State) : Host.Outcome State Fault Refusal := .next (restartClear s e)

/-- GROOM_DOORBELL (R316, R319). -/
def doorbell (s : State) (e : Nat) (value : Word) : State := raiseLine (s.modEng e fun g => { g with dbval := value }) e 3

def execGroomDoorbell (e : Fin 8) (value : Word) (s : State) : Host.Outcome State Fault Refusal :=
  .next (if domOn s 2 then doorbell s e value else s)

end Sys2Proof.Machine
end

