-- ==== Sys2Proof/Machine/Access.lean ====
section
/-!
DEFINITION. The host's side of the engines (R328, R330) and one word of host access to any address (R25, R30, R378).
-/
namespace Sys2Proof.Machine

/-- Whether debug access is permitted (R330): the strap, MAKER or SHOP, and a valid tag. -/
def debugOk (s : State) (tagged : Bool) : Bool :=
  tagged && s.flag F.RST_STRAP.dbg && (lifeState s == 1 || lifeState s == 3)

/-- A debug bit that is ignored (R330). -/
def wrRefused (s : State) (e : Nat) : State := s.set (F.GROOM_STAT.wr_refused e) 1

/-- HALT (R325, R330): at the next instruction boundary; a WAIT issues again when the engine resumes. -/
def halt (s : State) (e : Nat) (tagged : Bool) : State :=
  if ¬ debugOk s tagged then wrRefused s e
  else if engActive s e then setEngState s e gHalt
  else s

def execHalt (e : Fin 8) (tagged : Bool) (s : State) : Host.Outcome State Fault Refusal :=
  .next (if domOn s 2 then halt s e tagged else s)

/-- RESUME (R330). -/
def resume (s : State) (e : Nat) (tagged : Bool) : State :=
  if ¬ debugOk s tagged then wrRefused s e
  else if engState s e = gHalt then fetchCheck (setEngState s e gRun) e
  else s

def execResume (e : Fin 8) (tagged : Bool) (s : State) : Host.Outcome State Fault Refusal :=
  .next (if domOn s 2 then resume s e tagged else s)

/-- One instruction of a halted engine, or one interrupt (R330): the engine halts again unless it faulted or was reset. -/
def stepHalted (s : State) (e : Fin 8) : State :=
  let s := fetchCheck (setEngState s e gRun) e
  if engState s e ≠ gRun then s
  else
    let s := if irqMask (s.engine e) ≠ 0 then takeInterrupt s e else runWord s e (fetchWord s e) .clean
    if engActive s e then setEngState s e gHalt else s

/-- STEP (R330). -/
def stepCmd (s : State) (e : Fin 8) (tagged : Bool) : State :=
  if ¬ debugOk s tagged then wrRefused s e
  else if engState s e = gHalt then stepHalted s e
  else s

def execStep (e : Fin 8) (tagged : Bool) (s : State) : Host.Outcome State Fault Refusal :=
  .next (if domOn s 2 then stepCmd s e tagged else s)

/-- RELOAD (R328): a request for the engine's stall; it replaces an earlier one. -/
def reload (s : State) (e : Nat) (tagged : Bool) : State :=
  if tagged ∧ stallOf s e ≠ 15 then requestRestart s e false none else s

def execReload (e : Fin 8) (tagged : Bool) (s : State) : Host.Outcome State Fault Refusal :=
  .next (if domOn s 2 then reload s e tagged else s)

/-- MOVE (R328): refused when the target is not IDLE or is the source. -/
def move (s : State) (e target : Nat) (tagged : Bool) : State :=
  if ¬ tagged then s
  else
    let s := s.set (F.GROOM_CTRL.target e) target
    if target = e ∨ engState s target ≠ gIdle then wrRefused s e
    else if stallOf s e = 15 then s
    else requestRestart s e true (some target)

def execMove (e target : Fin 8) (tagged : Bool) (s : State) : Host.Outcome State Fault Refusal :=
  .next (if domOn s 2 then move s e target tagged else s)

/-- Whether registers and local memory of an engine are open to the host (R330). -/
def haltOpen (s : State) (e : Nat) (tagged : Bool) : Bool := debugOk s tagged && engState s e == gHalt

/-- Whether GROOM_MADDR names DMEM, and the offset in the space (GROOM_MADDR). -/
def mdataAddr (s : State) (e : Nat) : Bool × Nat :=
  let a := s.get (F.GROOM_MADDR.addr e) / 4 * 4
  if s.flag (F.GROOM_MADDR.space e) then (true, a % 0x2000) else (false, a)

/-- The word GROOM_MDATA reads (R330). -/
def mdataWord (s : State) (e : Nat) (tagged : Bool) : Word :=
  if haltOpen s e tagged then
    let (d, a) := mdataAddr s e
    Mem.word (if d then (s.engine e).dmem else (s.engine e).imem) a
  else 0

/-- GROOM_MDATA_ACCESS (R330): each access adds 4 to addr, wrapping within the space; an untagged write is refused. -/
def mdataAccess (s : State) (e : Nat) (write : Option Word) (tagged : Bool) : State :=
  let (d, a) := mdataAddr s e
  let next := if d then s.get (F.GROOM_MADDR.addr e) / 0x2000 * 0x2000 + (a + 4) % 0x2000 else (a + 4) % 0x8000
  match write with
  | none => s.set (F.GROOM_MADDR.addr e) next
  | some w =>
    if ¬ tagged then s
    else
      let s := if haltOpen s e tagged then
          s.modEng e fun g => if d then { g with dmem := Mem.putWord g.dmem a w } else { g with imem := Mem.putWord g.imem a w }
        else s
      s.set (F.GROOM_MADDR.addr e) next

def execGroomMdataAccess (e : Fin 8) (write : Option Word) (tagged : Bool) (s : State) :
    Host.Outcome State Fault Refusal :=
  .next (if domOn s 2 then mdataAccess s e write tagged else s)

/-- A host write to a GROOM register (R328, R330): the debug bits act or set wr_refused. -/
def groomWrite (s : State) (tagged : Bool) (a : Nat) (data : Word) (hw : Nat := 0) : State × Nat :=
  let e : Fin 8 := Fin.ofNat 8 ((a - 0x10_0000) / 0x1000)
  let off := a % 0x1000
  match findRow a with
  | none => (s, nakAck)
  | some r =>
    let (mask, code) := writeMask s (.host tagged) a r.fields hw
    let ok := mask != 0
    let data := if hw = 0 then data else reachedData s a mask hw r.fields data
    let d := data.toNat
    let s :=
      if off = 0x000 then
        let s := if ok then s.set (F.GROOM_CTRL.target e) (bitsOf data 5 3) else s
        let s := if bit d 0 then halt s e ok else s
        let s := if bit d 1 then resume s e ok else s
        let s := if bit d 2 then stepCmd s e ok else s
        let s := if bit d 3 then reload s e ok else s
        if bit d 4 then move s e (bitsOf data 5 3) ok else s
      else if off = 0x018 then doorbell s e data
      else if 0x100 ≤ off ∧ off < 0x140 then
        if haltOpen s e ok then setXOf s e (BitVec.ofNat 4 ((off - 0x100) / 4)) data else s
      else if off = 0x200 then
        if ok then s.setWord a (BitVec.ofNat 32 (data.toNat / 4 * 4 % 0x1_0000)) else s
      else if off = 0x204 then mdataAccess s e (some data) ok
      else plainWrite s a mask data r.fields
    (s, code)

/-- What a GROOM register reads as (R306, R330). -/
def groomView (s : State) (tagged : Bool) (a : Nat) : Word :=
  let e := (a - 0x10_0000) / 0x1000
  let off := a % 0x1000
  if off = 0x008 then (s.engine e).pc
  else if off = 0x01C then BitVec.ofNat 32 ((s.engine e).cyc8 / 8)
  else if 0x100 ≤ off ∧ off < 0x140 then
    if haltOpen s e tagged then xOf s e (BitVec.ofNat 4 ((off - 0x100) / 4)) else 0
  else if off = 0x204 then mdataWord s e tagged
  else if (findRow a).isSome then s.word a
  else 0

/-- Whether an address is in a GROOM window (R29). -/
def inGroom (a : Nat) : Bool := decide (0x10_0000 ≤ a) && decide (a < 0x10_8000)

/-- A host write of one word (R5, R30, R378). -/
def hostWord (s : State) (tagged : Bool) (a : Nat) (data : Word) (hw : Nat := 0) : State × Nat :=
  if inGroom a then
    let stop := accessStop s a true
    if stop ≠ nakAck then (s, stop) else groomWrite s tagged a data hw
  else busWrite s (.host tagged) a data hw

/-- A host read of one word (R30, R378). -/
def hostReadWord (s : State) (tagged : Bool) (a : Nat) : State × Nat × Word :=
  if inGroom a then
    let stop := accessStop s a false
    if stop ≠ nakAck then (s, stop, 0)
    else (if a % 0x1000 = 0x204 then mdataAccess s ((a - 0x10_0000) / 0x1000) none tagged else s, nakAck, groomView s tagged a)
  else busRead s (.host tagged) a

/-- REGISTER_WRITE (R5, R6, R30, R310): a host or engine write under the field's access type, lock and PRIV rules; an engine's
only where its yard routes permit it. `hw` holds the bits hardware changes in the cycle of the write. -/
def registerWrite (s : State) (src : Src) (a : Nat) (data : Word) (hw : Nat := 0) : State :=
  match src with
  | .host t => (hostWord s t a data hw).1
  | .engine e => if a % 4 = 0 ∧ yardAllowed s e a true then yardStore s e a data hw else s

def execRegisterWrite (src : Src) (addr : BitVec 24) (data : RegData) (s : State) : Host.Outcome State Fault Refusal :=
  .next (registerWrite s src addr.toNat data.data data.hw.toNat)

/-- A command of a sender: an engine's reaches a window only where its stall's yard routes name it (R282, R310, R341). -/
def ifRouted (s : State) (src : Src) (a : Nat) (write : Bool) (t : State) : State :=
  match src with
  | .host _ => t
  | .engine e => if yardAllowed s e a write then t else s

def execLoftWindowWrite (src : Src) (off : BitVec 19) (data : Word) (s : State) :
    Host.Outcome State Fault Refusal :=
  .next (ifRouted s src (0x40_0000 + off.toNat) true (loftWindow s src off data))
def execCommit (src : Src) (s : State) : Host.Outcome State Fault Refusal :=
  .next (ifRouted s src F.LOFT_CTRL.store.addr true (onDom s 9 (loftCommit s src)))
def execGabort (src : Src) (atStart : Bool) (s : State) : Host.Outcome State Fault Refusal :=
  .next (ifRouted s src F.LOFT_CTRL.store.addr true (onDom s 9 (gabort s src atStart)))
def execLoftStore (src : Src) (s : State) : Host.Outcome State Fault Refusal :=
  .next (ifRouted s src F.LOFT_CTRL.store.addr true (onDom s 9 (loftStore s src)))
def execRingChange (src : Src) (r : Fin 16) (hi : Word) (s : State) : Host.Outcome State Fault Refusal :=
  .next (ifRouted s src (F.LOFT_RVAL_W4.val_hi r).addr true (onDom s 9 (ringChange s src r hi)))
def execSolvMdataAccess (src : Src) (write : Option Word) (s : State) : Host.Outcome State Fault Refusal :=
  .next (ifRouted s src F.SOLV_MDATA.data.addr write.isSome (onDom s 2 (solvMdataAccess s write)))

end Sys2Proof.Machine
end

