-- ==== Sys2Proof/Machine/HostLink.lean ====
section
/-!
DEFINITION. The host link (R374 to R400): requests and answers, tags and binding, the SPI and CAN FD forms, the interrupt
request and the host reset.
-/
namespace Sys2Proof.Machine

/-- Changes the host link's hidden state. -/
def State.modHost (s : State) (f : HostState → HostState) : State := { s with host := f s.host }

/-- Whether the link accepts frames (R398). -/
def linkUp (s : State) : Bool := domOn s 8 && s.flag F.HOST_STAT.ready

/-- Whether the CAN FD form was strapped (R374). -/
def canForm (s : State) : Bool := s.flag F.HOST_STAT.form

/-- Whether the link can use K_HOST now: FIELD or SHOP, or MAKER once the bootstrap has exported it (R386). -/
def hostKey (s : State) : Option Nat :=
  if lifeState s = 2 ∨ lifeState s = 3 ∨ (lifeState s = 1 ∧ s.keys.boot) then (activeRoot s).map kHost else none

/-- The binding nonce (R381). -/
def dnonce (s : State) : List Byte := bytesBe (s.get (F.HOST_BNONCE.nonce 0)) 4 ++ bytesBe (s.get (F.HOST_BNONCE.nonce 1)) 4

/-- The link byte (R389). -/
def linkByte (s : State) : Byte :=
  BitVec.ofNat 8 (0xA0 + 8 * b2n (irqAsserted s) + 4 * s.get F.HOST_STAT.bound + 2 * b2n (s.get F.YARD_PSTAT.state == 2)
    + b2n (s.get F.HOST_LAST.status != 0))

/-- The command byte of a request (R375). -/
def cmdByte (op : Nat) (r : HostReq) : Nat := 64 * op + 32 * b2n r.tagBit + 16 * b2n r.fix + r.cnt.toNat

/-- The data words a request sends: only a WRITE has some (R375, R388). -/
def reqWords (op : Nat) (r : HostReq) : List Word := if op = 2 then r.data.take (r.cnt.toNat + 1) else []

/-- The bytes of words, most significant byte first (R376). -/
def wordBytes (l : List Word) : List Byte := l.flatMap fun w => bytesBe w.toNat 4

/-- The request's bytes before tag and CRC (R388). -/
def reqBytes (op : Nat) (r : HostReq) : List Byte :=
  BitVec.ofNat 8 (cmdByte op r) :: (bytesBe r.addr.toNat 3 ++ wordBytes (reqWords op r))

/-- The SPI request CRC over every request byte before it (R388). -/
def reqCrc (op : Nat) (r : HostReq) : Nat := crc16 (reqBytes op r ++ if r.tagBit then bytesBe r.tag.toNat 4 else [])

/-- Whether the request holds the words its command byte requires (R390, R394). -/
def reqWhole (op : Nat) (r : HostReq) : Bool := op != 2 || decide (r.cnt.toNat < r.data.length)

/-- The message a request's tag covers (R383). -/
def reqMessage (s : State) (seq op : Nat) (r : HostReq) : List Byte := dnonce s ++ bytesBe seq 4 ++ [0x48#8] ++ reqBytes op r

/-- The message an answer's tag covers (R383). -/
def ansMessage (nonce : List Byte) (seq status done : Nat) (words : List Word) : List Byte :=
  nonce ++ bytesBe seq 4 ++ [0x44#8, BitVec.ofNat 8 status, BitVec.ofNat 8 done] ++ wordBytes words

/-- A tag: the leftmost 32 bits of CMAC-AES-128 under K_HOST (R383). -/
def hostTag (key : Nat) (m : List Byte) : Word := BitVec.ofNat 32 (cmac false key m / 2 ^ 96)

/-- A request ends with its answer (R378): HOST_LAST and HOST_CNT0 record it. -/
def answer (s : State) (tagBit : Bool) (status done : Nat) (words : List Word) (tag : Option Word) : State :=
  let a : HostAnswer := { link := linkByte s, status := status, done := done, words := words, tag := tag }
  let s := s.sets [(F.HOST_LAST.status, status), (F.HOST_LAST.done, done), (F.HOST_LAST.tagged, b2n tagBit), (F.HOST_LAST.cut, 0)]
  let s := s.bump (if status = nakAck then F.HOST_CNT0.ack else F.HOST_CNT0.nak)
  s.modHost fun h => { h with answer := some a }

/-- How far a request has come: the state, the words done, the data read, the first field code, and the stopping code. -/
structure ReqRun where
  st : State
  done : Nat := 0
  words : List Word := []
  field : Nat := 0
  stop : Nat := 0
deriving DecidableEq, Repr

/-- One word of a request; after a stopping code, or once the link is lost, no later word executes (R378, R400). -/
def reqWord (tagged write : Bool) (r : ReqRun) (a : Nat) (d : Word) : ReqRun :=
  if r.stop ≠ nakAck ∨ ¬ linkUp r.st then r
  else if write then
    let (t, c) := hostWord r.st tagged a d
    if stopping c then { r with st := t, stop := c }
    else { r with st := t, done := r.done + 1, field := if r.field = 0 then c else r.field }
  else
    let (t, c, v) := hostReadWord r.st tagged a
    if stopping c then { r with st := t, stop := c }
    else { r with st := t, done := r.done + 1, words := r.words ++ [v] }

/-- Whether a request names nothing that can execute (R375). -/
def reqBad (op : Nat) (r : HostReq) : Bool :=
  op == 3 || (op == 0 && r.cnt != 0#4) || (!r.fix && decide (0xFF_FFFC < r.addr.toNat + 4 * r.cnt.toNat))

/-- The words of a request in address order (R377, R380). -/
def reqRun (s : State) (op : Nat) (r : HostReq) (tagged : Bool) : ReqRun :=
  if op = 0 then { st := s }
  else
    (List.range (r.cnt.toNat + 1)).foldl
      (fun x i => reqWord tagged (op == 2) x (r.addr.toNat + (if r.fix then 0 else 4 * i)) (r.data.getD i 0)) { st := s }

/-- Executes a request and answers it (R377, R378, R383); a tagged answer is tagged under the binding of its request. No
answer stands where the link is lost meanwhile (R400). -/
def execute (s : State) (op : Nat) (r : HostReq) (auth : Option (Nat × Nat)) : State :=
  let nonce := dnonce s
  let x : ReqRun := if reqBad op r then { st := s, stop := nakCmd } else reqRun s op r auth.isSome
  let status := if x.stop ≠ nakAck then x.stop else x.field
  if ¬ linkUp x.st then x.st
  else
    match auth with
    | none => answer x.st r.tagBit status x.done x.words none
    | some (key, seq) =>
      let m := ansMessage nonce seq status x.done x.words
      answer (pchRun x.st 0 m.length) r.tagBit status x.done x.words (some (hostTag key m))

/-- A bind request (R382). -/
def isBind (s : State) (op : Nat) (r : HostReq) : Bool :=
  !s.flag F.HOST_STAT.bound && op == 2 && r.tagBit && !r.fix && r.cnt == 0#4 && r.addr == 0x12_0010#24
    && r.data.head? == some 0x4249_4E44#32

/-- A request's tag goes to HAUTH (R241, R245, R383). -/
def hauthAsk (s : State) (c : HostCheck) : State :=
  pchAsk (s.modHost fun h => { h with checking := some c }) .hauth 0 (reqMessage s c.seq c.op c.req).length

/-- A request begins (R377, R382, R383, R386): untagged ones execute, tagged ones wait for HAUTH, or are answered UNBOUND. `seq` is
what HOST_SEQ held when the request arrived. -/
def begin_ (s : State) (op : Nat) (r : HostReq) (seq : Nat) : State :=
  if ¬ r.tagBit then execute s op r none
  else if s.flag F.HOST_STAT.bound then hauthAsk s { op := op, req := r, bind := false, seq := seq }
  else if isBind s op r ∧ s.flag F.HOST_STAT.nonce_ok ∧ (hostKey s).isSome then
    hauthAsk s { op := op, req := r, bind := true, seq := 0 }
  else answer s true nakUnbound 0 [] none

/-- A request arrives (R377, R380, R390, R394, R395). -/
def arrive (s : State) (op : Nat) (r : HostReq) : State :=
  if ¬ linkUp s then s
  else if canForm s = false ∧ r.crc.toNat ≠ reqCrc op r then
    (answer s r.tagBit nakCrc 0 [] none).bump F.HOST_CNT1.crc
  else if ¬ reqWhole op r ∨ (canForm s ∧ 13 < r.cnt.toNat) then answer s r.tagBit nakCmd 0 [] none
  else
    match s.host.checking with
    | none => begin_ s op r (s.get F.HOST_SEQ.seq)
    | some _ =>
      if canForm s ∧ ¬ s.host.queue.isEmpty then answer s r.tagBit nakBusy 0 [] none
      else s.modHost fun h => { h with queue := h.queue ++ [(op, r, s.get F.HOST_SEQ.seq)] }

def execHostStatus (r : HostReq) (s : State) : Host.Outcome State Fault Refusal := .next (arrive s 0 r)
def execHostRead (r : HostReq) (s : State) : Host.Outcome State Fault Refusal := .next (arrive s 1 r)
def execHostWrite (r : HostReq) (s : State) : Host.Outcome State Fault Refusal := .next (arrive s 2 r)
def execHostOpReserved (r : HostReq) (s : State) : Host.Outcome State Fault Refusal := .next (arrive s 3 r)

/-- The WRITE request of one tagged word to HOST_BIND (R382, R385). -/
def bindReq (data tag : Word) (crc : BitVec 16) : HostReq :=
  { tagBit := true, fix := false, cnt := 0, addr := 0x12_0010, data := [data], tag := tag, crc := crc }

/-- BIND_REQUEST (R382). -/
def execBindRequest (tag : Word) (crc : BitVec 16) (s : State) : Host.Outcome State Fault Refusal :=
  .next (if s.flag F.HOST_STAT.bound then s else arrive s 2 (bindReq 0x4249_4E44#32 tag crc))

/-- HOST_BIND_UNBIND (R385). -/
def execHostBindUnbind (data tag : Word) (crc : BitVec 16) (s : State) : Host.Outcome State Fault Refusal :=
  .next (if s.flag F.HOST_STAT.bound then arrive s 2 (bindReq data tag crc) else s)

/-- Requests that waited begin, up to the next tag check (R380). -/
def nextRequests (s : State) (l : List (Nat × HostReq × Nat)) : State :=
  match l with
  | [] => s.modHost fun h => { h with queue := [] }
  | (op, r, seq) :: t =>
    let s := begin_ s op r seq
    if ¬ linkUp s then s
    else if s.host.checking.isSome then s.modHost fun h => { h with queue := t }
    else nextRequests s t

/-- A failed tag (R384). -/
def authFail (s : State) : State :=
  answer ((s.bump F.HOST_CNT1.auth).set F.HOST_IRQSTAT.auth 1) true nakAuth 0 [] none

/-- A valid tag (R382, R384, R385): the link is bound, HOST_SEQ advances before the request executes, and its last value
unbinds. -/
def authPass (s : State) (c : HostCheck) (key : Nat) : State :=
  let seq := if c.bind then 1 else s.get F.HOST_SEQ.seq + 1
  let s := (s.set F.HOST_SEQ.seq seq).set F.HOST_STAT.bound 1
  let s := if c.bind then answerBind s c key else execute s c.op c.req (some (key, c.seq))
  if seq = 0xFFFF_FFFF ∧ linkUp s ∧ s.flag F.HOST_STAT.bound then hostUnbind s true else s
where
  /-- The answer to a bind request: ACK under sequence 0 (R382). -/
  answerBind (s : State) (c : HostCheck) (key : Nat) : State :=
    let m := ansMessage (dnonce s) c.seq nakAck 1 []
    answer (pchRun s 0 m.length) true nakAck 1 [] (some (hostTag key m))

/-- HOST_TAG_CHECK_DONE (R384, R400): a check that ended without a result, in the channel or by this step, is asked again. -/
def hostTagCheckDone (s : State) (e : HauthEnd) : State :=
  match s.host.checking, hostKey s with
  | some c, some key =>
    if ¬ linkUp s ∨ ¬ domOn s 3 then s
    else
      let again := match opOf s .hauth with | some o => o.ending.isSome | none => true
      let s := if again then hauthAsk s c else s
      match e, opOf s .hauth with
      | .result, some _ =>
        let m := reqMessage s c.seq c.op c.req
        let s := (pchResult (s.modHost fun h => { h with checking := none }) .hauth 0 m.length stDone).1
        let s := if hostTag key m = c.req.tag then authPass s c key else authFail s
        if linkUp s then nextRequests s s.host.queue else s
      | _, _ => hauthAsk s c
  | _, _ => s

def execHostTagCheckDone (e : HauthEnd) (s : State) : Host.Outcome State Fault Refusal := .next (hostTagCheckDone s e)

/-- NONCE_DRAW (R381): an unbound link takes the host port's block as a read of data word 3 would. -/
def nonceDraw (s : State) : State :=
  if linkUp s ∧ domOn s 3 ∧ ¬ s.flag F.HOST_STAT.bound ∧ ¬ s.flag F.HOST_STAT.nonce_ok ∧ portValid s none then
    let b := portBlock s none / 2 ^ 64
    let s := s.sets [(F.HOST_BNONCE.nonce 0, b / 2 ^ 32), (F.HOST_BNONCE.nonce 1, b % 2 ^ 32), (F.HOST_STAT.nonce_ok, 1)]
    portConsume s none
  else s

def execNonceDraw (s : State) : Host.Outcome State Fault Refusal := .next (nonceDraw s)

/-- SPI_FRAME_START (R387): SCK low selects mode 0, high mode 3. -/
def spiFrameStart (s : State) (sckHigh : Bool) : State :=
  if linkUp s ∧ ¬ canForm s then
    (s.put F.HOST_STAT.spi_mode sckHigh).modHost fun h => { h with frame := true, answer := none }
  else s

def execSpiFrameStart (sckHigh : Bool) (s : State) : Host.Outcome State Fault Refusal := .next (spiFrameStart s sckHigh)

/-- The requested host reset (R399). -/
def hostResetAct (s : State) : State := if s.host.resetPend then chipReset s F.RST_CAUSE.host else s

/-- SPI_FRAME_END (R390, R399): a frame cut before its last request byte is discarded; a requested reset acts on CSN rising
after the answer. -/
def spiFrameEnd (s : State) (whole : Bool) : State :=
  if linkUp s ∧ s.host.frame then
    let s := s.modHost fun h => { h with frame := false }
    if whole then (if s.host.answer.isSome then hostResetAct s else s)
    else
      (s.sets [(F.HOST_LAST.status, nakCmd), (F.HOST_LAST.done, 0), (F.HOST_LAST.cut, 1)]).bump F.HOST_CNT0.nak
  else s

def execSpiFrameEnd (whole : Bool) (s : State) : Host.Outcome State Fault Refusal := .next (spiFrameEnd s whole)

/-- An identifier in force: the plan's, or the default until the plan applies and for the value 0 (R393). -/
def canId (s : State) (n : Nat) : Nat :=
  orDefault (if s.flag F.HOST_STAT.plan_cfg then s.get (F.HOST_CANID.id n) else 0) (0x6A0 + n)

/-- The word at a place of a byte string, most significant byte first (R376). -/
def wordAt (b : List Byte) (i : Nat) : Word := BitVec.ofNat 32 (natBe ((b.drop i).take 4))

/-- A request frame's data field as a request (R394); padding is ignored. None when it is too short. -/
def parseReq (b : List Byte) : Option (Nat × HostReq) :=
  let c := (b.getD 0 0).toNat
  let n := if c / 64 = 2 then c % 16 + 1 else 0
  let r : HostReq := { tagBit := bit c 5, fix := bit c 4, cnt := BitVec.ofNat 4 c, addr := BitVec.ofNat 24 (natBe ((b.drop 1).take 3))
                       data := (List.range n).map fun i => wordAt b (4 + 4 * i), tag := wordAt b (4 + 4 * n), crc := 0 }
  if b.length < 4 + 4 * n + (if bit c 5 then 4 else 0) then none else some (c / 64, r)

/-- Whether identifiers are of 29 bits: the plan's choice, base identifiers until it applies (R392, R393). -/
def canExt (s : State) : Bool := s.flag F.HOST_STAT.plan_cfg && s.flag F.HOST_CFG.ext_id

/-- CAN_REQUEST_FRAME (R392, R394, R395): FD data frames on the request identifier, of the identifier length in force; a
recessive res bit is a protocol exception, and the frame is not received. -/
def canRequestFrame (s : State) (fd ext res : Bool) (ident : BitVec 29) (payload : List Byte) : State :=
  if ¬ linkUp s ∨ ¬ canForm s ∨ ¬ fd ∨ s.get F.HOST_CANERR.state = 2 then s
  else if res then s.set F.HOST_CANERR.pex 1
  else if ident.toNat ≠ canId s 0 ∨ ext ≠ canExt s then s
  else
    match parseReq payload with
    | some (op, r) => arrive s op r
    | none =>
      if s.host.checking.isSome ∧ ¬ s.host.queue.isEmpty then answer s (bit (payload.getD 0 0).toNat 5) nakBusy 0 [] none
      else answer s (bit (payload.getD 0 0).toNat 5) nakCmd 0 [] none

def execCanRequestFrame (bits : CanBits) (ident : BitVec 29) (payload : List Byte) (s : State) :
    Host.Outcome State Fault Refusal :=
  .next (canRequestFrame s bits.fd bits.ext bits.res ident payload)

/-- CAN_NOTIFY (R396): a notification carries the enabled bits gained since the last one. -/
def canNotify (s : State) : State :=
  let new := irqEnabled s
  let gained : Bool := new &&& (127 - s.host.ntfSeen % 128) != 0
  if linkUp s ∧ canForm s ∧ s.flag F.HOST_CFG.ntf_en ∧ gained then
    let note := linkByte s :: ([0#8, 0#8, 0#8] ++ bytesBe (irqStat s) 4 ++ bytesBe (s.word F.SESS_EVT.fail.addr).toNat 4)
    s.modHost fun h => { h with ntfSeen := new, note := note }
  else s

def execCanNotify (s : State) : Host.Outcome State Fault Refusal := .next (canNotify s)

/-- CAN_TX_DROP (R392): the answer frame is dropped. -/
def canTxDrop (s : State) : State :=
  if linkUp s ∧ canForm s then
    ((s.set F.HOST_CANERR.tx_drop 1).set F.HOST_IRQSTAT.can 1).modHost fun h => { h with answer := none }
  else s

def execCanTxDrop (s : State) : Host.Outcome State Fault Refusal := .next (canTxDrop s)

/-- CAN_BUS_OFF_RECOVERY (R392): error active again, the counters at 0. -/
def canBusOffRecovery (s : State) : State :=
  if linkUp s ∧ canForm s ∧ s.get F.HOST_CANERR.state = 2 then
    s.sets [(F.HOST_CANERR.state, 0), (F.HOST_CANERR.tec, 0), (F.HOST_CANERR.rec, 0), (F.HOST_IRQSTAT.can, 1)]
  else s

def execCanBusOffRecovery (s : State) : Host.Outcome State Fault Refusal := .next (canBusOffRecovery s)

/-- The error state of ISO 11898-1 for the two counters (R392). -/
def canErrState (tec rec : Nat) : Nat := if 256 ≤ tec then 2 else if 128 ≤ tec ∨ 128 ≤ rec then 1 else 0

/-- CAN_BUS_ERROR (R392): the counters after the error; a node in bus-off counts no errors. -/
def canBusError (s : State) (tec rec : Nat) : State :=
  let old := s.get F.HOST_CANERR.state
  if linkUp s ∧ canForm s ∧ old ≠ 2 then
    let new := canErrState tec rec
    let s := s.sets [(F.HOST_CANERR.tec, min 255 tec), (F.HOST_CANERR.rec, min 255 rec), (F.HOST_CANERR.state, new)]
    let s := if new = 2 then s.bump F.HOST_CANERR.busoff else s
    if new = old then s else s.set F.HOST_IRQSTAT.can 1
  else s

def execCanBusError (tec rec : BitVec 9) (s : State) : Host.Outcome State Fault Refusal :=
  .next (canBusError s tec.toNat rec.toNat)

/-- IRQ_REASSERT (R397). -/
def execIrqReassert (s : State) : Host.Outcome State Fault Refusal :=
  .next (s.modHost fun h => { h with irqReleased := false })

/-- HOST_RESET (R399): the key in a tagged write requests the reset; any other value is ignored. -/
def hostReset (s : State) (key : Word) (tagged : Bool) : State :=
  if linkUp s ∧ tagged ∧ key = 0x0000_A55A#32 then s.modHost fun h => { h with resetPend := true } else s

def execHostReset (key : Word) (tagged : Bool) (s : State) : Host.Outcome State Fault Refusal :=
  .next (hostReset s key tagged)

/-- HOST_RESET_ACT (R399). -/
def execHostResetAct (s : State) : Host.Outcome State Fault Refusal := .next (hostResetAct s)

end Sys2Proof.Machine
end

