-- ==== Sys2Proof/Machine/Tap.lean ====
section
/-!
DEFINITION. The test port (R480 to R482), the fuse map of the balls (R430), and what the signal balls drive.
-/
namespace Sys2Proof.Machine

/-- What a ball does: driven low or high, pulled, or high impedance (R430). -/
inductive Drive where
  | highZ
  | pullDown
  | pullUp
  | low
  | high
deriving DecidableEq, Repr

/-- The fused state of a ball (R430), by its place in R482's order: HS0 to HS7, DS0 to DS7, TMP0 to TMP3, HLNK0 to HLNK3, IRQ,
SLK_A, SLK_B, VERDICT. -/
def fuseDrive (k : Nat) : Drive :=
  match k with
  | 22 => .pullUp
  | 24 => .pullUp
  | 25 => .low
  | 26 => .low
  | 27 => .low
  | _ => .highZ

/-- The codes of R480. -/
def tapExtestOp : Nat := 0
def tapSampleOp : Nat := 1
def tapIdcodeOp : Nat := 2
def tapHighzOp : Nat := 3
def tapClampOp : Nat := 4
def tapBypassOp : Nat := 15

/-- The device identification register (R480). -/
def tapIdcodeWord : Word := 0x1748_474B

/-- Whether the TAP drives the balls (R481): EXTEST, HIGHZ or CLAMP while no plan runs. -/
def tapEffective (s : State) : Bool := tapHolds s && !planRuns s

/-- A bit of the boundary register: cells 3k, 3k + 1 and 3k + 2 are ball k's input, output and control cells (R482). -/
def tapCell (s : State) (i : Nat) : Bool := s.tap.cells.getLsbD i

/-- What a boundary scan drives on a ball (R481, R482): SLK_A and SLK_B only low. -/
def scanDrive (s : State) (k : Nat) : Drive :=
  if ¬ tapCell s (3 * k + 2) then .highZ
  else if k = 25 ∨ k = 26 then .low
  else if tapCell s (3 * k + 1) then .high
  else .low

/-- What a ball's block drives (R13, R214, R397). -/
def blockDrive (s : State) (k : Nat) : Drive :=
  match k with
  | 24 => if irqAsserted s then .low else if s.flag F.HOST_CFG.irq_od then .highZ else .high
  | 25 => if s.flag F.SESS_STAT.start_open then .high else .low
  | 26 => if s.flag F.SESS_STAT.start_open ∧ s.sess.slkB then .high else .low
  | 27 => if s.verdPulse ∧ (s.get F.VERD_PIN.mode = 1 ∨ s.get F.VERD_PIN.mode = 2) then .high else .low
  | _ => .highZ

/-- What ball `k` of R482's order does. -/
def ballDrive (s : State) (k : Nat) : Drive :=
  if tapEffective s then (if s.tap.ir = tapHighzOp then .highZ else scanDrive s k)
  else if bit s.tap.fused k then fuseDrive k
  else blockDrive s k

/-- Another instruction is selected: leaving EXTEST, HIGHZ or CLAMP returns every ball to its fuse map (R482). The TAP runs
only when the strap enables debug (R480). -/
def tapSelect (s : State) (ir : Nat) : State :=
  if s.flag F.RST_STRAP.dbg then
    let stays : Bool := ir == tapExtestOp || ir == tapHighzOp || ir == tapClampOp
    let leaves := tapEffective s && !stays
    { s with tap := { s.tap with
        ir := ir, fused := if leaves then 2 ^ 28 - 1 else s.tap.fused, aer := if leaves then 2 ^ 12 - 1 else s.tap.aer } }
  else s

/-- The boundary cells shifted in with EXTEST or SAMPLE/PRELOAD (R482). -/
def tapShift (s : State) (cells : BitVec 84) : State :=
  if s.flag F.RST_STRAP.dbg then { s with tap := { s.tap with cells := cells } } else s

/-- TAP_EXTEST (R481). -/
def execTapExtest (cells : BitVec 84) (s : State) : Host.Outcome State Fault Refusal :=
  .next (tapShift (tapSelect s tapExtestOp) cells)

/-- TAP_SAMPLE_PRELOAD (R480). -/
def execTapSamplePreload (cells : BitVec 84) (s : State) : Host.Outcome State Fault Refusal :=
  .next (tapShift (tapSelect s tapSampleOp) cells)

/-- TAP_IDCODE (R480). -/
def execTapIdcode (s : State) : Host.Outcome State Fault Refusal := .next (tapSelect s tapIdcodeOp)

/-- TAP_HIGHZ (R481). -/
def execTapHighz (s : State) : Host.Outcome State Fault Refusal := .next (tapSelect s tapHighzOp)

/-- TAP_CLAMP (R481). -/
def execTapClamp (s : State) : Host.Outcome State Fault Refusal := .next (tapSelect s tapClampOp)

/-- TAP_BYPASS (R480). -/
def execTapBypass (s : State) : Host.Outcome State Fault Refusal := .next (tapSelect s tapBypassOp)

/-- TAP_RESERVED (R480): opcodes 0x5 to 0xE act as BYPASS. -/
def execTapReserved (op : BitVec 4) (s : State) : Host.Outcome State Fault Refusal :=
  .next (if 5 ≤ op.toNat ∧ op.toNat ≤ 14 then tapSelect s op.toNat else s)

/-- TAP_RESET (R480, R482): Test-Logic-Reset selects IDCODE. -/
def execTapReset (s : State) : Host.Outcome State Fault Refusal := .next (tapSelect s tapIdcodeOp)

end Sys2Proof.Machine
end

