-- ==== Sys2Proof/Machine/Dispatch.lean ====
section
/-!
DEFINITION. One arm per command: the meaning it calls.
-/
namespace Sys2Proof.Machine

/-- The effect of a command on everything but the queue. -/
def exec (i : Instr) (s : State) : Host.Outcome State Fault Refusal :=
  match i with
  | .registerWrite src addr data => Sys2Proof.Machine.execRegisterWrite src addr data s
  | .hostStatus r => Sys2Proof.Machine.execHostStatus r s
  | .hostRead r => Sys2Proof.Machine.execHostRead r s
  | .hostWrite r => Sys2Proof.Machine.execHostWrite r s
  | .hostOpReserved r => Sys2Proof.Machine.execHostOpReserved r s
  | .bindRequest tag crc => Sys2Proof.Machine.execBindRequest tag crc s
  | .hostBindUnbind data tag crc => Sys2Proof.Machine.execHostBindUnbind data tag crc s
  | .hostTagCheckDone e => Sys2Proof.Machine.execHostTagCheckDone e s
  | .nonceDraw => Sys2Proof.Machine.execNonceDraw s
  | .spiFrameStart sckHigh => Sys2Proof.Machine.execSpiFrameStart sckHigh s
  | .spiFrameEnd whole => Sys2Proof.Machine.execSpiFrameEnd whole s
  | .canRequestFrame bits ident payload => Sys2Proof.Machine.execCanRequestFrame bits ident payload s
  | .canNotify => Sys2Proof.Machine.execCanNotify s
  | .canTxDrop => Sys2Proof.Machine.execCanTxDrop s
  | .canBusOffRecovery => Sys2Proof.Machine.execCanBusOffRecovery s
  | .irqReassert => Sys2Proof.Machine.execIrqReassert s
  | .hostReset key tagged => Sys2Proof.Machine.execHostReset key tagged s
  | .hostResetAct => Sys2Proof.Machine.execHostResetAct s
  | .txnStart kind sweep => Sys2Proof.Machine.execTxnStart kind sweep s
  | .wakeStart vdrv => Sys2Proof.Machine.execWakeStart vdrv s
  | .wakeEnd ts meas => Sys2Proof.Machine.execWakeEnd ts meas s
  | .patternLatch ts vdrv => Sys2Proof.Machine.execPatternLatch ts vdrv s
  | .patternGap meas => Sys2Proof.Machine.execPatternGap meas s
  | .ackPhaseEnd => Sys2Proof.Machine.execAckPhaseEnd s
  | .challengePreface vdrv => Sys2Proof.Machine.execChallengePreface vdrv s
  | .tCb ts => Sys2Proof.Machine.execTCb ts s
  | .tEnd ts env meas => Sys2Proof.Machine.execTEnd ts env meas s
  | .lfChalWrite n data => Sys2Proof.Machine.execLfChalWrite n data s
  | .synEnWrite v => Sys2Proof.Machine.execSynEnWrite v s
  | .bankEnWrite b v => Sys2Proof.Machine.execBankEnWrite b v s
  | .lfAbort atCompletion => Sys2Proof.Machine.execLfAbort atCompletion s
  | .calStart => Sys2Proof.Machine.execCalStart s
  | .calStepEnd amp phase env => Sys2Proof.Machine.execCalStepEnd amp phase env s
  | .hpStart tagged => Sys2Proof.Machine.execHpStart tagged s
  | .hpCarrierStart vdrv => Sys2Proof.Machine.execHpCarrierStart vdrv s
  | .hpReqStart => Sys2Proof.Machine.execHpReqStart s
  | .tHp ts meas => Sys2Proof.Machine.execTHp ts meas s
  | .hpReplyStart amps => Sys2Proof.Machine.execHpReplyStart amps s
  | .hpReplyEnd halves => Sys2Proof.Machine.execHpReplyEnd halves s
  | .hpTimeout => Sys2Proof.Machine.execHpTimeout s
  | .lfFaultClear data => Sys2Proof.Machine.execLfFaultClear data s
  | .overCurrent n => Sys2Proof.Machine.execOverCurrent n s
  | .bankWarm b temp => Sys2Proof.Machine.execBankWarm b temp s
  | .bankHot b temp => Sys2Proof.Machine.execBankHot b temp s
  | .bankCool b temp => Sys2Proof.Machine.execBankCool b temp s
  | .vdrvLow v => Sys2Proof.Machine.execVdrvLow v s
  | .vdrvHigh v => Sys2Proof.Machine.execVdrvHigh v s
  | .trimPeriod units => Sys2Proof.Machine.execTrimPeriod units s
  | .lfTrimRead => Sys2Proof.Machine.execLfTrimRead s
  | .huntWindowOpen p => Sys2Proof.Machine.execHuntWindowOpen p s
  | .huntWindowClose p rssi => Sys2Proof.Machine.execHuntWindowClose p rssi s
  | .syncDetect p => Sys2Proof.Machine.execSyncDetect p s
  | .frameTruncated p u0 u1 bytes ts res => Sys2Proof.Machine.execFrameTruncated p u0 u1 bytes ts res s
  | .uhfFrameEnd p u0 u1 bytes foff ts res => Sys2Proof.Machine.execUhfFrameEnd p u0 u1 bytes foff ts res s
  | .uhfQchkWrite e entry pass => Sys2Proof.Machine.execUhfQchkWrite e entry pass s
  | .uEnWrite rx v => Sys2Proof.Machine.execUEnWrite rx v s
  | .uhfStatClr => Sys2Proof.Machine.execUhfStatClr s
  | .pollLatchCopy => Sys2Proof.Machine.execPollLatchCopy s
  | .presenceCheckDone pass => Sys2Proof.Machine.execPresenceCheckDone pass s
  | .rfEnWrite v => Sys2Proof.Machine.execRfEnWrite v s
  | .uwbAbort atCompletion => Sys2Proof.Machine.execUwbAbort atCompletion s
  | .uwbCalStart => Sys2Proof.Machine.execUwbCalStart s
  | .uwbCalDone caps => Sys2Proof.Machine.execUwbCalDone caps s
  | .tscalStart => Sys2Proof.Machine.execTscalStart s
  | .tscalDone dnl found => Sys2Proof.Machine.execTscalDone dnl found s
  | .stmpLoRead => Sys2Proof.Machine.execStmpLoRead s
  | .pollTx slot ts => Sys2Proof.Machine.execPollTx slot ts s
  | .rr1ListenEnd ports cfo => Sys2Proof.Machine.execRr1ListenEnd ports cfo s
  | .finalTx ts => Sys2Proof.Machine.execFinalTx ts s
  | .rr2ListenEnd w0 w1 w23 => Sys2Proof.Machine.execRr2ListenEnd w0 w1 w23 s
  | .uwbWindowClose slot => Sys2Proof.Machine.execUwbWindowClose slot s
  | .precomputeDone slot => Sys2Proof.Machine.execPrecomputeDone slot s
  | .fixStart => Sys2Proof.Machine.execFixStart s
  | .fixIteration parityErr => Sys2Proof.Machine.execFixIteration parityErr s
  | .fixDone elapsed => Sys2Proof.Machine.execFixDone elapsed s
  | .fixDeadline slot => Sys2Proof.Machine.execFixDeadline slot s
  | .solvEnWrite v => Sys2Proof.Machine.execSolvEnWrite v s
  | .solvAbort atCompletion => Sys2Proof.Machine.execSolvAbort atCompletion s
  | .solvMdataAccess src write => Sys2Proof.Machine.execSolvMdataAccess src write s
  | .verdictPublish slot => Sys2Proof.Machine.execVerdictPublish slot s
  | .startSessionOpen status => Sys2Proof.Machine.execStartSessionOpen status s
  | .txnGapEnd => Sys2Proof.Machine.execTxnGapEnd s
  | .verdEnWrite v => Sys2Proof.Machine.execVerdEnWrite v s
  | .verdAbort forming => Sys2Proof.Machine.execVerdAbort forming s
  | .verdictPulseEnd => Sys2Proof.Machine.execVerdictPulseEnd s
  | .sessStartCmd kind tagged => Sys2Proof.Machine.execSessStartCmd kind tagged s
  | .endEntry => Sys2Proof.Machine.execEndEntry s
  | .endStart => Sys2Proof.Machine.execEndStart s
  | .sessEnWrite v => Sys2Proof.Machine.execSessEnWrite v s
  | .sessionTimeout start => Sys2Proof.Machine.execSessionTimeout start s
  | .slkBHalfPeriod => Sys2Proof.Machine.execSlkBHalfPeriod s
  | .slkReadbackSample a b => Sys2Proof.Machine.execSlkReadbackSample a b s
  | .slkFaultClear => Sys2Proof.Machine.execSlkFaultClear s
  | .burstDue => Sys2Proof.Machine.execBurstDue s
  | .dwellExpiry => Sys2Proof.Machine.execDwellExpiry s
  | .burstWakePStart vdrv => Sys2Proof.Machine.execBurstWakePStart vdrv s
  | .burstListenStart ts meas => Sys2Proof.Machine.execBurstListenStart ts meas s
  | .burstListenEnd => Sys2Proof.Machine.execBurstListenEnd s
  | .pollEnWrite v => Sys2Proof.Machine.execPollEnWrite v s
  | .sleep tagged => Sys2Proof.Machine.execSleep tagged s
  | .standbyEnter => Sys2Proof.Machine.execStandbyEnter s
  | .hostWakeWrite => Sys2Proof.Machine.execHostWakeWrite s
  | .pollCntClr => Sys2Proof.Machine.execPollCntClr s
  | .hsScan counts => Sys2Proof.Machine.execHsScan counts s
  | .dsSample levels => Sys2Proof.Machine.execDsSample levels s
  | .hostWakePin => Sys2Proof.Machine.execHostWakePin s
  | .wakeEvent w => Sys2Proof.Machine.execWakeEvent w s
  | .coreDispatch => Sys2Proof.Machine.execCoreDispatch s
  | .blockDone core mismatch => Sys2Proof.Machine.execBlockDone core mismatch s
  | .enc e handle => Sys2Proof.Machine.execEnc e handle s
  | .dec e handle => Sys2Proof.Machine.execDec e handle s
  | .kstream e handle => Sys2Proof.Machine.execKstream e handle s
  | .echOpReserved e => Sys2Proof.Machine.execEchOpReserved e s
  | .echAbort e atCompletion => Sys2Proof.Machine.execEchAbort e atCompletion s
  | .deriveStart e => Sys2Proof.Machine.execDeriveStart e s
  | .handleFree e handle => Sys2Proof.Machine.execHandleFree e handle s
  | .handleRetire slot => Sys2Proof.Machine.execHandleRetire slot s
  | .keyRenew c => Sys2Proof.Machine.execKeyRenew c s
  | .rootFillStep torn => Sys2Proof.Machine.execRootFillStep torn s
  | .goField tagged => Sys2Proof.Machine.execGoField tagged s
  | .goShop tagged => Sys2Proof.Machine.execGoShop tagged s
  | .retire confirm tagged => Sys2Proof.Machine.execRetire confirm tagged s
  | .lcCmdRefused cmd tagged => Sys2Proof.Machine.execLcCmdRefused cmd tagged s
  | .lcStateProgram => Sys2Proof.Machine.execLcStateProgram s
  | .keysImpWrite n data tagged => Sys2Proof.Machine.execKeysImpWrite n data tagged s
  | .keysWrapStart id index tagged => Sys2Proof.Machine.execKeysWrapStart id index tagged s
  | .keysWoutRead => Sys2Proof.Machine.execKeysWoutRead s
  | .keysClear tagged => Sys2Proof.Machine.execKeysClear tagged s
  | .healthTestFail raw => Sys2Proof.Machine.execHealthTestFail raw s
  | .startupTestPass raw => Sys2Proof.Machine.execStartupTestPass s raw
  | .seedComplete seed => Sys2Proof.Machine.execSeedComplete seed s
  | .rngRequest u mismatch => Sys2Proof.Machine.execRngRequest u mismatch s
  | .queueRefill mismatch => Sys2Proof.Machine.execQueueRefill mismatch s
  | .portConsume port => Sys2Proof.Machine.execPortConsume port s
  | .rngStretchRead => Sys2Proof.Machine.execRngStretchRead s
  | .rngEnWrite v => Sys2Proof.Machine.execRngEnWrite v s
  | .forcedReseed => Sys2Proof.Machine.execForcedReseed s
  | .qflush => Sys2Proof.Machine.execQflush s
  | .loftWindowWrite src off data => Sys2Proof.Machine.execLoftWindowWrite src off data s
  | .commit src => Sys2Proof.Machine.execCommit src s
  | .gatherTimeout => Sys2Proof.Machine.execGatherTimeout s
  | .commitStart => Sys2Proof.Machine.execCommitStart s
  | .commitEnd => Sys2Proof.Machine.execCommitEnd s
  | .gabort src atStart => Sys2Proof.Machine.execGabort src atStart s
  | .loftStore src => Sys2Proof.Machine.execLoftStore src s
  | .storeStart => Sys2Proof.Machine.execStoreStart s
  | .storeDone => Sys2Proof.Machine.execStoreDone s
  | .droopMeasureEnd mv => Sys2Proof.Machine.execDroopMeasureEnd mv s
  | .ringChange src r hi => Sys2Proof.Machine.execRingChange src r hi s
  | .ringSlotWriteDone r => Sys2Proof.Machine.execRingSlotWriteDone r s
  | .sealTagDone q => Sys2Proof.Machine.execSealTagDone q s
  | .recallStart => Sys2Proof.Machine.execRecallStart s
  | .recallDone ecc => Sys2Proof.Machine.execRecallDone ecc s
  | .pfTrip vhold => Sys2Proof.Machine.execPfTrip vhold s
  | .vholdBelowCutoff words => Sys2Proof.Machine.execVholdBelowCutoff words s
  | .vholdStoreStop => Sys2Proof.Machine.execVholdStoreStop s
  | .add e rd ra rb => Sys2Proof.Machine.execAdd e rd ra rb s
  | .sub e rd ra rb => Sys2Proof.Machine.execSub e rd ra rb s
  | .and e rd ra rb => Sys2Proof.Machine.execAnd e rd ra rb s
  | .or e rd ra rb => Sys2Proof.Machine.execOr e rd ra rb s
  | .xor e rd ra rb => Sys2Proof.Machine.execXor e rd ra rb s
  | .shl e rd ra rb => Sys2Proof.Machine.execShl e rd ra rb s
  | .shr e rd ra rb => Sys2Proof.Machine.execShr e rd ra rb s
  | .sra e rd ra rb => Sys2Proof.Machine.execSra e rd ra rb s
  | .slt e rd ra rb => Sys2Proof.Machine.execSlt e rd ra rb s
  | .sltu e rd ra rb => Sys2Proof.Machine.execSltu e rd ra rb s
  | .mul e rd ra rb => Sys2Proof.Machine.execMul e rd ra rb s
  | .mulh e rd ra rb => Sys2Proof.Machine.execMulh e rd ra rb s
  | .min e rd ra rb => Sys2Proof.Machine.execMin e rd ra rb s
  | .max e rd ra rb => Sys2Proof.Machine.execMax e rd ra rb s
  | .clz e rd ra rb => Sys2Proof.Machine.execClz e rd ra rb s
  | .qmul e rd ra rb => Sys2Proof.Machine.execQmul e rd ra rb s
  | .qdiv e rd ra rb => Sys2Proof.Machine.execQdiv e rd ra rb s
  | .qsqrt e rd ra rb => Sys2Proof.Machine.execQsqrt e rd ra rb s
  | .addi e rd ra imm => Sys2Proof.Machine.execAddi e rd ra imm s
  | .andi e rd ra imm => Sys2Proof.Machine.execAndi e rd ra imm s
  | .ori e rd ra imm => Sys2Proof.Machine.execOri e rd ra imm s
  | .xori e rd ra imm => Sys2Proof.Machine.execXori e rd ra imm s
  | .shli e rd ra imm => Sys2Proof.Machine.execShli e rd ra imm s
  | .shri e rd ra imm => Sys2Proof.Machine.execShri e rd ra imm s
  | .srai e rd ra imm => Sys2Proof.Machine.execSrai e rd ra imm s
  | .slti e rd ra imm => Sys2Proof.Machine.execSlti e rd ra imm s
  | .lui e rd imm => Sys2Proof.Machine.execLui e rd imm s
  | .ldw e rd ra imm ecc => Sys2Proof.Machine.execLdw e rd ra imm ecc s
  | .ldh e rd ra imm ecc => Sys2Proof.Machine.execLdh e rd ra imm ecc s
  | .ldhu e rd ra imm ecc => Sys2Proof.Machine.execLdhu e rd ra imm ecc s
  | .ldb e rd ra imm ecc => Sys2Proof.Machine.execLdb e rd ra imm ecc s
  | .ldbu e rd ra imm ecc => Sys2Proof.Machine.execLdbu e rd ra imm ecc s
  | .stw e rd ra imm => Sys2Proof.Machine.execStw e rd ra imm s
  | .sth e rd ra imm => Sys2Proof.Machine.execSth e rd ra imm s
  | .stb e rd ra imm => Sys2Proof.Machine.execStb e rd ra imm s
  | .swapw e rd ra imm ecc => Sys2Proof.Machine.execSwapw e rd ra imm ecc s
  | .addw e rd ra imm ecc => Sys2Proof.Machine.execAddw e rd ra imm ecc s
  | .beq e ra rb off => Sys2Proof.Machine.execBeq e ra rb off s
  | .bne e ra rb off => Sys2Proof.Machine.execBne e ra rb off s
  | .blt e ra rb off => Sys2Proof.Machine.execBlt e ra rb off s
  | .bge e ra rb off => Sys2Proof.Machine.execBge e ra rb off s
  | .bltu e ra rb off => Sys2Proof.Machine.execBltu e ra rb off s
  | .bgeu e ra rb off => Sys2Proof.Machine.execBgeu e ra rb off s
  | .jmp e off => Sys2Proof.Machine.execJmp e off s
  | .call e off => Sys2Proof.Machine.execCall e off s
  | .jr e rd ra rb => Sys2Proof.Machine.execJr e rd ra rb s
  | .wait e rd ra rb => Sys2Proof.Machine.execWait e rd ra rb s
  | .iret e => Sys2Proof.Machine.execIret e s
  | .csrr e rd ra imm => Sys2Proof.Machine.execCsrr e rd ra imm s
  | .csrw e rd ra imm => Sys2Proof.Machine.execCsrw e rd ra imm s
  | .illegalOpcode e => Sys2Proof.Machine.execIllegalOpcode e s
  | .eventEdge e line => Sys2Proof.Machine.execEventEdge e line s
  | .interruptTaken e => Sys2Proof.Machine.execInterruptTaken e s
  | .waitWake e => Sys2Proof.Machine.execWaitWake e s
  | .timerCompare e => Sys2Proof.Machine.execTimerCompare e s
  | .watchdogExpiry e => Sys2Proof.Machine.execWatchdogExpiry e s
  | .restartClear e => Sys2Proof.Machine.execRestartClear e s
  | .groomDoorbell e value => Sys2Proof.Machine.execGroomDoorbell e value s
  | .halt e tagged => Sys2Proof.Machine.execHalt e tagged s
  | .resume e tagged => Sys2Proof.Machine.execResume e tagged s
  | .step e tagged => Sys2Proof.Machine.execStep e tagged s
  | .reload e tagged => Sys2Proof.Machine.execReload e tagged s
  | .move e target tagged => Sys2Proof.Machine.execMove e target tagged s
  | .groomMdataAccess e write tagged => Sys2Proof.Machine.execGroomMdataAccess e write tagged s
  | .stallRestart e => Sys2Proof.Machine.execStallRestart e s
  | .stallInstallDone e status => Sys2Proof.Machine.execStallInstallDone e status s
  | .begin tagged => Sys2Proof.Machine.execBegin tagged s
  | .pdataWrite data tagged => Sys2Proof.Machine.execPdataWrite data tagged s
  | .apply tagged => Sys2Proof.Machine.execApply tagged s
  | .cancel tagged => Sys2Proof.Machine.execCancel tagged s
  | .useLoft tagged => Sys2Proof.Machine.execUseLoft tagged s
  | .planLoadStart => Sys2Proof.Machine.execPlanLoadStart s
  | .planVerifyDone status => Sys2Proof.Machine.execPlanVerifyDone status s
  | .planApply => Sys2Proof.Machine.execPlanApply s
  | .overlayApply => Sys2Proof.Machine.execOverlayApply s
  | .tallyMatch n => Sys2Proof.Machine.execTallyMatch n s
  | .tallyCapture n => Sys2Proof.Machine.execTallyCapture n s
  | .tallySwcap mask => Sys2Proof.Machine.execTallySwcap mask s
  | .tallyFreezeWrite mask => Sys2Proof.Machine.execTallyFreezeWrite mask s
  | .tallyFreezeApply n => Sys2Proof.Machine.execTallyFreezeApply n s
  | .tallyCntWrite n v => Sys2Proof.Machine.execTallyCntWrite n v s
  | .tallyCntRead n => Sys2Proof.Machine.execTallyCntRead n s
  | .tallyCapRead n coincide => Sys2Proof.Machine.execTallyCapRead n coincide s
  | .tallyCmpWrite n v => Sys2Proof.Machine.execTallyCmpWrite n v s
  | .tallyCmpApply n => Sys2Proof.Machine.execTallyCmpApply n s
  | .grantDeadline r => Sys2Proof.Machine.execGrantDeadline r s
  | .derateTick tempA tempB => Sys2Proof.Machine.execDerateTick tempA tempB s
  | .vdd33Sense vdd33 vdrv => Sys2Proof.Machine.execVdd33Sense vdd33 vdrv s
  | .domainSwitchOn d => Sys2Proof.Machine.execDomainSwitchOn d s
  | .powerGood d => Sys2Proof.Machine.execPowerGood d s
  | .clockGood c => Sys2Proof.Machine.execClockGood c s
  | .domainSwitchOff d => Sys2Proof.Machine.execDomainSwitchOff d s
  | .domainOffProceed d => Sys2Proof.Machine.execDomainOffProceed d s
  | .autoHoldExpiry d => Sys2Proof.Machine.execAutoHoldExpiry d s
  | .clockCheckWindow c dev => Sys2Proof.Machine.execClockCheckWindow c dev s
  | .por => Sys2Proof.Machine.execPor s
  | .bor33 vhold => Sys2Proof.Machine.execBor33 vhold s
  | .bor18 => Sys2Proof.Machine.execBor18 s
  | .nrstAssert => Sys2Proof.Machine.execNrstAssert s
  | .nrstRelease => Sys2Proof.Machine.execNrstRelease s
  | .sysWdogExpiry => Sys2Proof.Machine.execSysWdogExpiry s
  | .rstWdkick v => Sys2Proof.Machine.execRstWdkick v s
  | .rstCtrlWrite v tagged => Sys2Proof.Machine.execRstCtrlWrite v tagged s
  | .rstBlockWrite src mask => Sys2Proof.Machine.execRstBlockWrite src mask s
  | .blockResetRelease b => Sys2Proof.Machine.execBlockResetRelease b s
  | .strapDone code => Sys2Proof.Machine.execStrapDone code s
  | .trimLoadDone crcOk => Sys2Proof.Machine.execTrimLoadDone crcOk s
  | .domainReleaseGap => Sys2Proof.Machine.execDomainReleaseGap s
  | .clockGoodTimeout => Sys2Proof.Machine.execClockGoodTimeout s
  | .aonClockTimeout => Sys2Proof.Machine.execAonClockTimeout s
  | .tamperHaltResume => Sys2Proof.Machine.execTamperHaltResume s
  | .farrierDue => Sys2Proof.Machine.execFarrierDue s
  | .farrStart tagged => Sys2Proof.Machine.execFarrStart tagged s
  | .farrierPassStart => Sys2Proof.Machine.execFarrierPassStart s
  | .farrierStepDone slow => Sys2Proof.Machine.execFarrierStepDone slow s
  | .farrierTimeout => Sys2Proof.Machine.execFarrierTimeout s
  | .scrub err => Sys2Proof.Machine.execScrub err s
  | .tmpSample levels => Sys2Proof.Machine.execTmpSample levels s
  | .meshStep => Sys2Proof.Machine.execMeshStep s
  | .meshSample levels => Sys2Proof.Machine.execMeshSample levels s
  | .voltageGlitch lowSide => Sys2Proof.Machine.execVoltageGlitch lowSide s
  | .clockGlitch => Sys2Proof.Machine.execClockGlitch s
  | .tempSample tj => Sys2Proof.Machine.execTempSample tj s
  | .glitchLiveEnd clock => Sys2Proof.Machine.execGlitchLiveEnd clock s
  | .tmpLatchClear data tagged => Sys2Proof.Machine.execTmpLatchClear data tagged s
  | .hlthTsRead => Sys2Proof.Machine.execHlthTsRead s
  | .tapExtest cells => Sys2Proof.Machine.execTapExtest cells s
  | .tapSamplePreload cells => Sys2Proof.Machine.execTapSamplePreload cells s
  | .tapIdcode => Sys2Proof.Machine.execTapIdcode s
  | .tapHighz => Sys2Proof.Machine.execTapHighz s
  | .tapClamp => Sys2Proof.Machine.execTapClamp s
  | .tapBypass => Sys2Proof.Machine.execTapBypass s
  | .tapReserved op => Sys2Proof.Machine.execTapReserved op s
  | .tapReset => Sys2Proof.Machine.execTapReset s
  | .brownOutRelease r => Sys2Proof.Machine.execBrownOutRelease r s
  | .canBusError tec rec => Sys2Proof.Machine.execCanBusError tec rec s
  | .tallyEdge n => Sys2Proof.Machine.execTallyEdge n s
  | .vdrvOk v => Sys2Proof.Machine.execVdrvOk v s

end Sys2Proof.Machine
end

