-- ==== Sys2Proof/Machine/Tick.lean ====
section
/-!
DEFINITION. The passing of one AON tick, 1/32768 s (R223, R441): what an idle step does (log entry 2).
-/
namespace Sys2Proof.Machine

/-- LFS cycles up to AON tick `t`: 16 MHz / 32 768 Hz = 15625 / 32 (R406). -/
def lfsCycles (t : Nat) : Nat := t * 15625 / 32

/-- A millisecond passes on the timers that count milliseconds (R211, R321, R424). -/
def msTick (s : State) : State :=
  let s := if domOn s 2 then sessMs s else s
  (List.range 8).foldl engineMs (wdogMs s)

/-- The STMP counter advances 30 468.75 cycles of 32 LSB while its clock runs (R122, R406). -/
def stmpTick (s : State) : State :=
  if domOn s 7 ∧ s.bitAt F.CLK_STAT.good 8 then { s with uwb := { s.uwb with stmp := s.uwb.stmp + 975000#40 } } else s

/-- A POLL or FINAL has left: the receivers open for its answer (R131, R143); waiting correction tables are applied (R125). -/
def uwbTick (s : State) : State :=
  let s := tscalAdopt s
  if s.get F.UWB_STAT.state = 4 ∧ s.uwb.exch.isSome then setUwbState s 3 else s

/-- The accumulator of the synthesiser advances while LFS runs (R71); with it the half-bits of a frame and the antiphase drive
after a key-off edge (R85). -/
def lfTick (s : State) : State :=
  if domOn s 1 ∧ s.bitAt F.CLK_STAT.good 5 then
    let n := lfsCycles (s.aonTs + 1) - lfsCycles s.aonTs
    let steps := n * ftwNow s
    s.modLf fun l => { l with
      acc := l.acc + BitVec.ofNat 32 steps, keyCyc := if driving s then l.keyCyc + n else l.keyCyc
      quenchLeft := l.quenchLeft - steps }
  else s

/-- CORE cycles pass for the engines that issue no instruction: 192 MHz / 32 768 Hz = 46875 / 8 (R306). -/
def engineTick (s : State) (e : Nat) : State :=
  if cycleRuns s e ∧ engState s e ≠ gRun then addCycles s e 46875 else s

/-- The poll ladder's events of the tick (R223 to R225): a dwell expiry, then a burst due; its timer is held until AON
clock-good (R427). -/
def pollTick (s : State) : State :=
  if s.flag F.POLL_CTRL.en ∧ ¬ s.flag F.RST_STAT.aon_wait then
    let s := if s.aonTs = s.poll.dwellEnd then dwellExpiry s else s
    if s.aonTs = s.poll.due then burstDue s else s
  else s

/-- One AON tick: the events sampled on the edge of the tick that ends have been resolved, so its dwell expiry and its burst come
first (R225); then the time passes. -/
def aonTick (s : State) : State :=
  let s := pollTick s
  let s := (List.range 8).foldl engineTick (lfTick (stmpTick s))
  let acc := s.msAcc + 1000
  let s : State := { s with aonTs := s.aonTs + 1, msAcc := acc % 32768 }
  let s := if 32768 ≤ acc then msTick s else s
  farrierDue (uwbTick s)

end Sys2Proof.Machine
end

