-- ==== Sys2Proof/Safety.lean ====
section
/-!
DEFINITION. What a safe state is: the canonical forms of the stores and the sizes of the collections, in the terms the
statements use.
-/
namespace Sys2Proof.Machine

/-- An engine's memories are in canonical form. -/
def Engine.wf (g : Engine) : Bool := Store.wf g.x && Store.wf g.imem && Store.wf g.dmem

/-- Every store the state holds is in canonical form: the registers, the fuses, the feed store, the Loft's front, copies, rings
and waiting writes, the field model, the quarantine, the plan's register values, and every engine's registers and memories. -/
def StoresWf (s : State) : Prop :=
  Store.wf s.regs = true ∧ Store.wf s.fuses = true ∧ Store.wf s.feed = true ∧ Store.wf s.loft.front = true
    ∧ Store.wf s.loft.copyA.mem = true ∧ Store.wf s.loft.copyB.mem = true ∧ Store.wf s.loft.rings = true
    ∧ Store.wf s.solv.model = true ∧ Store.wf s.uhf.quar = true ∧ Store.wf s.yard.planRegs = true
    ∧ s.loft.frontWait.all (fun w => Store.wf w.2.2) = true ∧ s.eng.all Engine.wf = true

/-- Every collection that stands for a fixed number of parts holds that many: 8 engines (13), 16 counters (15), 10 domains (17), 5
root slots (R258) and 48 key slots (R249), 4 cipher cores with their pools and 4 privileged channels (10), 8 slots of a
transaction and of the STS store, 8 handles and doors, 4 tamper inputs and 2 mesh pairs, 12 clocks. The solver's queue names
slots. -/
def Sized (s : State) : Prop :=
  s.eng.length = 8 ∧ s.tally.length = 16 ∧ s.doms.length = 10 ∧ s.keys.roots.length = 5 ∧ s.keys.slots.length = 48
    ∧ s.ciph.cores.length = 4 ∧ s.ciph.pools.length = 4 ∧ s.ciph.pch.length = 4 ∧ s.txn.slots.length = 8
    ∧ s.uwb.sts.length = 8 ∧ s.poll.hsRun.length = 8 ∧ s.poll.dsRun.length = 8 ∧ s.hlth.tmpRun.length = 4
    ∧ s.hlth.lfsr.length = 2 ∧ s.man.badWin.length = 12 ∧ ∀ j ∈ s.solv.queue, j < 8

/-- The invariant of the block. -/
def Inv (s : State) : Prop := StoresWf s ∧ Sized s

end Sys2Proof.Machine
end

