-- ==== Sys2Proof/Certificates/Slice0/Obligations.lean ====
section
/-!
DEFINITION. The statements about the block, family by family, each citing the rules it formalises.
-/
open Sys2Proof Sys2Proof.Machine

/-! Groom engines (13). -/

namespace Sys2Proof.Claims

/-- Engine `e` issues word `w` next (it runs, no interrupt comes first, the word stands at its pc), and the word it goes on
at, `pc`, lies in IMEM. -/
abbrev Issues (s : State) (e : Fin 8) (w pc : Word) : Prop := issues s e w = true ∧ pc.toNat < 0x8000

/-- The word after the one at the pc. -/
def nextPc (s : State) (e : Fin 8) : Word := (s.engine e).pc + 4#32

/-- What an instruction leaves alone: everything outside engine `e`, and in it interrupt enable, saturation flag, interrupt
CSRs, timer and both local memories; of EVPEND only line 4, the timer, may rise as cycles pass (R306, R316). -/
structure Kept (s t : State) (e : Fin 8) : Prop where
  rest : { t with eng := s.eng } = s
  others : ∀ n : Nat, n ≠ e.val → t.engine n = s.engine n
  csrs : (t.engine e).ie = (s.engine e).ie ∧ (t.engine e).epc = (s.engine e).epc ∧ (t.engine e).cause = (s.engine e).cause
    ∧ (t.engine e).evmask = (s.engine e).evmask ∧ (t.engine e).ivec = (s.engine e).ivec
    ∧ (t.engine e).tcmp = (s.engine e).tcmp ∧ (t.engine e).dbval = (s.engine e).dbval
  evpend : (t.engine e).evpend = (s.engine e).evpend ∨ (t.engine e).evpend = setBit (s.engine e).evpend 4
  imem : (t.engine e).imem = (s.engine e).imem

/-- An instruction completed: it wrote `v` to register `rd` (x0 ignores it), no other register changed, the engine goes on at
`pc`, and the frame holds. -/
structure Wrote (s t : State) (e : Fin 8) (rd : BitVec 4) (v pc : Word) : Prop where
  x : ∀ r : BitVec 4, xOf t e r = if r = rd ∧ r ≠ 0#4 then v else xOf s e r
  pc : (t.engine e).pc = pc
  kept : Kept s t e

/-- The flags and local data that an arithmetic instruction leaves alone beside `Kept`. -/
structure SameData (s t : State) (e : Fin 8) : Prop where
  sat : (t.engine e).sat = (s.engine e).sat
  cycleh : (t.engine e).cycleh = (s.engine e).cycleh
  dmem : (t.engine e).dmem = (s.engine e).dmem

/-- An exact value clamped to the signed 32-bit range (R315), and whether it was clamped. -/
def clamp32 (x : Int) : Int := max (-2147483648) (min 2147483647 x)

end Sys2Proof.Claims

open Sys2Proof.Claims

/-- R313: the register forms ADD to CLZ write their result to rd, wrapping modulo 2 ^ 32, and change nothing else. CLZ needs
rb = x0; the form with another rb traps (GroomIllegalForms). -/
def Sys2Proof.Claims.GroomRegisterForms : Prop :=
  ∀ (e : Fin 8) (rd ra rb : BitVec 4) (s : State),
    let a := xOf s e ra
    let b := xOf s e rb
    ∀ p ∈ ([(.add e rd ra rb, encR 0x01 rd ra rb, a + b), (.sub e rd ra rb, encR 0x02 rd ra rb, a - b),
        (.and e rd ra rb, encR 0x03 rd ra rb, a &&& b), (.or e rd ra rb, encR 0x04 rd ra rb, a ||| b),
        (.xor e rd ra rb, encR 0x05 rd ra rb, a ^^^ b), (.shl e rd ra rb, encR 0x06 rd ra rb, a <<< (b.toNat % 32)),
        (.shr e rd ra rb, encR 0x07 rd ra rb, a >>> (b.toNat % 32)),
        (.sra e rd ra rb, encR 0x08 rd ra rb, a.sshiftRight (b.toNat % 32)),
        (.slt e rd ra rb, encR 0x09 rd ra rb, if a.toInt < b.toInt then 1 else 0),
        (.sltu e rd ra rb, encR 0x0A rd ra rb, if a.toNat < b.toNat then 1 else 0),
        (.mul e rd ra rb, encR 0x0B rd ra rb, BitVec.ofNat 32 (a.toNat * b.toNat)),
        (.mulh e rd ra rb, encR 0x0C rd ra rb, BitVec.ofInt 32 (a.toInt * b.toInt / 2 ^ 32)),
        (.min e rd ra rb, encR 0x0D rd ra rb, BitVec.ofInt 32 (min a.toInt b.toInt)),
        (.max e rd ra rb, encR 0x0E rd ra rb, BitVec.ofInt 32 (max a.toInt b.toInt)),
        (.clz e rd ra 0#4, encR 0x0F rd ra 0#4, BitVec.ofNat 32 (if a = 0#32 then 32 else 31 - a.toNat.log2))] :
        List (Instr × Word × Word)),
      Issues s e p.2.1 (nextPc s e) →
        ∃ t, exec p.1 s = .next t ∧ Wrote s t e rd p.2.2 (nextPc s e) ∧ SameData s t e

/-- R312, R313: the immediate forms. ADDI and SLTI sign-extend imm18; ANDI, ORI, XORI and the shifts zero-extend it; a shift
immediate of 32 or more traps (GroomIllegalForms). -/
def Sys2Proof.Claims.GroomImmediateForms : Prop :=
  ∀ (e : Fin 8) (rd ra : BitVec 4) (imm : BitVec 18) (sh : Fin 32) (u : BitVec 22) (s : State),
    let a := xOf s e ra
    let sh18 := BitVec.ofNat 18 sh.val
    ∀ p ∈ ([(.addi e rd ra imm, encI 0x18 rd ra imm, BitVec.ofInt 32 (a.toInt + imm.toInt)),
        (.andi e rd ra imm, encI 0x19 rd ra imm, a &&& BitVec.ofNat 32 imm.toNat),
        (.ori e rd ra imm, encI 0x1A rd ra imm, a ||| BitVec.ofNat 32 imm.toNat),
        (.xori e rd ra imm, encI 0x1B rd ra imm, a ^^^ BitVec.ofNat 32 imm.toNat),
        (.shli e rd ra sh18, encI 0x1C rd ra sh18, a <<< sh.val),
        (.shri e rd ra sh18, encI 0x1D rd ra sh18, a >>> sh.val),
        (.srai e rd ra sh18, encI 0x1E rd ra sh18, a.sshiftRight sh.val),
        (.slti e rd ra imm, encI 0x1F rd ra imm, if a.toInt < imm.toInt then 1 else 0),
        (.lui e rd u, encU 0x20 rd u, BitVec.ofNat 32 (u.toNat * 1024))] : List (Instr × Word × Word)),
      Issues s e p.2.1 (nextPc s e) →
        ∃ t, exec p.1 s = .next t ∧ Wrote s t e rd p.2.2 (nextPc s e) ∧ SameData s t e

/-- The register and immediate forms of the grooms write their results to rd and change nothing else: `Claims.GroomRegisterForms`, `Claims.GroomImmediateForms`. -/
def Obligations.GroomArithmetic : Prop :=
  Sys2Proof.Claims.GroomRegisterForms ∧ Sys2Proof.Claims.GroomImmediateForms

/-- R315: QMUL rounds the exact product by half a unit and clamps; QDIV divides toward zero and clamps, a zero divisor giving
the limit of the dividend's sign; QSQRT is the floor of the exact root, 0 for a negative input. Each clamp and each case
marked sets the sticky flag, which nothing here clears. -/
def Obligations.GroomFixedPoint : Prop :=
  ∀ (e : Fin 8) (rd ra rb : BitVec 4) (s : State),
    let a := (xOf s e ra).toInt
    let b := (xOf s e rb).toInt
    let done := fun (c : Instr) (v : Int) (sat : Bool) =>
      ∃ t, exec c s = .next t ∧ Wrote s t e rd (BitVec.ofInt 32 v) (nextPc s e) ∧ (t.engine e).dmem = (s.engine e).dmem
        ∧ (t.engine e).cycleh = (s.engine e).cycleh ∧ (t.engine e).sat = ((s.engine e).sat || sat)
    (Issues s e (encR 0x10 rd ra rb) (nextPc s e) →
      let q := (a * b + 0x8000) / 65536
      done (.qmul e rd ra rb) (clamp32 q) (decide (clamp32 q ≠ q)))
    ∧ (Issues s e (encR 0x11 rd ra rb) (nextPc s e) →
      let q := (a * 65536).tdiv b
      (b = 0 → done (.qdiv e rd ra rb) (if a < 0 then -2147483648 else 2147483647) true)
      ∧ (b ≠ 0 → done (.qdiv e rd ra rb) (clamp32 q) (decide (clamp32 q ≠ q))))
    ∧ (Issues s e (encR 0x12 rd ra 0#4) (nextPc s e) →
      (a < 0 → done (.qsqrt e rd ra 0#4) 0 true)
      ∧ (0 ≤ a → ∃ v : Nat, v * v ≤ a.toNat * 65536 ∧ a.toNat * 65536 < (v + 1) * (v + 1)
          ∧ done (.qsqrt e rd ra 0#4) v false))

/-- R308, R311, R313: loads from IMEM, DMEM and the feed windows read their bytes little-endian and extend them; a single-bit
ECC error is corrected and counted. Nothing is stored. -/
def Sys2Proof.Claims.GroomLoads : Prop :=
  ∀ (e : Fin 8) (rd ra : BitVec 4) (imm : BitVec 18) (ecc : Ecc) (s : State), ecc ≠ .double →
    let a := effAddr s e ra imm
    ∀ q ∈ ([(.ldw e rd ra imm ecc, 0x24, 4, fun n => BitVec.ofNat 32 n),
        (.ldh e rd ra imm ecc, 0x25, 2, fun n => BitVec.ofInt 32 (BitVec.ofNat 16 n).toInt),
        (.ldhu e rd ra imm ecc, 0x26, 2, fun n => BitVec.ofNat 32 n),
        (.ldb e rd ra imm ecc, 0x27, 1, fun n => BitVec.ofInt 32 (BitVec.ofNat 8 n).toInt),
        (.ldbu e rd ra imm ecc, 0x28, 1, fun n => BitVec.ofNat 32 n)] : List (Instr × Nat × Nat × (Nat → Word))),
      ∀ p : Place, placeOf s e a.toNat q.2.2.1 false false = p → (∀ h, p ≠ .yard h) → (∀ f, p ≠ .bad f) →
        Issues s e (encI q.2.1 rd ra imm) (nextPc s e) →
          ∃ t, exec q.1 s = .next t
            ∧ Wrote (eccCount s e ecc) t e rd (q.2.2.2 (Mem.natLe (memOf s e p).1 (memOf s e p).2 q.2.2.1)) (nextPc s e)
            ∧ SameData s t e

/-- R308, R313: a store writes its low bytes at its own address and no other byte; no register changes. -/
def Sys2Proof.Claims.GroomStores : Prop :=
  ∀ (e : Fin 8) (rs ra : BitVec 4) (imm : BitVec 18) (s : State),
    let a := (effAddr s e ra imm).toNat
    ∀ q ∈ ([(.stw e rs ra imm, 0x29, 4), (.sth e rs ra imm, 0x2A, 2), (.stb e rs ra imm, 0x2B, 1)] : List (Instr × Nat × Nat)),
      Issues s e (encI q.2.1 rs ra imm) (nextPc s e) →
        (∀ o, placeOf s e a q.2.2 true false = .dmem o → ∃ t, exec q.1 s = .next t ∧ Wrote s t e 0#4 0#32 (nextPc s e)
            ∧ (t.engine e).sat = (s.engine e).sat ∧ (t.engine e).cycleh = (s.engine e).cycleh
            ∧ (∀ k, k < q.2.2 → Store.get (t.engine e).dmem (o + k) = (xOf s e rs).extractLsb' (8 * k) 8)
            ∧ ∀ b, b < o ∨ o + q.2.2 ≤ b → Store.get (t.engine e).dmem b = Store.get (s.engine e).dmem b)
        ∧ (∀ o, placeOf s e a q.2.2 true false = .feed o → ∃ t, exec q.1 s = .next t
            ∧ Wrote { s with feed := t.feed } t e 0#4 0#32 (nextPc s e) ∧ SameData s t e
            ∧ (∀ k, k < q.2.2 → Store.get t.feed (o + k) = (xOf s e rs).extractLsb' (8 * k) 8)
            ∧ ∀ b, b < o ∨ o + q.2.2 ≤ b → Store.get t.feed b = Store.get s.feed b)

/-- R313: SWAPW and ADDW give rd the old word and leave the new one in its place; no other byte and no other register
changes. -/
def Sys2Proof.Claims.GroomAtomics : Prop :=
  ∀ (e : Fin 8) (rd ra : BitVec 4) (imm : BitVec 18) (ecc : Ecc) (s : State), ecc ≠ .double →
    let a := (effAddr s e ra imm).toNat
    ∀ q ∈ ([(.swapw e rd ra imm ecc, 0x2C, fun _ v => v), (.addw e rd ra imm ecc, 0x2D, fun t v => t + v)] :
        List (Instr × Nat × (Word → Word → Word))),
      Issues s e (encI q.2.1 rd ra imm) (nextPc s e) →
        (∀ o, placeOf s e a 4 true true = .dmem o → ∃ t, exec q.1 s = .next t
            ∧ Wrote (eccCount s e ecc) t e rd (Mem.word (s.engine e).dmem o) (nextPc s e)
            ∧ (t.engine e).sat = (s.engine e).sat ∧ (t.engine e).cycleh = (s.engine e).cycleh
            ∧ Mem.word (t.engine e).dmem o = q.2.2 (Mem.word (s.engine e).dmem o) (xOf s e rd)
            ∧ ∀ b, b < o ∨ o + 4 ≤ b → Store.get (t.engine e).dmem b = Store.get (s.engine e).dmem b)
        ∧ (∀ o, placeOf s e a 4 true true = .feed o → ∃ t, exec q.1 s = .next t
            ∧ Wrote { eccCount s e ecc with feed := t.feed } t e rd (Mem.word s.feed o) (nextPc s e) ∧ SameData s t e
            ∧ Mem.word t.feed o = q.2.2 (Mem.word s.feed o) (xOf s e rd)
            ∧ ∀ b, b < o ∨ o + 4 ≤ b → Store.get t.feed b = Store.get s.feed b)

/-- Loads, stores and atomics of the grooms reach the bytes their address names, and no others: `Claims.GroomLoads`, `Claims.GroomStores`, `Claims.GroomAtomics`. -/
def Obligations.GroomMemory : Prop :=
  Sys2Proof.Claims.GroomLoads ∧ Sys2Proof.Claims.GroomStores ∧ Sys2Proof.Claims.GroomAtomics

/-- R312, R313: a branch goes to its own address + 4 × offset where its condition holds and on to the next word where it does
not; it changes no register. -/
def Sys2Proof.Claims.GroomBranches : Prop :=
  ∀ (e : Fin 8) (ra rb : BitVec 4) (off : BitVec 18) (s : State),
    let a := xOf s e ra
    let b := xOf s e rb
    ∀ q ∈ ([(.beq e ra rb off, 0x30, decide (a = b)), (.bne e ra rb off, 0x31, decide (a ≠ b)),
        (.blt e ra rb off, 0x32, decide (a.toInt < b.toInt)), (.bge e ra rb off, 0x33, decide (b.toInt ≤ a.toInt)),
        (.bltu e ra rb off, 0x34, decide (a.toNat < b.toNat)), (.bgeu e ra rb off, 0x35, decide (b.toNat ≤ a.toNat))] :
        List (Instr × Nat × Bool)),
      let pc := if q.2.2 then BitVec.ofInt 32 ((s.engine e).pc.toInt + 4 * off.toInt) else nextPc s e
      Issues s e (encB q.2.1 ra rb off) pc →
        ∃ t, exec q.1 s = .next t ∧ Wrote s t e 0#4 0#32 pc ∧ SameData s t e

/-- R305, R313: JMP, CALL, JR and IRET. CALL leaves its return address in x15; JR reads its target before it writes rd. IRET
returns to EPC and enables interrupts. -/
def Sys2Proof.Claims.GroomJumps : Prop :=
  ∀ (e : Fin 8) (rd ra : BitVec 4) (off : BitVec 26) (s : State),
    let far := BitVec.ofInt 32 ((s.engine e).pc.toInt + 4 * off.toInt)
    let reg := xOf s e ra &&& 0xFFFF_FFFC#32
    (Issues s e (encJ 0x36 off) far →
      ∃ t, exec (.jmp e off) s = .next t ∧ Wrote s t e 0#4 0#32 far ∧ SameData s t e)
    ∧ (Issues s e (encJ 0x37 off) far →
      ∃ t, exec (.call e off) s = .next t ∧ Wrote s t e 15#4 (nextPc s e) far ∧ SameData s t e)
    ∧ (Issues s e (encR 0x38 rd ra 0#4) reg →
      ∃ t, exec (.jr e rd ra 0#4) s = .next t ∧ Wrote s t e rd (nextPc s e) reg ∧ SameData s t e)
    ∧ (Issues s e (encR 0x3A 0#4 0#4 0#4) (s.engine e).epc →
      ∃ t, exec (.iret e) s = .next t ∧ (t.engine e).pc = (s.engine e).epc ∧ (t.engine e).ie = true
        ∧ (∀ r, xOf t e r = xOf s e r) ∧ { t with eng := s.eng } = s ∧ SameData s t e
        ∧ (t.engine e).epc = (s.engine e).epc ∧ (t.engine e).cause = (s.engine e).cause
        ∧ (t.engine e).evmask = (s.engine e).evmask ∧ (t.engine e).imem = (s.engine e).imem
        ∧ ∀ n : Nat, n ≠ e.val → t.engine n = s.engine n)

/-- Branches and jumps of the grooms go where the rules say and link their return address: `Claims.GroomBranches`, `Claims.GroomJumps`. -/
def Obligations.GroomControlFlow : Prop :=
  Sys2Proof.Claims.GroomBranches ∧ Sys2Proof.Claims.GroomJumps

/-- R306, R313: CSRR reads the CSR that imm18 bits 7 to 0 name, 0 where the number is unassigned; reading CYCLE latches its
high half in CYCLEH. -/
def Sys2Proof.Claims.GroomCsrRead : Prop :=
  ∀ (e : Fin 8) (rd : BitVec 4) (imm : BitVec 18) (s : State),
    Issues s e (encI 0x3B rd 0#4 imm) (nextPc s e) →
      let g := s.engine e
      let n := imm.toNat % 256
      let v : Word :=
        if n = 0x00 then BitVec.ofNat 32 (e + 8 * s.get (F.GROOM_STAT.stall e))
        else if n = 0x01 then BitVec.ofNat 32 (b2n g.ie + 2 * b2n g.sat + 4 * s.get (F.GROOM_STAT.yerr e))
        else if n = 0x02 then g.epc else if n = 0x03 then BitVec.ofNat 32 g.cause
        else if n = 0x04 then BitVec.ofNat 32 g.evpend else if n = 0x05 then BitVec.ofNat 32 g.evmask
        else if n = 0x06 then g.ivec else if n = 0x08 then BitVec.ofNat 32 (g.cyc8 / 8)
        else if n = 0x09 then g.cycleh else if n = 0x0A then g.tcmp else if n = 0x0B then g.dbval else 0
      ∃ t, exec (.csrr e rd 0#4 imm) s = .next t ∧ Wrote s t e rd v (nextPc s e)
        ∧ (t.engine e).sat = g.sat ∧ (t.engine e).dmem = g.dmem
        ∧ (t.engine e).cycleh = if n = 0x08 then BitVec.ofNat 32 (g.cyc8 / 8 / 2 ^ 32) else g.cycleh

/-- R306, R321: CSRW of the writable CSRs; unassigned numbers and the read-only ones (ID, CAUSE, CYCLE, CYCLEH, DBVAL) ignore
it. WDKICK with 0x5A reloads the watchdog with the stall's period, 100 ms for 0. -/
def Sys2Proof.Claims.GroomCsrWrite : Prop :=
  ∀ (e : Fin 8) (ra : BitVec 4) (imm : BitVec 18) (s : State),
    let w := encI 0x3C 0#4 ra imm
    let v := xOf s e ra
    let n := imm.toNat % 256
    Issues s e w (nextPc s e) → (n = 0x07 → v = 0x5A#32) →
      ∃ t, exec (.csrw e 0#4 ra imm) s = .next t ∧ (∀ r, xOf t e r = xOf s e r) ∧ (t.engine e).pc = nextPc s e
        ∧ (t.engine e).dmem = (s.engine e).dmem ∧ (t.engine e).imem = (s.engine e).imem ∧ t.feed = s.feed
        ∧ (t.engine e).ie = (if n = 0x01 then v.getLsbD 0 else (s.engine e).ie)
        ∧ (t.engine e).sat = ((s.engine e).sat && (decide (n ≠ 0x01) || v.getLsbD 1))
        ∧ (t.engine e).epc = (if n = 0x02 then v else (s.engine e).epc)
        ∧ (t.engine e).evmask = (if n = 0x05 then v.toNat % 65536 else (s.engine e).evmask)
        ∧ (t.engine e).ivec = (if n = 0x06 then v &&& 0xFFFF_FFFC#32 else (s.engine e).ivec)
        ∧ (t.engine e).tcmp = (if n = 0x0A then v else (s.engine e).tcmp)
        ∧ (t.engine e).cause = (s.engine e).cause ∧ (t.engine e).dbval = (s.engine e).dbval
        ∧ (t.engine e).cycleh = (s.engine e).cycleh
        ∧ (∀ i < 16, i ≠ 4 → bit (t.engine e).evpend i
            = (bit (s.engine e).evpend i && !(decide (n = 0x04) && v.getLsbD i)))
        ∧ s.get (F.GROOM_STAT.stall e) = t.get (F.GROOM_STAT.stall e)
        ∧ t.get (F.GROOM_STAT.yerr e) = (if n = 0x01 then s.get (F.GROOM_STAT.yerr e) &&& v.toNat / 4 % 8
            else s.get (F.GROOM_STAT.yerr e))
        ∧ t.get (F.GROOM_WD.left e) =
            if n = 0x07 then (if s.get (F.GROOM_WD.period e) = 0 then 100 else s.get (F.GROOM_WD.period e))
            else s.get (F.GROOM_WD.left e)

/-- CSRR reads and CSRW writes the control and status registers of a groom: `Claims.GroomCsrRead`, `Claims.GroomCsrWrite`. -/
def Obligations.GroomCsrs : Prop :=
  Sys2Proof.Claims.GroomCsrRead ∧ Sys2Proof.Claims.GroomCsrWrite

/-- R318: WAIT completes at once where a masked event is pending and gives the lowest such event, leaving EVPEND; otherwise the
engine stops issuing, its pc on the WAIT itself. -/
def Sys2Proof.Claims.GroomWait : Prop :=
  ∀ (e : Fin 8) (rd ra : BitVec 4) (s : State),
    let m := (xOf s e ra).toNat % 65536
    let hit := (s.engine e).evpend &&& m
    Issues s e (encR 0x39 rd ra 0#4) (nextPc s e) →
      (∀ n < 16, bit hit n = true → (∀ k < n, bit hit k = false) →
        ∃ t, exec (.wait e rd ra 0#4) s = .next t ∧ Wrote s t e rd (BitVec.ofNat 32 n) (nextPc s e) ∧ SameData s t e)
      ∧ (hit = 0 → ∃ t, exec (.wait e rd ra 0#4) s = .next t ∧ t.get (F.GROOM_STAT.state e) = 3
          ∧ (t.engine e).pc = (s.engine e).pc ∧ (∀ r, xOf t e r = xOf s e r) ∧ SameData s t e)

/-- R318: a waiting engine that sees a masked event completes its WAIT, with the lowest such event in the WAIT's register. -/
def Sys2Proof.Claims.GroomWaitWake : Prop :=
  ∀ (e : Fin 8) (s : State), e.val < s.eng.length → s.get (F.GROOM_STAT.state e) = 3 → (nextPc s e).toNat < 0x8000 →
    let hit := (s.engine e).evpend &&& (s.engine e).waitMask
    ∀ n < 16, bit hit n = true → (∀ k < n, bit hit k = false) →
      ∃ t, exec (.waitWake e) s = .next t ∧ t.get (F.GROOM_STAT.state e) = 2 ∧ (t.engine e).pc = nextPc s e
        ∧ (∀ r : BitVec 4, xOf t e r = if r = BitVec.ofNat 4 (s.engine e).waitRd ∧ r ≠ 0#4 then BitVec.ofNat 32 n else xOf s e r)
        ∧ (t.engine e).evpend = (s.engine e).evpend ∧ (t.engine e).dmem = (s.engine e).dmem

/-- R317, R318: taking an interrupt saves the address of the next instruction (a WAIT's own address during a WAIT) in EPC and
the lowest event in CAUSE, disables interrupts and goes on at IVEC; registers and EVPEND keep their values. With interrupts
disabled or nothing pending none is taken, so interrupts do not nest; IRET clears no EVPEND bit. -/
def Sys2Proof.Claims.GroomInterrupt : Prop :=
  ∀ (e : Fin 8) (s : State), e.val < s.eng.length →
    let due := (s.engine e).evpend &&& (s.engine e).evmask
    (∀ n < 16, (s.get (F.GROOM_STAT.state e) = 2 ∨ s.get (F.GROOM_STAT.state e) = 3) → (s.engine e).ie = true →
      (s.engine e).ivec.toNat < 0x8000 → bit due n = true → (∀ k < n, bit due k = false) →
      ∃ t, exec (.interruptTaken e) s = .next t ∧ (t.engine e).epc = (s.engine e).pc ∧ (t.engine e).cause = n
        ∧ (t.engine e).ie = false ∧ (t.engine e).pc = (s.engine e).ivec ∧ t.get (F.GROOM_STAT.state e) = 2
        ∧ (∀ r, xOf t e r = xOf s e r) ∧ (t.engine e).evpend = (s.engine e).evpend
        ∧ ∀ n : Nat, n ≠ e.val → t.engine n = s.engine n)
    ∧ ((s.engine e).ie = false ∨ due = 0 → exec (.interruptTaken e) s = .next s)
    ∧ (Issues s e (encR 0x3A 0#4 0#4 0#4) (s.engine e).epc →
      ∃ t, exec (.iret e) s = .next t ∧ ∀ i < 16, bit (s.engine e).evpend i = true → bit (t.engine e).evpend i = true)

/-- WAIT completes with the lowest masked event, and an interrupt saves its return address and cause: `Claims.GroomWait`, `Claims.GroomWaitWake`, `Claims.GroomInterrupt`. -/
def Obligations.GroomWaits : Prop :=
  Sys2Proof.Claims.GroomWait ∧ Sys2Proof.Claims.GroomWaitWake ∧ Sys2Proof.Claims.GroomInterrupt

/-- R316, R319: an edge sets its EVPEND bit and no other; a doorbell sets DBVAL and line 3; the timer compare moves CYCLE to TCMP
and sets line 4. -/
def Sys2Proof.Claims.GroomEvents : Prop :=
  ∀ (e : Fin 8) (s : State), e.val < s.eng.length → domOn s 2 = true →
    (∀ line : Fin 16, ∃ t, exec (.eventEdge e line) s = .next t
      ∧ (∀ i, bit (t.engine e).evpend i = (decide (i = line.val) || bit (s.engine e).evpend i)) ∧ { t with eng := s.eng } = s)
    ∧ (∀ v : Word, ∃ t, exec (.groomDoorbell e v) s = .next t ∧ (t.engine e).dbval = v ∧ bit (t.engine e).evpend 3 = true
      ∧ (∀ r, xOf t e r = xOf s e r) ∧ { t with eng := s.eng } = s)
    ∧ (s.get (F.GROOM_STAT.stall e) ≠ 15 → s.get (F.GROOM_STAT.state e) ≠ 1 →
      ∃ t, exec (.timerCompare e) s = .next t ∧ (t.engine e).cyc8 / 8 % 2 ^ 32 = (s.engine e).tcmp.toNat
        ∧ (s.engine e).cyc8 < (t.engine e).cyc8 ∧ bit (t.engine e).evpend 4 = true ∧ { t with eng := s.eng } = s)

/-- R323, R324: an engine whose stall has no restart policy stops at a fault with the code, its pc and the address recorded;
its registers and memories keep their values (R314) and the fault is reported and counted (R447). Stated of ILLEGAL words
and of the watchdog. -/
def Sys2Proof.Claims.GroomFaultRecord : Prop :=
  ∀ (e : Fin 8) (s : State), (∀ d ∈ s.yard.stalls, d.index = s.get (F.GROOM_STAT.stall e) → d.policy = 0) →
    let stopped := fun (c : Instr) (code : Nat) =>
      ∃ t, exec c s = .next t ∧ t.get (F.GROOM_STAT.state e) = 5 ∧ t.get (F.GROOM_STAT.fault e) = code
        ∧ t.get (F.GROOM_FPC.fpc e) = (s.engine e).pc.toNat ∧ t.get (F.GROOM_FADDR.faddr e) = 0
        ∧ t.get F.HLTH_EVT.groom = 1 ∧ t.get (F.GROOM_CNT.faults e) = min 0xFFFF (s.get (F.GROOM_CNT.faults e) + 1)
        ∧ t.eng = s.eng ∧ t.feed = s.feed
    (issues s e (fetchWord s e) = true → notInstr (fetchWord s e) = true → stopped (.illegalOpcode e) 1)
    ∧ (domOn s 2 = true → s.get (F.GROOM_STAT.state e) = 2 ∨ s.get (F.GROOM_STAT.state e) = 3 → stopped (.watchdogExpiry e) 6)

/-- R313, R321, R323: the forms that trap: a shift immediate of 32 or more, a field that must be x0, a CSRW to WDKICK with
another value, each with its code; no register changes. -/
def Sys2Proof.Claims.GroomIllegalForms : Prop :=
  ∀ (e : Fin 8) (rd ra rb : BitVec 4) (imm : BitVec 18) (s : State),
    (∀ d ∈ s.yard.stalls, d.index = s.get (F.GROOM_STAT.stall e) → d.policy = 0) →
    let traps := fun (c : Instr) (w : Word) (code : Nat) => issues s e w = true →
      ∃ t, exec c s = .next t ∧ t.get (F.GROOM_STAT.state e) = 5 ∧ t.get (F.GROOM_STAT.fault e) = code
        ∧ t.get (F.GROOM_FPC.fpc e) = (s.engine e).pc.toNat ∧ t.get (F.GROOM_FADDR.faddr e) = 0 ∧ t.eng = s.eng
    (32 ≤ imm.toNat → traps (.shli e rd ra imm) (encI 0x1C rd ra imm) 1 ∧ traps (.shri e rd ra imm) (encI 0x1D rd ra imm) 1
      ∧ traps (.srai e rd ra imm) (encI 0x1E rd ra imm) 1)
    ∧ (rb ≠ 0#4 → traps (.clz e rd ra rb) (encR 0x0F rd ra rb) 1 ∧ traps (.qsqrt e rd ra rb) (encR 0x12 rd ra rb) 1
      ∧ traps (.jr e rd ra rb) (encR 0x38 rd ra rb) 1 ∧ traps (.wait e rd ra rb) (encR 0x39 rd ra rb) 1
      ∧ traps (.csrr e rd rb imm) (encI 0x3B rd rb imm) 1 ∧ traps (.csrw e rb ra imm) (encI 0x3C rb ra imm) 1)
    ∧ (imm.toNat % 256 = 0x07 → xOf s e ra ≠ 0x5A#32 → traps (.csrw e 0#4 ra imm) (encI 0x3C 0#4 ra imm) 7)

/-- R308, R309, R311, R314: an access to no place, misaligned, or reading a double-bit error faults with its code and address
and changes neither registers nor memory. -/
def Sys2Proof.Claims.GroomAccessFaults : Prop :=
  ∀ (e : Fin 8) (rd ra : BitVec 4) (imm : BitVec 18) (ecc : Ecc) (s : State),
    (∀ d ∈ s.yard.stalls, d.index = s.get (F.GROOM_STAT.stall e) → d.policy = 0) →
    let a := effAddr s e ra imm
    ∀ q ∈ ([(.ldw e rd ra imm ecc, 0x24, 4, false, false), (.ldh e rd ra imm ecc, 0x25, 2, false, false),
        (.ldhu e rd ra imm ecc, 0x26, 2, false, false), (.ldb e rd ra imm ecc, 0x27, 1, false, false),
        (.ldbu e rd ra imm ecc, 0x28, 1, false, false), (.stw e rd ra imm, 0x29, 4, true, false),
        (.sth e rd ra imm, 0x2A, 2, true, false), (.stb e rd ra imm, 0x2B, 1, true, false),
        (.swapw e rd ra imm ecc, 0x2C, 4, true, true), (.addw e rd ra imm ecc, 0x2D, 4, true, true)] :
        List (Instr × Nat × Nat × Bool × Bool)),
      ∀ code, placeOf s e a.toNat q.2.2.1 q.2.2.2.1 q.2.2.2.2 = .bad code → issues s e (encI q.2.1 rd ra imm) = true →
        ∃ t, exec q.1 s = .next t ∧ t.get (F.GROOM_STAT.state e) = 5 ∧ t.get (F.GROOM_STAT.fault e) = code
          ∧ t.get (F.GROOM_FPC.fpc e) = (s.engine e).pc.toNat ∧ t.get (F.GROOM_FADDR.faddr e) = a.toNat
          ∧ t.eng = s.eng ∧ t.feed = s.feed

/-- A faulting groom stops with its code, pc and address recorded and its registers and memories kept: `Claims.GroomFaultRecord`, `Claims.GroomIllegalForms`, `Claims.GroomAccessFaults`. -/
def Obligations.GroomFaults : Prop :=
  Sys2Proof.Claims.GroomFaultRecord ∧ Sys2Proof.Claims.GroomIllegalForms ∧ Sys2Proof.Claims.GroomAccessFaults

/-- R330: with the debug strap, MAKER or SHOP and a valid tag, HALT stops a running or waiting engine at the boundary, RESUME lets
a halted one go on, and STEP runs the instruction at its pc, or takes one interrupt, and halts it again; none of them touches
the engine's registers otherwise. -/
def Sys2Proof.Claims.GroomDebugAccess : Prop :=
  ∀ (e : Fin 8) (s : State), domOn s 2 = true → s.flag F.RST_STRAP.dbg = true →
    (s.get F.KEYS_LC.state = 1 ∨ s.get F.KEYS_LC.state = 3) →
    let st := s.get (F.GROOM_STAT.state e)
    (st = 2 ∨ st = 3 → ∃ t, exec (.halt e true) s = .next t ∧ t.get (F.GROOM_STAT.state e) = 4 ∧ { t with regs := s.regs } = s)
    ∧ (st = 4 → (s.engine e).pc.toNat < 0x8000 →
      ∃ t, exec (.resume e true) s = .next t ∧ t.get (F.GROOM_STAT.state e) = 2 ∧ { t with regs := s.regs } = s)
    ∧ (st = 4 → (s.engine e).pc.toNat < 0x8000 → irqMask (s.engine e) = 0 →
      ∃ t, exec (.step e true) s = .next t ∧
        let u := runWord (setEngState s e gRun) e (fetchWord s e) .clean
        { t with regs := u.regs } = u
        ∧ (u.get (F.GROOM_STAT.state e) = 2 ∨ u.get (F.GROOM_STAT.state e) = 3 → t.get (F.GROOM_STAT.state e) = 4)
        ∧ (u.get (F.GROOM_STAT.state e) = 5 → t = u))
    ∧ (st = 4 → e.val < s.eng.length → (s.engine e).ivec.toNat < 0x8000 → (s.engine e).pc.toNat < 0x8000 →
      irqMask (s.engine e) ≠ 0 →
      ∃ t, exec (.step e true) s = .next t ∧ (t.engine e).epc = (s.engine e).pc ∧ (t.engine e).pc = (s.engine e).ivec
        ∧ (t.engine e).ie = false ∧ t.get (F.GROOM_STAT.state e) = 4)

/-- R330: without debug access, HALT, RESUME and STEP are ignored and set wr_refused, and nothing else changes; GROOM_MDATA
reads 0. -/
def Sys2Proof.Claims.GroomDebugRefused : Prop :=
  ∀ (e : Fin 8) (tagged : Bool) (s : State), domOn s 2 = true →
    (tagged = false ∨ s.flag F.RST_STRAP.dbg = false ∨ (s.get F.KEYS_LC.state ≠ 1 ∧ s.get F.KEYS_LC.state ≠ 3)) →
    mdataWord s e tagged = 0#32 ∧
    ∀ c ∈ ([.halt e tagged, .resume e tagged, .step e tagged] : List Instr),
      ∃ t, exec c s = .next t ∧ t.get (F.GROOM_STAT.wr_refused e) = 1 ∧ { t with regs := s.regs } = s
        ∧ ∀ f : Fld, f.apart (F.GROOM_STAT.wr_refused e) = true → t.get f = s.get f

/-- HALT, RESUME and STEP act only with debug access and are refused without it: `Claims.GroomDebugAccess`, `Claims.GroomDebugRefused`. -/
def Obligations.GroomDebug : Prop :=
  Sys2Proof.Claims.GroomDebugAccess ∧ Sys2Proof.Claims.GroomDebugRefused

/-- R328, R330: RELOAD and MOVE with a valid tag leave a request pending, the later one in place of an earlier; a move whose
target is not IDLE or is the source is refused with wr_refused. GROOM_MDATA writes the word at GROOM_MADDR of a halted engine
open to debug, and each access moves addr on by 4, wrapping within the space. -/
def Sys2Proof.Claims.GroomHostRequests : Prop :=
  ∀ (e target : Fin 8) (s : State), domOn s 2 = true →
    (s.get (F.GROOM_STAT.stall e) ≠ 15 → ∃ t, exec (.reload e true) s = .next t
      ∧ t.get (F.GROOM_STAT.reload_pend e) = 1 ∧ t.get (F.GROOM_STAT.move_pend e) = 0 ∧ t.eng = s.eng)
    ∧ (s.get (F.GROOM_STAT.stall e) ≠ 15 → target ≠ e → s.get (F.GROOM_STAT.state target) = 0 →
      ∃ t, exec (.move e target true) s = .next t ∧ t.get (F.GROOM_STAT.move_pend e) = 1
        ∧ t.get (F.GROOM_STAT.reload_pend e) = 0 ∧ t.get (F.GROOM_CTRL.target e) = target.val
        ∧ (e.val, some target.val) ∈ t.yard.moves ∧ t.eng = s.eng)
    ∧ (target = e ∨ s.get (F.GROOM_STAT.state target) ≠ 0 →
      ∃ t, exec (.move e target true) s = .next t ∧ t.get (F.GROOM_STAT.wr_refused e) = 1 ∧ t.yard = s.yard)
    ∧ (∃ t, exec (.groomMdataAccess e none true) s = .next t ∧ t.eng = s.eng
        ∧ t.get (F.GROOM_MADDR.addr e) % (if s.flag (F.GROOM_MADDR.space e) then 0x2000 else 0x8000)
          = (s.get (F.GROOM_MADDR.addr e) / 4 * 4 + 4) % (if s.flag (F.GROOM_MADDR.space e) then 0x2000 else 0x8000))
    ∧ (∀ w : Word, e.val < s.eng.length → s.flag F.RST_STRAP.dbg = true → s.get F.KEYS_LC.state = 1 →
      s.get (F.GROOM_STAT.state e) = 4 → s.get (F.GROOM_MADDR.space e) = 1 →
      ∃ t, exec (.groomMdataAccess e (some w) true) s = .next t
        ∧ Mem.word (t.engine e).dmem (s.get (F.GROOM_MADDR.addr e) / 4 * 4 % 0x2000) = w
        ∧ (∀ b, b < s.get (F.GROOM_MADDR.addr e) / 4 * 4 % 0x2000 ∨ s.get (F.GROOM_MADDR.addr e) / 4 * 4 % 0x2000 + 4 ≤ b →
            Store.get (t.engine e).dmem b = Store.get (s.engine e).dmem b))

/-- Event edges, doorbells, the timer, and the host requests RELOAD, MOVE and GROOM_MDATA act on a groom: `Claims.GroomEvents`, `Claims.GroomHostRequests`. -/
def Obligations.GroomRequests : Prop :=
  Sys2Proof.Claims.GroomEvents ∧ Sys2Proof.Claims.GroomHostRequests

/-! Register access (00, 01, 16). -/

/-- R5: a write sets an RW field (SYS_SCRATCH), clears the bits written as 1 of a W1C register (RST_CAUSE), leaves an RO register
alone (PWR_MGR_STAT), sets an RWL field before the lock and leaves it alone after (PWR_DOM_HOLD), for a host with and without a tag;
the write of a field that hardware changes in the same cycle, as the bits `hw` say, is discarded. -/
def Sys2Proof.Claims.RegisterFieldTypes : Prop :=
  ∀ (tagged : Bool) (v hw : Word) (s : State),
    (domOn s 2 = true → ∃ t, exec (.registerWrite (.host tagged) 0x00_0008#24 ⟨v, hw⟩) s = .next t
      ∧ t.word 0x00_0008 = (if hw = 0#32 then v else s.word 0x00_0008)
      ∧ (∀ a, a ≠ 0x00_0008 → t.word a = s.word a) ∧ { t with regs := s.regs } = s)
    ∧ (∃ t, exec (.registerWrite (.host tagged) 0x01_0000#24 ⟨v, hw⟩) s = .next t
      ∧ (∀ i, i < 13 → (t.word 0x01_0000).getLsbD i = ((s.word 0x01_0000).getLsbD i && (!v.getLsbD i || hw.getLsbD i)))
      ∧ (∀ a, a ≠ 0x01_0000 → t.word a = s.word a) ∧ { t with regs := s.regs } = s)
    ∧ (domOn s 2 = true → ∃ t, exec (.registerWrite (.host tagged) 0x02_0008#24 ⟨v, hw⟩) s = .next t
      ∧ (∀ a, t.word a = s.word a) ∧ { t with regs := s.regs } = s)
    ∧ (domOn s 2 = true → ∃ t, exec (.registerWrite (.host tagged) 0x02_0004#24 ⟨v, hw⟩) s = .next t
      ∧ t.get F.PWR_DOM_HOLD.hold = (if s.get F.YARD_PSTAT.locked = 1 ∨ hw.toNat % 65536 ≠ 0 then s.get F.PWR_DOM_HOLD.hold
          else v.toNat % 65536)
      ∧ (∀ a, a ≠ 0x02_0004 → t.word a = s.word a) ∧ { t with regs := s.regs } = s)

/-- R5, R30: a host write changes nothing where its block's power domain is off, where its address is misaligned or outside the
map, and in a PRIV field without a valid tag (RST_CTRL, RST_BLOCK, KEYS_LCCMD, HLTH_TMP_LATCH). -/
def Sys2Proof.Claims.RegisterWriteRefused : Prop :=
  ∀ (tagged : Bool) (a : BitVec 24) (v hw : Word) (s : State),
    (domOn s (addrDomain a.toNat) = false → exec (.registerWrite (.host tagged) a ⟨v, hw⟩) s = .next s)
    ∧ (a.toNat % 4 ≠ 0 ∨ addrMapped a.toNat = false → exec (.registerWrite (.host tagged) a ⟨v, hw⟩) s = .next s)
    ∧ (a.toNat ∈ [0x01_000C, 0x01_0008, 0x0D_0004, 0x13_0044] → exec (.registerWrite (.host false) a ⟨v, hw⟩) s = .next s)

/-- R282, R310, R341: an engine's write outside its stall's routed windows and its own services changes nothing, as a register write
or as a Loft or solver command of its own; its own service registers are open to it without a route. -/
def Sys2Proof.Claims.EngineWriteRoutes : Prop :=
  ∀ (e : Fin 8) (a : BitVec 24) (v hw : Word) (s : State),
    (yardAllowed s e a.toNat true = false → exec (.registerWrite (.engine e) a ⟨v, hw⟩) s = .next s)
    ∧ (∀ off : BitVec 19, yardAllowed s e (0x40_0000 + off.toNat) true = false →
        exec (.loftWindowWrite (.engine e) off v) s = .next s)
    ∧ (yardAllowed s e F.LOFT_CTRL.store.addr true = false →
        exec (.commit (.engine e)) s = .next s ∧ exec (.loftStore (.engine e)) s = .next s
          ∧ ∀ atStart, exec (.gabort (.engine e) atStart) s = .next s)
    ∧ (yardAllowed s e F.SOLV_MDATA.data.addr true = false → exec (.solvMdataAccess (.engine e) (some v)) s = .next s)
    ∧ (∀ n : Fin 8, ∀ off < 64, n ≠ e → yardAllowed s e (0x0C_0100 + 64 * n + off) true = false
        ∧ yardAllowed s e (0x0D_0400 + 64 * n + off) true = false)
    ∧ ∀ off < 64, yardAllowed s e (0x0C_0100 + 64 * e + off) true = true ∧ yardAllowed s e (0x0D_0400 + 64 * e + off) true = true

/-- A register write acts by the field types, and is refused without power, place, tag or route: `Claims.RegisterFieldTypes`, `Claims.RegisterWriteRefused`, `Claims.EngineWriteRoutes`. -/
def Obligations.RegisterAccess : Prop :=
  Sys2Proof.Claims.RegisterFieldTypes ∧ Sys2Proof.Claims.RegisterWriteRefused ∧ Sys2Proof.Claims.EngineWriteRoutes

/-! Tally counters (15). -/

/-- R362, R370, R372: on an edge that a chain takes (R357, R360, R365), it counts as one number of 16 bits a segment, wrapping;
no other counter moves; the match bit of the base is set when the count becomes the compare value and is left alone
otherwise. A chain that is disabled, frozen, without a clock or without a waiting event holds its count. -/
def Sys2Proof.Claims.TallyEdgeCounts : Prop :=
  ∀ (b : Fin 16) (s : State),
    (tallyCounts s b = true → ∃ t, exec (.tallyEdge b) s = .next t
      ∧ tallyCount t b = (tallyCount s b + 1) % 65536 ^ (tallySegs s b).length
      ∧ (∀ n : Nat, n < 16 → n ∉ tallySegs s b → t.get (F.TALLY_CNT.count n) = s.get (F.TALLY_CNT.count n))
      ∧ t.bitAt F.TALLY_EVT.match_ b = (s.bitAt F.TALLY_EVT.match_ b || decide (tallyCount t b = tallyCompare s b)))
    ∧ (tallyCounts s b = true → tallyNext s b = tallyCompare s b → ∃ t, exec (.tallyMatch b) s = .next t
      ∧ tallyCount t b = tallyCompare s b ∧ t.bitAt F.TALLY_EVT.match_ b = true)
    ∧ (tallyCounts s b = false → exec (.tallyEdge b) s = .next s)

/-- R365: TALLY_FREEZE takes the mask written; on the edge on which it applies, a chain is frozen while the freeze bit of any of
its segments is 1, and released otherwise; counts are untouched, and a frozen chain does not count. -/
def Sys2Proof.Claims.TallyFreeze : Prop :=
  ∀ (n : Fin 16) (mask : BitVec 16) (s : State),
    (∃ t, exec (.tallyFreezeWrite mask) s = .next t ∧ t.get F.TALLY_FREEZE.freeze = mask.toNat
      ∧ (∀ f : Fld, f.apart F.TALLY_FREEZE.freeze = true → t.get f = s.get f) ∧ { t with regs := s.regs } = s)
    ∧ (tallyClkRuns s (tallyBase s n) = true → ∃ t, exec (.tallyFreezeApply n) s = .next t
      ∧ t.bitAt F.TALLY_STAT.frozen (tallyBase s n)
        = (tallySegs s (tallyBase s n)).any (fun m => s.bitAt F.TALLY_FREEZE.freeze m)
      ∧ (∀ m < 16, t.get (F.TALLY_CNT.count m) = s.get (F.TALLY_CNT.count m)) ∧ { t with regs := s.regs } = s)
    ∧ (s.bitAt F.TALLY_STAT.frozen n = true → exec (.tallyEdge n) s = .next s)

/-- R364, R366: a read of a running chain sets chainrd and returns 0, any other read changes nothing and returns the count; a
count accepts a write only while its counter is stopped, and refuses it with wr_refused otherwise. -/
def Sys2Proof.Claims.TallyCountAccess : Prop :=
  ∀ (n : Fin 16) (v : BitVec 16) (s : State),
    (inChain s n = true → tallyStopped s n = false →
      tallyCntValue s n = 0 ∧ ∃ t, exec (.tallyCntRead n) s = .next t ∧ t.get F.TALLY_STAT.chainrd = 1
        ∧ ∀ m < 16, t.get (F.TALLY_CNT.count m) = s.get (F.TALLY_CNT.count m))
    ∧ (inChain s n = false ∨ tallyStopped s n = true →
      tallyCntValue s n = s.get (F.TALLY_CNT.count n) ∧ exec (.tallyCntRead n) s = .next s)
    ∧ (tallyStopped s n = true → ∃ t, exec (.tallyCntWrite n v) s = .next t ∧ t.get (F.TALLY_CNT.count n) = v.toNat
      ∧ ∀ f : Fld, f.apart (F.TALLY_CNT.count n) = true → t.get f = s.get f)
    ∧ (tallyStopped s n = false → ∃ t, exec (.tallyCntWrite n v) s = .next t ∧ t.get F.TALLY_STAT.wr_refused = 1
      ∧ ∀ f : Fld, f.apart F.TALLY_STAT.wr_refused = true → t.get f = s.get f)

/-- Tally chains count their edges, freeze as one, and guard reads and writes of their counts: `Claims.TallyEdgeCounts`, `Claims.TallyFreeze`, `Claims.TallyCountAccess`. -/
def Obligations.TallyCounting : Prop :=
  Sys2Proof.Claims.TallyEdgeCounts ∧ Sys2Proof.Claims.TallyFreeze ∧ Sys2Proof.Claims.TallyCountAccess

/-- R360, R367 to R369: SWCAP queues a capture at each base or single counter named, four deep, then drops it and sets lost; a
capture copies every segment's count and sets the base's capt bit; a read of a base returns the capture and fills the hold
copies; one that coincides with a capture returns the previous capture with capt_pend. -/
def Sys2Proof.Claims.TallyCaptures : Prop :=
  ∀ (n : Fin 16) (s : State), s.tally.length = 16 →
    let q := fun (t : State) => (t.tally.getD n {}).capq
    (tallyHigher s n = false → q s < 4 → ∃ t, exec (.tallySwcap (BitVec.ofNat 16 (2 ^ n.val))) s = .next t
      ∧ q t = q s + 1 ∧ t.regs = s.regs)
    ∧ (tallyHigher s n = false → 4 ≤ q s → ∃ t, exec (.tallySwcap (BitVec.ofNat 16 (2 ^ n.val))) s = .next t
      ∧ t.bitAt F.TALLY_LOST.lost n = true ∧ t.tally = s.tally)
    ∧ (captureDue s n = true → ∃ t, exec (.tallyCapture n) s = .next t ∧ t.bitAt F.TALLY_EVT.capt n = true
      ∧ q t + 1 = q s ∧ (t.tally.getD n {}).unread = true
      ∧ ((s.tally.getD n {}).unread = true → t.get (F.TALLY_CAP.capt_ovr n) = 1)
      ∧ (∀ m ∈ tallySegs s n, (t.tally.getD m {}).live = s.get (F.TALLY_CNT.count m))
      ∧ ∀ m < 16, t.get (F.TALLY_CNT.count m) = s.get (F.TALLY_CNT.count m))
    ∧ (tallyHigher s n = false → ∀ coincide, ∃ t, exec (.tallyCapRead n coincide) s = .next t
      ∧ (∀ m ∈ tallySegs s n, t.get (F.TALLY_CAP.cap m) = (s.tally.getD m {}).live % 65536)
      ∧ t.get (F.TALLY_CAP.capt_pend n) = b2n (coincide && captureDue s n))

/-- R371: a compare write is buffered with cmp_pend; on the edge on which it applies, a base's write brings every segment's value
into force and clears cmp_pend; the count is untouched. -/
def Sys2Proof.Claims.TallyCompareWrite : Prop :=
  ∀ (n : Fin 16) (v : BitVec 16) (s : State), s.tally.length = 16 →
    (∃ t, exec (.tallyCmpWrite n v) s = .next t ∧ t.get (F.TALLY_CMP.cmp n) = v.toNat ∧ t.get (F.TALLY_CMP.cmp_pend n) = 1
      ∧ t.tally = s.tally)
    ∧ (tallyHigher s n = false → s.get (F.TALLY_CMP.cmp_pend n) = 1 → tallyClkRuns s n = true →
      ∃ t, exec (.tallyCmpApply n) s = .next t
        ∧ (∀ m ∈ tallySegs s n, (t.tally.getD m {}).cmp = s.get (F.TALLY_CMP.cmp m) ∧ t.get (F.TALLY_CMP.cmp_pend m) = 0)
        ∧ ∀ m < 16, t.get (F.TALLY_CNT.count m) = s.get (F.TALLY_CNT.count m))

/-- Tally captures copy every segment, queue four deep, and compare writes apply together: `Claims.TallyCaptures`, `Claims.TallyCompareWrite`. -/
def Obligations.TallyCapturesAndCompares : Prop :=
  Sys2Proof.Claims.TallyCaptures ∧ Sys2Proof.Claims.TallyCompareWrite

/-! Noise source and expander (11). -/

/-- R269, R270, R275: raw bits of which one fails a test are discarded with their window; the failure is recorded and counted, the
eighth in a row raises the alarm and the health event; DRBG, queue and seed stay valid. A run of equal bits as long as the
repetition cutoff fails a fresh repetition test. 1 024 bits that pass both tests end the start-up test. -/
def Sys2Proof.Claims.RngHealthTests : Prop :=
  ∀ (raw : List Bool) (start : BitVec 1024) (s : State), domOn s 3 = true → s.rng.osc = true →
    let failed := fun (l : List Bool) (t : State) =>
      t.get F.RNG_STAT.rct_fail = (if (rngTest s l).2.1 then 1 else s.get F.RNG_STAT.rct_fail)
      ∧ t.get F.RNG_STAT.apt_fail = (if (rngTest s l).2.2 then 1 else s.get F.RNG_STAT.apt_fail)
      ∧ t.get F.RNG_CNT.failures = min (2 ^ F.RNG_CNT.failures.len - 1) (s.get F.RNG_CNT.failures + 1)
      ∧ t.get F.RNG_STAT.run = min (2 ^ F.RNG_STAT.run.len - 1) (s.get F.RNG_STAT.run + 1)
      ∧ (s.get F.RNG_STAT.run = 7 → t.get F.RNG_STAT.alarm = 1 ∧ t.get F.HLTH_EVT.rng = 1)
      ∧ t.rng = { s.rng with ht := {} }
    let passes := fun (l : List Bool) => (rngTest s l).2.1 = false ∧ (rngTest s l).2.2 = false
    (¬ passes raw → ∃ t, exec (.healthTestFail raw) s = .next t ∧ failed raw t)
    ∧ (passes raw → exec (.healthTestFail raw) s = .next s)
    ∧ (∀ (b : Bool) (n : Nat), s.rng.ht = {} → n = s.get F.RNG_HT.rct_cut → 1 ≤ n → n ≤ s.get F.RNG_HT.apt_cut → n ≤ 1024 →
      ∃ t, exec (.healthTestFail (List.replicate n b)) s = .next t ∧ t.get F.RNG_STAT.rct_fail = 1)
    ∧ (s.rng.tested = false → passes (rawBits 1024 start.toNat) → ∃ t, exec (.startupTestPass start) s = .next t
      ∧ t.rng = { s.rng with tested := true, ht := (rngTest s (rawBits 1024 start.toNat)).1 } ∧ t.regs = s.regs)
    ∧ (s.rng.tested = false → ¬ passes (rawBits 1024 start.toNat) → ∃ t, exec (.startupTestPass start) s = .next t
      ∧ failed (rawBits 1024 start.toNat) t ∧ t.rng.tested = false)

/-- R269, R271 to R274, R276: a tested seed that an Instantiate waits for is taken at once: seeded is set, the reseed counter reads
0, the failure run is cleared and the oscillators go on; one that a due Reseed waits for likewise counts a reseed; any other fills
the buffer and stops the oscillators. A mismatch there uses the seed up, a failing raw bit discards it. (No request waits here.) -/
def Sys2Proof.Claims.RngSeeding : Prop :=
  ∀ (raw : BitVec 1152) (s : State), domOn s 3 = true → s.rng.osc = true → s.rng.tested = true → s.rng.seed = none →
    s.rng.held = [] →
    let r := rngTest s (rawBits 1152 raw.toNat)
    let passes : Prop := r.2.1 = false ∧ r.2.2 = false
    (passes → s.rng.inst = false → ∃ t, exec (.seedComplete ⟨raw, false⟩) s = .next t ∧ t.get F.RNG_STAT.seeded = 1
      ∧ t.get F.RNG_RSCNT.count = 0 ∧ t.get F.RNG_STAT.run = 0 ∧ t.rng.inst = true ∧ t.rng.seed = none ∧ t.rng.osc = true
      ∧ t.rng.drbg = drbgInstantiate (conditionSeed s raw.toNat) (rngPers s))
    ∧ (passes → s.rng.inst = true → 2 ^ 10 ≤ s.get F.RNG_RSCNT.count → ∃ t, exec (.seedComplete ⟨raw, false⟩) s = .next t
      ∧ t.get F.RNG_RSCNT.count = 0 ∧ t.rng.seed = none ∧ t.rng.osc = true
      ∧ t.get F.RNG_STRETCH.max_int = max (s.get F.RNG_STRETCH.max_int) (s.get F.RNG_RSCNT.count) % 2 ^ F.RNG_STRETCH.max_int.len
      ∧ t.rng.drbg = drbgReseed s.rng.drbg (conditionSeed s raw.toNat))
    ∧ (∀ mismatch, passes → s.rng.inst = true → s.rng.forced = false → s.get F.RNG_RSCNT.count < 2 ^ 10 →
      ∃ t, exec (.seedComplete ⟨raw, mismatch⟩) s = .next t ∧ t.rng.seed = some (conditionSeed s raw.toNat) ∧ t.rng.osc = false
        ∧ t.get F.RNG_STAT.seed_ready = 1 ∧ t.rng.drbg = s.rng.drbg ∧ t.rng.queue = s.rng.queue)
    ∧ (passes → s.rng.inst = false → ∃ t, exec (.seedComplete ⟨raw, true⟩) s = .next t ∧ t.get F.RNG_STAT.mismatch = 1
      ∧ t.get F.RNG_CNT.failures = min (2 ^ F.RNG_CNT.failures.len - 1) (s.get F.RNG_CNT.failures + 1)
      ∧ t.rng.inst = false ∧ t.rng.drbg = {} ∧ t.rng.seed = none ∧ t.rng.osc = true)
    ∧ (∀ mismatch, ¬ passes → ∃ t, exec (.seedComplete ⟨raw, mismatch⟩) s = .next t ∧ t.rng = { s.rng with ht := {} }
      ∧ t.get F.RNG_CNT.failures = min (2 ^ F.RNG_CNT.failures.len - 1) (s.get F.RNG_CNT.failures + 1))

/-- Health tests are counted and raise the alarm; a complete seed instantiates, reseeds or waits: `Claims.RngHealthTests`, `Claims.RngSeeding`. -/
def Obligations.NoiseSource : Prop :=
  Sys2Proof.Claims.RngHealthTests ∧ Sys2Proof.Claims.RngSeeding

/-- R272, R273, R277, R278, R280: a queued port takes the oldest entry; a wire request generates, moving the reseed counter on by
one; a request that cannot be served is held; a mismatch zeroes the DRBG and the request waits for the new Instantiate, which a
buffered seed gives at once; a refill adds one entry; a consumed port that cannot be refilled reads invalid; a read of word 3
while valid is 0 consumes nothing. -/
def Sys2Proof.Claims.RngRequests : Prop :=
  ∀ (s : State), domOn s 3 = true →
    let wire := s.flag F.RNG_CFG.rt_uwb = false ∧ s.rng.forced = false ∧ s.get F.RNG_RSCNT.count < 2 ^ 10
    (∀ b q, s.flag F.RNG_HPORT_W0.valid = false → s.flag F.RNG_CFG.rt_swp = true → s.flag F.RNG_CTRL.en = true →
      s.rng.forced = false → heldCount s .hostPort = 0 → s.rng.queue = b :: q →
      ∃ t, exec (.rngRequest .hostPort false) s = .next t
        ∧ t.rng.queue = q ∧ t.get F.RNG_HPORT_W0.valid = 1 ∧ (∀ w < 4, t.get (F.RNG_HPORT_W4.data w) = portWord b w)
        ∧ t.get F.RNG_HPORT_W0.seq = (s.get F.RNG_HPORT_W0.seq + 1) % 2 ^ F.RNG_HPORT_W0.seq.len
        ∧ t.get F.RNG_RSCNT.count = s.get F.RNG_RSCNT.count)
    ∧ (rngLive s = true → wire → heldCount s .uwbCheck = 0 →
      ∃ t, exec (.rngRequest .uwbCheck false) s = .next t ∧ t.get F.RNG_RSCNT.count = s.get F.RNG_RSCNT.count + 1
        ∧ t.rng.testKey = (drbgGenerate s.rng.drbg).1 ∧ t.rng.drbg = (drbgGenerate s.rng.drbg).2 ∧ t.rng.queue = s.rng.queue)
    ∧ (∀ mismatch, rngLive s = false → s.flag F.RNG_CFG.rt_uwb = false → heldCount s .uwbCheck = 0 →
      ∃ t, exec (.rngRequest .uwbCheck mismatch) s = .next t ∧ heldCount t .uwbCheck = 1 ∧ t.regs = s.regs)
    ∧ (rngLive s = true → wire → s.rng.held = [] → ∃ t, exec (.rngRequest .uwbCheck true) s = .next t
        ∧ t.get F.RNG_STAT.mismatch = 1 ∧ t.rng.queue = s.rng.queue
        ∧ (s.rng.seed = none → t.rng.inst = false ∧ t.rng.drbg = {} ∧ heldCount t .uwbCheck = 1)
        ∧ ∀ k, s.rng.seed = some k → t.rng.inst = true ∧ t.rng.seed = none ∧ t.rng.held = []
            ∧ t.rng.testKey = (drbgGenerate (drbgInstantiate k (rngPers s))).1)
    ∧ (rngLive s = true → s.rng.forced = false → s.rng.held = [] → s.rng.queue.length < 64 →
      s.get F.RNG_RSCNT.count < 2 ^ 10 → ∃ t, exec (.queueRefill false) s = .next t
        ∧ t.rng.queue = s.rng.queue ++ [(drbgGenerate s.rng.drbg).1]
        ∧ t.get F.RNG_RSCNT.count = s.get F.RNG_RSCNT.count + 1)
    ∧ (portValid s none = true → s.rng.inst = false → s.flag F.RNG_CFG.rt_swp = false → heldCount s .hostPort = 0 →
      ∃ t, exec (.portConsume none) s = .next t ∧ t.get F.RNG_HPORT_W0.valid = 0 ∧ (∀ w < 4, t.get (F.RNG_HPORT_W4.data w) = 0)
        ∧ heldCount t .hostPort = 1)
    ∧ (∀ port, portValid s port = false → exec (.portConsume port) s = .next s)

/-- R273, R278, R279, R281: a read of RNG_STRETCH clears it; before a plan has applied en reads 1 and is not written; after it en = 0
stops the source and keeps DRBG and queue, and en = 1 starts it while the buffer is empty; a forced reseed empties the queue and
makes the next requests wait for a fresh seed; qflush empties the queue alone. -/
def Sys2Proof.Claims.RngControls : Prop :=
  ∀ (s : State), domOn s 3 = true →
    (∃ t, exec .rngStretchRead s = .next t ∧ t.get F.RNG_STRETCH.max_int = 0 ∧ { t with regs := s.regs } = s
      ∧ ∀ f : Fld, f.apart F.RNG_STRETCH.max_int = true → t.get f = s.get f)
    ∧ (∀ v, s.rng.planned = false → exec (.rngEnWrite v) s = .next s)
    ∧ (s.rng.planned = true → ∃ t, exec (.rngEnWrite false) s = .next t ∧ t.get F.RNG_CTRL.en = 0 ∧ t.rng.osc = false
      ∧ t.rng.drbg = s.rng.drbg ∧ t.rng.queue = s.rng.queue ∧ t.rng.seed = s.rng.seed ∧ rngLive t = false)
    ∧ (s.rng.planned = true → s.rng.seed = none → s.rng.held = [] → ∃ t, exec (.rngEnWrite true) s = .next t
      ∧ t.get F.RNG_CTRL.en = 1 ∧ t.rng.osc = true)
    ∧ (∃ t, exec .forcedReseed s = .next t ∧ t.rng.queue = [] ∧ t.rng.forced = true ∧ t.rng.drbg = s.rng.drbg ∧ t.regs = s.regs)
    ∧ (∃ t, exec .qflush s = .next t ∧ t.rng = { s.rng with queue := [] } ∧ t.regs = s.regs)

/-- The expander serves, holds and refills its requests, and its controls act on source and queue: `Claims.RngRequests`, `Claims.RngControls`. -/
def Obligations.RngService : Prop :=
  Sys2Proof.Claims.RngRequests ∧ Sys2Proof.Claims.RngControls

/-! Bridle cores and key tree (10). -/

/-- R242, R249, R250, R252, R253, R266: an accepted raw-block operation makes the channel BUSY, counts one use of the handle and
queues the block latched from IN (for KSTREAM its last four bytes are the use count); otherwise the status says why. A start
while BUSY changes nothing, and op 3 is DENIED. -/
def Sys2Proof.Claims.CipherStarts : Prop :=
  ∀ (e : Fin 8) (handle : BitVec 16) (s : State), domOn s 3 = true →
    ∀ q ∈ ([(.enc e handle, 0), (.dec e handle, 1), (.kstream e handle, 2)] : List (Instr × Nat)),
      let st := s.get (F.CIPH_ECH_W4.status e)
      let ends := fun (code : Nat) => ∃ t, exec q.1 s = .next t ∧ t.get (F.CIPH_ECH_W4.status e) = code
        ∧ t.ciph = s.ciph ∧ t.keys = s.keys
      (st = 1 → exec q.1 s = .next s ∧ exec (.echOpReserved e) s = .next s)
      ∧ (st ≠ 1 → ∃ t, exec (.echOpReserved e) s = .next t ∧ t.get (F.CIPH_ECH_W4.status e) = 7 ∧ t.ciph = s.ciph)
      ∧ (st ≠ 1 → s.get F.KEYS_STAT.blocked = 1 → ends 8)
      ∧ (st ≠ 1 → s.get F.KEYS_STAT.blocked = 0 → activeRoot s = none → ends 7)
      ∧ (st ≠ 1 → s.get F.KEYS_STAT.blocked = 0 → activeRoot s ≠ none → slotOfHandle s handle.toNat e = none → ends 6)
      ∧ (∀ h, st ≠ 1 → s.get F.KEYS_STAT.blocked = 0 → activeRoot s ≠ none → slotOfHandle s handle.toNat e = some h →
        (2 ^ (keySlot s h).limE ≤ (keySlot s h).uses → ends 5
            ∧ ∀ t, exec q.1 s = .next t → t.get F.KEYS_STAT.reuse = min 65535 (s.get F.KEYS_STAT.reuse + 1))
        ∧ ((keySlot s h).uses < 2 ^ (keySlot s h).limE → ∃ t, exec q.1 s = .next t
            ∧ t.get (F.CIPH_ECH_W4.status e) = 1 ∧ (keySlot t h).uses = (keySlot s h).uses + 1
            ∧ ∃ o, t.ciph.ops = s.ciph.ops ++ [o] ∧ o.who = .ech e ∧ o.slot = h ∧ o.kind = q.2 ∧ o.left = 1
              ∧ o.input = if q.2 = 2 then echIn s e / 2 ^ 32 * 2 ^ 32 + (keySlot s h).uses % 2 ^ 32 else echIn s e))

/-- R239 to R242: a raw block that is next takes the lowest free core and a block of its randomness, and none starts while that
pool is empty (a dispatch at which the verdict latch takes up no slot); its completion puts the AES output of the latched block in OUT with DONE and raises engine line 0; a mismatch
gives FAULT with OUT 0 and is counted and reported. -/
def Sys2Proof.Claims.CipherBlocks : Prop :=
  ∀ (e : Fin 8) (core : Fin 4) (o : CoreOp) (s : State), domOn s 3 = true → e.val < s.eng.length →
    s.ciph.cores.length = 4 → s.ciph.pools.length = 4 → o.who = .ech e →
    (∀ l, verdKick s = s → nextOp s = some o → freeCores s = core.val :: l → s.ciph.pools.getD core 0 ≠ 0 →
      ∃ t, exec .coreDispatch s = .next t ∧ t.ciph.cores.getD core none = some (.ech e)
        ∧ t.ciph.pools.getD core 0 + 1 = s.ciph.pools.getD core 0 ∧ t.ciph.rr = e ∧ t.ciph.ops = s.ciph.ops)
    ∧ (∀ l, verdKick s = s → nextOp s = some o → freeCores s = core.val :: l → s.ciph.pools.getD core 0 = 0 →
      ∃ t, exec .coreDispatch s = .next t ∧ t.get F.CIPH_STAT.pool_low = 1 ∧ t.ciph = s.ciph)
    ∧ (s.ciph.cores.getD core none = some (.ech e) → opOf s (.ech e) = some o → o.ending = none → o.left = 1 →
      s.get (F.CIPH_ECH_W4.status e) = 1 →
      let k := keySlot s o.slot
      let out := if o.kind = 1 then aesDec k.k256 k.key o.input else aesEnc k.k256 k.key o.input
      (∃ t, exec (.blockDone core false) s = .next t ∧ t.get (F.CIPH_ECH_W4.status e) = 2
        ∧ (∀ w < 4, t.get (F.CIPH_ECH_W20.out e w) = portWord out w)
        ∧ bit (t.engine e).evpend 0 = true ∧ opOf t (.ech e) = none ∧ t.ciph.cores.getD core none = none)
      ∧ (∃ t, exec (.blockDone core true) s = .next t ∧ t.get (F.CIPH_ECH_W4.status e) = 3
        ∧ (∀ w < 4, t.get (F.CIPH_ECH_W20.out e w) = 0) ∧ t.get F.CIPH_STAT.fault = 1
        ∧ t.get F.CIPH_FAULT.last_req = e ∧ t.get F.HLTH_EVT.ciph = 1 ∧ opOf t (.ech e) = none))

/-- R267: an abort ends a block that still waits at once with ABORTED; one that a core runs ends ABORTED at its block boundary;
one at the completion leaves DONE with abort_late. -/
def Sys2Proof.Claims.CipherAborts : Prop :=
  ∀ (e : Fin 8) (atCompletion : Bool) (o : CoreOp) (s : State), domOn s 3 = true →
    (opOf s (.ech e) = some o → (∀ c ∈ s.ciph.cores, c ≠ some (.ech e)) →
      ∃ t, exec (.echAbort e atCompletion) s = .next t ∧ t.get (F.CIPH_ECH_W4.status e) = 12 ∧ opOf t (.ech e) = none)
    ∧ (opOf s (.ech e) = some o → some (.ech e) ∈ s.ciph.cores → o.ending = none →
      ∃ t, exec (.echAbort e atCompletion) s = .next t ∧ opOf t (.ech e) = some { o with ending := some 12 }
        ∧ t.regs = s.regs)
    ∧ (opOf s (.ech e) = none → s.get (F.CIPH_ECH_W4.status e) = 2 →
      ∃ t, exec (.echAbort e true) s = .next t ∧ t.get (F.CIPH_ECH_W4.abort_late e) = 1 ∧ t.get (F.CIPH_ECH_W4.status e) = 2)

/-- An engine channel operation is admitted or refused, runs on a core, and ends or is aborted: `Claims.CipherStarts`, `Claims.CipherBlocks`, `Claims.CipherAborts`. -/
def Obligations.CipherOperations : Prop :=
  Sys2Proof.Claims.CipherStarts ∧ Sys2Proof.Claims.CipherBlocks ∧ Sys2Proof.Claims.CipherAborts

/-- R247 to R250, R252: a derivation that the rules admit makes the channel BUSY and counts its blocks against the parent; when
its last block completes, the key takes the lowest free slot, owned by the engine, one level below its parent, and the handle is
returned with DONE. A request the rules refuse ends at once with its status; a start while BUSY changes nothing. -/
def Sys2Proof.Claims.KeyDerivation : Prop :=
  ∀ (e : Fin 8) (core : Fin 4) (o : CoreOp) (s : State), domOn s 3 = true → s.keys.slots.length = 48 →
    (s.get (F.KEYS_DER_W28.status e) = 1 → exec (.deriveStart e) s = .next s)
    ∧ (∀ st, s.get (F.KEYS_DER_W28.status e) ≠ 1 → derResolve s e = .error st →
      ∃ t, exec (.deriveStart e) s = .next t ∧ t.get (F.KEYS_DER_W28.status e) = st % 16 ∧ t.ciph = s.ciph ∧ t.keys = s.keys)
    ∧ (s.get (F.KEYS_DER_W28.status e) ≠ 1 → derResolve s e = .ok o →
      ∃ t, exec (.deriveStart e) s = .next t ∧ t.get (F.KEYS_DER_W28.status e) = 1 ∧ t.ciph.ops = s.ciph.ops ++ [o]
        ∧ (o.slot < 48 → (keySlot t o.slot).uses = (keySlot s o.slot).uses + o.left))
    ∧ (s.ciph.cores.getD core none = some (.der e) → opOf s (.der e) = some o → o.ending = none → o.left = 1 →
      freeSlot (dropOp s (.der e)) ≠ none →
      ∃ t h, exec (.blockDone core false) s = .next t ∧ freeSlot (dropOp s (.der e)) = some h
        ∧ t.get (F.KEYS_DER_W28.status e) = 2 ∧ t.get (F.KEYS_DER_W28.result e) = handleOf t h
        ∧ (keySlot t h).live = true ∧ (keySlot t h).owner = e ∧ (keySlot t h).id = o.derId
        ∧ (keySlot t h).depth = (if 48 ≤ o.slot then 1 else (keySlot s o.slot).depth + 1)
        ∧ (keySlot t h).parent = (if 48 ≤ o.slot then 63 else o.slot) ∧ (keySlot t h).uses = 0
        ∧ ∀ k, k ≠ h → keySlot t k = keySlot s k)

/-- R250, R253, R254, R256: freeing a handle frees its descendants and no other slot (but an export's own); a handle that is not the engine's is refused
with BAD_HANDLE; an engine's handle at its limit retires, leaving a record, or tomb_full where 32 records stand. -/
def Sys2Proof.Claims.KeyHandles : Prop :=
  ∀ (e : Fin 8) (handle : BitVec 16) (slot : Fin 48) (s : State), domOn s 3 = true → s.keys.slots.length = 48 →
    (∀ h, slotOfHandle s handle.toNat e = some h → ∃ t, exec (.handleFree e handle) s = .next t
      ∧ (∀ k ∈ withDescendants s h, (keySlot t k).live = false)
      ∧ ∀ k, k ∉ withDescendants s h → (∀ o ∈ s.ciph.ops, o.who = .exp → o.slot ≠ k) → keySlot t k = keySlot s k)
    ∧ (slotOfHandle s handle.toNat e = none → s.get (F.KEYS_DER_W28.status e) ≠ 1 →
      ∃ t, exec (.handleFree e handle) s = .next t ∧ t.get (F.KEYS_DER_W28.status e) = 6 ∧ t.keys = s.keys)
    ∧ ((keySlot s slot).live = true → (keySlot s slot).owner < 8 → (keySlot s slot).uses = 2 ^ (keySlot s slot).limE → slotInUse s slot = false →
      ∃ t, exec (.handleRetire slot) s = .next t ∧ (keySlot t slot).live = false
        ∧ t.keys.tombs.length = min 32 (s.keys.tombs.length + 1) + (s.keys.tombs.length - 32)
        ∧ (32 ≤ s.keys.tombs.length → t.get F.KEYS_STAT.tomb_full = 1))

/-- R246: at half the limit it was derived with HAUTH's or RCODE's key, no message being in flight, is freed and derived anew, with a fresh use count and no record; below half
nothing happens. -/
def Sys2Proof.Claims.PrivilegedKeyRenewal : Prop :=
  ∀ (c : Fin 3) (h : Nat) (s : State), c.val ≠ 2 → s.keys.slots.length = 48 → s.ciph.pch.length = 4 → s.ciph.pch.getD c none = some h →
    ((keySlot s h).uses < 2 ^ ((keySlot s h).limE - 1) → exec (.keyRenew c) s = .next s)
    ∧ (2 ^ ((keySlot s h).limE - 1) ≤ (keySlot s h).uses → slotInUse s h = false → activeRoot s ≠ none → freeSlot (freeSlotTree s h) ≠ none →
      ∃ t g, exec (.keyRenew c) s = .next t ∧ t.ciph.pch.getD c none = some g ∧ (keySlot t g).live = true ∧ (keySlot t g).uses = 0
        ∧ t.keys.tombs = s.keys.tombs)

/-- Derived keys take free slots below their parent; handles are freed, retired and renewed: `Claims.KeyDerivation`, `Claims.KeyHandles`, `Claims.PrivilegedKeyRenewal`. -/
def Obligations.KeyTree : Prop :=
  Sys2Proof.Claims.KeyDerivation ∧ Sys2Proof.Claims.KeyHandles ∧ Sys2Proof.Claims.PrivilegedKeyRenewal

/-- R258: in BLANK, a root step programs the first unused slot from the 256 bits delivered, with its marker unless the write was
torn; the third complete slot makes the state MAKER. -/
def Sys2Proof.Claims.RootFilling : Prop :=
  ∀ (torn : Bool) (a b i : Nat) (l m : List Nat) (s : State), s.keys.roots.length = 5 → s.get F.KEYS_LC.state = 0 →
    s.keys.rootBuf = a :: b :: l → usableRoots s = i :: m → (s.keys.roots.getD i {}).marker = false →
    ∃ t, exec (.rootFillStep torn) s = .next t
      ∧ t.keys.roots.getD i {} = { key := a * 2 ^ 128 + b, programmed := true, marker := !torn }
      ∧ (∀ j, j ≠ i → t.keys.roots.getD j {} = s.keys.roots.getD j {}) ∧ t.keys.rootBuf = []
      ∧ ((completedRoots s).length = 2 → torn = false → t.get F.KEYS_LC.state = 1)
      ∧ ((completedRoots s).length < 2 → t.get F.KEYS_LC.state = 0)

/-- R259, R260, R262: each life-cycle command is accepted in its states and wipes every derived handle; the status is BUSY until
the state is programmed; otherwise the status says why, and reserved codes are DENIED. An untagged command changes nothing. -/
def Sys2Proof.Claims.LifeCycleCommands : Prop :=
  ∀ (s : State), domOn s 3 = true →
    let ends := fun (c : Instr) (st : Nat) => ∃ t, exec c s = .next t ∧ t.get F.KEYS_LCCMD.status = st ∧ t.keys = s.keys
    let accepts := fun (c : Instr) (g : LcTarget) => ∃ t, exec c s = .next t ∧ t.get F.KEYS_LCCMD.status = 1
      ∧ t.keys.lcPend = some g ∧ ∀ k, (keySlot t k).live = false
    let life := s.get F.KEYS_LC.state
    let open_ := s.get F.LOFT_STAT.gen_end = 0 ∧ lcBusy s = false
    (∀ c ∈ ([.goField false, .goShop false, .retire 0xA5#8 false, .lcCmdRefused 0#4 false] : List Instr), exec c s = .next s)
    ∧ (life ≠ 1 → life ≠ 3 → ends (.goField true) 7)
    ∧ (life ≠ 2 → ends (.goShop true) 7)
    ∧ (life = 2 → 256 ≤ s.get F.KEYS_LC.shop_cnt → ends (.goShop true) 13)
    ∧ (∀ confirm : BitVec 8, confirm ≠ 0xA5#8 → ends (.retire confirm true) 7)
    ∧ (∀ cmd : BitVec 4, cmd = 0#4 ∨ 4 ≤ cmd.toNat → ends (.lcCmdRefused cmd true) 7)
    ∧ (life = 1 ∨ life = 3 → s.get F.KEYS_STAT.blocked = 0 → open_ → accepts (.goField true) .field)
    ∧ (life = 2 → s.get F.KEYS_LC.shop_cnt < 256 → s.get F.KEYS_STAT.blocked = 0 → open_ → accepts (.goShop true) .shop)
    ∧ (activeRoot s ≠ none → open_ → accepts (.retire 0xA5#8 true) .retired)

/-- R259 to R262: once the store has committed, the pending transition programs its state in register and fuse, ends the command
with DONE and wipes the handles; RETIRED destroys every root and record. -/
def Sys2Proof.Claims.LifeCycleProgramming : Prop :=
  ∀ (g : LcTarget) (s : State), s.keys.lcPend = some g →
    (g = .retired ∨ (s.keys.lcWait = false ∧ storeOver s wtLife = true ∧ s.get F.LOFT_STAT.gen_end = 0)) →
    ∃ t, exec .lcStateProgram s = .next t ∧ t.get F.KEYS_LC.state = lcCode g ∧ t.get F.KEYS_LCCMD.status = 2
      ∧ bitsOf (Store.get t.fuses F.KEYS_LC.state.addr) F.KEYS_LC.state.lo F.KEYS_LC.state.len = lcCode g
      ∧ t.keys.lcPend = none ∧ (∀ k, (keySlot t k).live = false)
      ∧ (g = .retired → t.keys.tombs = [] ∧ ∀ r ∈ t.keys.roots, r.key = 2 ^ 256 - 1 ∧ r.programmed = true)

/-- Life-cycle commands are accepted in their states only, and program the state after the store: `Claims.LifeCycleCommands`, `Claims.LifeCycleProgramming`. -/
def Obligations.LifeCycle : Prop :=
  Sys2Proof.Claims.LifeCycleCommands ∧ Sys2Proof.Claims.LifeCycleProgramming

/-- R263, R264, R266, R268: KT is imported four bytes at a time; an export needs the whole of it: the key takes a free slot and the
status reads BUSY until the cores have run its blocks, which leave the wrapped key in KEYS_WOUT, DONE, the slot free and KT used up;
a complete read of KEYS_WOUT clears it; KEYS_CLEAR lifts blocked unless a latched tamper source is live. -/
def Sys2Proof.Claims.KeyExport : Prop :=
  ∀ (s : State), domOn s 3 = true →
    (∀ (n : Fin 4) (data : Word), s.get F.KEYS_LC.state ≠ 4 → ∃ t, exec (.keysImpWrite n data true) s = .next t
      ∧ ((bytesBe t.keys.kt 16).drop (4 * n)).take 4 = bytesLe data.toNat 4
      ∧ bit t.keys.ktMask n = true ∧ t.regs = s.regs)
    ∧ (∀ (id : BitVec 5) (index : BitVec 4), s.get F.KEYS_LC.state ≠ 4 → opOf s .exp = none → s.get F.KEYS_STAT.blocked = 0 →
      s.keys.ktMask ≠ 15 →
      ∃ t, exec (.keysWrapStart id index true) s = .next t ∧ t.get F.KEYS_WRAP.status = 7 ∧ t.keys = s.keys)
    ∧ (∀ (index : BitVec 4) (root h : Nat), s.get F.KEYS_LC.state = 2 → s.get F.KEYS_STAT.blocked = 0 → opOf s .exp = none →
      s.keys.ktMask = 15 → s.keys.slots.length = 48 → activeRoot s = some root → freeSlot s = some h →
      ∃ t o, exec (.keysWrapStart 5#5 index true) s = .next t ∧ t.get F.KEYS_WRAP.status = 1
        ∧ (keySlot t h).key = kTok s root index.toNat ∧ t.ciph.ops = s.ciph.ops ++ [o] ∧ o.who = .exp ∧ o.slot = h
        ∧ o.derId = 5 ∧ o.input = s.keys.kt)
    ∧ (∀ (core : Fin 4) (o : CoreOp), s.ciph.cores.getD core none = some .exp → opOf s .exp = some o → o.ending = none →
      o.left = 1 → ∃ t, exec (.blockDone core false) s = .next t ∧ t.get F.KEYS_WRAP.status = 2
        ∧ t.keys.kt = 0 ∧ t.keys.ktMask = 0 ∧ (keySlot t o.slot).live = false ∧ opOf t .exp = none
        ∧ ∀ n < 4, t.get (F.KEYS_WOUT.w n)
          = natLe (((bytesBe (aesEnc false o.input (keySlot s o.slot).key) 16).drop (4 * n)).take 4))
    ∧ (∃ t, exec .keysWoutRead s = .next t ∧ ∀ n < 6, t.get (F.KEYS_WOUT.w n) = 0)
    ∧ (s.get F.KEYS_LC.state ≠ 4 → latchedLive s = false → ∃ t, exec (.keysClear true) s = .next t
      ∧ t.get F.KEYS_STAT.blocked = 0 ∧ { t with regs := s.regs } = s)
    ∧ (∀ tagged, latchedLive s = true ∨ tagged = false → exec (.keysClear tagged) s = .next s)

/-- Roots fill their slots in BLANK, and a key leaves only wrapped under a whole KT: `Claims.RootFilling`, `Claims.KeyExport`. -/
def Obligations.RootsAndExport : Prop :=
  Sys2Proof.Claims.RootFilling ∧ Sys2Proof.Claims.KeyExport

/-! Loft storage (12). -/

/-- R283, R285, R292: a window write opens a gather, joins the owner's at the next word, or commits it and opens a new one; another
requester, and every requester during recall, is refused; a protected place is refused with prot_viol and the gather stays.
An engine's refusal is in its yerr. While a commit or a store runs, the gather left behind waits its turn. Nothing written is in the
front yet. (An engine's stall has a route to the place.) -/
def Sys2Proof.Claims.LoftGathering : Prop :=
  ∀ (src : Src) (off : BitVec 19) (data : Word) (s : State), domOn s 9 = true → off.toNat % 4 = 0 →
    (∀ e, src = .engine e → yardAllowed s e (0x40_0000 + off.toNat) true = true) →
    let cmd := Instr.loftWindowWrite src off data
    let o := off.toNat
    let refused := fun (code : Nat) => ∃ t, exec cmd s = .next t ∧ t.loft = s.loft ∧ ∀ n, src = .engine n → t.get (F.GROOM_STAT.yerr n) = code
    let opens := fun (c : Option Gather) => ∃ t, exec cmd s = .next t ∧ t.regs = s.regs
      ∧ t.loft = { s.loft with gather := some { owner := loftOwner src, start := o, words := [data] }, commit := c }
    (loftClosed s = true ∨ sealUnverified s o = true → refused 2)
    ∧ (loftClosed s = false → sealUnverified s o = false → loftProtected s o = true → refused 3
        ∧ ∀ t, exec cmd s = .next t → t.get F.LOFT_STAT.prot_viol = 1)
    ∧ (loftClosed s = false → sealUnverified s o = false → loftProtected s o = false →
      (s.loft.gather = none → s.loft.commit = none → opens none)
      ∧ (∀ g, s.loft.gather = some g → g.owner ≠ loftOwner src → refused 2)
      ∧ (∀ g, s.loft.gather = some g → g.owner = loftOwner src → o = gatherNext g → g.words.length < 1023 →
        ∃ t, exec cmd s = .next t ∧ t.regs = s.regs
          ∧ t.loft = { s.loft with gather := some { g with words := g.words ++ [data] } })
      ∧ (∀ g, s.loft.gather = some g → g.owner = loftOwner src → o ≠ gatherNext g → g.waiting = false →
        s.loft.due = none →
        (storeRuns s = false → s.loft.commit = none → opens (some g))
        ∧ (storeRuns s = true ∨ s.loft.commit ≠ none → ∃ t, exec cmd s = .next t ∧ t.regs = s.regs
          ∧ t.loft = { s.loft with gather := some { owner := loftOwner src, start := o, words := [data] }
                                   due := some { g with waiting := true } })))

/-- R284, R286, R287: commit and time-out make the owner's gather due; a due gather starts once no store runs; when it ends its
words stand in the front and every other byte is as before (no kept token counter and no transition having waited for it); gabort discards an open gather, too late in the cycle in which
the commit starts. -/
def Sys2Proof.Claims.LoftCommits : Prop :=
  ∀ (src : Src) (g : Gather) (s : State), domOn s 9 = true →
    (∀ e, src = .engine e → yardAllowed s e F.LOFT_CTRL.store.addr true = true) →
    (s.loft.gather = some g → g.owner = loftOwner src → ∀ c ∈ ([.commit src, .gatherTimeout] : List Instr),
      exec c s = .next { s with loft := { s.loft with gather := some { g with waiting := true } } })
    ∧ (s.loft.due = none → s.loft.gather = some g → s.loft.commit = none → g.waiting = true → storeRuns s = false →
      commitHeld s g = false → exec .commitStart s = .next { s with loft := { s.loft with gather := none, commit := some { g with waiting := false } } })
    ∧ (storeRuns s = true → exec .commitStart s = .next s)
    ∧ (s.loft.commit = some g → s.loft.tctrWait = [] → s.keys.lcWait = false → ∃ t, exec .commitEnd s = .next t ∧ t.loft.commit = none
      ∧ (∀ k, k < g.words.length → Mem.word t.loft.front (g.start + 4 * k) = g.words.getD k 0)
      ∧ ∀ a, a < g.start ∨ g.start + 4 * g.words.length ≤ a → Store.get t.loft.front a = Store.get s.loft.front a)
    ∧ (s.loft.gather = some g → g.owner = loftOwner src →
      exec (.gabort src false) s = .next { s with loft := { s.loft with gather := s.loft.due, due := none } })
    ∧ (s.loft.due = none → s.loft.gather = some g → s.loft.commit = none → g.owner = loftOwner src → g.waiting = true → storeRuns s = false →
      commitHeld s g = false → ∃ t, exec (.gabort src true) s = .next t ∧ t.get F.LOFT_STAT.abort_late = 1
        ∧ t.loft.commit = some { g with waiting := false } ∧ t.loft.gather = none)

/-- Loft writes gather by their owner and reach the front only when the gather commits: `Claims.LoftGathering`, `Claims.LoftCommits`. -/
def Obligations.LoftGathersAndCommits : Prop :=
  Sys2Proof.Claims.LoftGathering ∧ Sys2Proof.Claims.LoftCommits

/-- R288 to R290: a store is asked for with a tag or by a routed engine, held during recall and merged while one runs; its start
makes the older copy invalid; its end makes that copy valid, with the front's pages, under the generation after the newest,
and the other copy stays. -/
def Sys2Proof.Claims.LoftStores : Prop :=
  ∀ (src : Src) (s : State), domOn s 9 = true →
    (∀ e, src = .engine e → yardAllowed s e F.LOFT_CTRL.store.addr true = true) →
    (exec (.loftStore (.host false)) s = .next s)
    ∧ (src ≠ .host false → loftClosed s = true → ∃ t, exec (.loftStore src) s = .next t ∧ t.loft = { s.loft with heldReq := true })
    ∧ (src ≠ .host false → loftClosed s = false → s.loft.store = none →
      ∃ t, exec (.loftStore src) s = .next t ∧ t.loft = { s.loft with store := some {} })
    ∧ (∀ r, src ≠ .host false → loftClosed s = false → s.loft.store = some r → r.begun = true →
      ∃ t, exec (.loftStore src) s = .next t ∧ t.get F.LOFT_STAT.store_pend = 1 ∧ t.loft = s.loft)
    ∧ (∀ r, s.loft.store = some r → s.loft.commit = none → r.begun = false → r.pf = false → newestGen s < 0xFFFF_FFFE →
      ∃ t u, exec .storeStart s = .next t ∧ t.get F.LOFT_STAT.state = 3 ∧ t.loft.store = some u ∧ u.begun = true
        ∧ u.gnew = newestGen s + 1 ∧ copyValid (if storeToB s then t.loft.copyB else t.loft.copyA) = none
        ∧ (if storeToB s then t.loft.copyA = s.loft.copyA else t.loft.copyB = s.loft.copyB) ∧ t.loft.front = s.loft.front)
    ∧ (newestGen s = 0xFFFF_FFFE → ∀ r, s.loft.store = some r → s.loft.commit = none → r.begun = false →
      ∃ t, exec .storeStart s = .next t ∧ t.get F.LOFT_STAT.gen_end = 1 ∧ t.loft.copyA = s.loft.copyA ∧ t.loft.copyB = s.loft.copyB)
    ∧ (∀ r, s.loft.store = some r → r.begun = true → r.refused = false → r.pf = false → r.gnew < 2 ^ 32 →
      ∃ t, exec .storeDone s = .next t
        ∧ (copyValid (if r.toB then t.loft.copyB else t.loft.copyA)).map (·.1) = some r.gnew
        ∧ (if r.toB then t.loft.copyB else t.loft.copyA).mem = s.loft.front
        ∧ (if r.toB then t.loft.copyA = s.loft.copyA else t.loft.copyB = s.loft.copyB) ∧ t.get F.LOFT_GEN.g = r.gnew
        ∧ (s.get F.LOFT_STAT.store_pend = 1 → t.loft.store = some {}))

/-- R291 to R293: recall scans the rings and picks the newest valid copy; at its end the front holds that copy's pages and the window
opens; with no valid copy the front is empty; a double-bit error falls back to the other valid copy. -/
def Sys2Proof.Claims.LoftRecalls : Prop :=
  ∀ (s : State), domOn s 9 = true → s.get F.LOFT_STAT.state = 1 → s.loft.heldReq = false → s.keys.lcWait = false →
    (∃ t, exec .recallStart s = .next t ∧ t.loft = { s.loft with recallFrom := newestCopy s })
    ∧ (∀ b, s.loft.recallFrom = some b → ∀ q ∈ ([(.clean, 0), (.single, 1)] : List (RecallEcc × Nat)),
      ∃ t, exec (.recallDone q.1) s = .next t ∧ t.loft.front = (if b then s.loft.copyB else s.loft.copyA).mem
        ∧ t.get F.LOFT_STAT.state = 2 ∧ t.get F.LOFT_LAST.recall = 2 ∧ t.get F.LOFT_GEN.g = newestGen s % 2 ^ 32
        ∧ (q.2 = 1 → t.get F.LOFT_STAT.ecc_corr = 1))
    ∧ (∀ b words, s.loft.recallFrom = some b → copyValid (if b then s.loft.copyA else s.loft.copyB) ≠ none →
      ∃ t, exec (.recallDone (.double words)) s = .next t ∧ t.loft.front = (if b then s.loft.copyA else s.loft.copyB).mem
        ∧ t.get F.LOFT_STAT.state = 2 ∧ t.get F.LOFT_LAST.recall = 3)
    ∧ (∀ ecc, s.loft.recallFrom = none → ∃ t, exec (.recallDone ecc) s = .next t ∧ t.loft.front = []
      ∧ t.get F.LOFT_STAT.state = 2 ∧ t.get F.LOFT_LAST.recall = 1)

/-- R299, R300, R302: the owner's write of val_hi is a change, counted until the Nth makes a slot write due; a completed slot write
steps the sequence and stores a slot whose CRC is valid with that value; another requester's write is refused; a recomputed
tag, no store copying, is written into the last 16 bytes of its region. -/
def Sys2Proof.Claims.LoftRingsAndSeals : Prop :=
  ∀ (src : Src) (r : Fin 16) (hi : Word) (s : State), domOn s 9 = true →
    (∀ e, src = .engine e → yardAllowed s e (F.LOFT_RVAL_W4.val_hi r).addr true = true) →
    (loftClosed s = true ∨ ringOwned s src r = false → ∃ t, exec (.ringChange src r hi) s = .next t ∧ t.loft = s.loft
      ∧ (∀ n, src = .engine n → t.get (F.GROOM_STAT.yerr n) = 2) ∧ ringLive t r = ringLive s r)
    ∧ (loftClosed s = false → ringOwned s src r = true → ∃ t, exec (.ringChange src r hi) s = .next t
      ∧ t.get (F.LOFT_RVAL_W4.val_hi r) = hi.toNat
      ∧ (ringN s r ≤ satInc 255 (s.get (F.LOFT_RVAL_WC.pend r)) → t.get (F.LOFT_RVAL_WC.pend r) = 0
          ∧ t.loft.ringWrites = s.loft.ringWrites ++ [(r.val, ringLive t r)])
      ∧ (satInc 255 (s.get (F.LOFT_RVAL_WC.pend r)) < ringN s r →
          t.get (F.LOFT_RVAL_WC.pend r) = satInc 255 (s.get (F.LOFT_RVAL_WC.pend r)) ∧ t.loft = s.loft))
    ∧ (∀ v l, s.loft.ringWrites = (r.val, v) :: l → s.get (F.LOFT_RVAL_W8.seq r) ≠ 0xFFFF_FFFF →
      let q := s.get (F.LOFT_RVAL_W8.seq r) + 1
      ∃ t, exec (.ringSlotWriteDone r) s = .next t ∧ t.loft.ringWrites = l ∧ t.get (F.LOFT_RVAL_W8.seq r) = q
        ∧ t.get (F.LOFT_RVAL_WC.empty r) = 0
        ∧ slotValid (storedSlot t r (if ringSlots s r = 0 then 0 else q % ringSlots s r)) = some (v % 2 ^ 64, q))
    ∧ (∀ (q : Fin 4) (root b n : Nat) (o : CoreOp), s.keys.lcPend = none → activeRoot s = some root → sealRegion s q = some (b, n) →
      s.get (F.LOFT_SEAL.resealing q) = 1 → domOn s 3 = true → opOf s (.seal q) = some o → o.ending = none → storeRuns s = false →
      ∃ t, exec (.sealTagDone q) s = .next t ∧ t.get (F.LOFT_SEAL.resealing q) = 0 ∧ storedTag t q = sealTag s (kSealL root) q % 2 ^ 128
        ∧ ∀ a, a < b + n - 16 ∨ b + n ≤ a → Store.get t.loft.front a = Store.get s.loft.front a)

/-- Recall restores the newest valid copy; rings record their changes; seals are recomputed: `Claims.LoftRecalls`, `Claims.LoftRingsAndSeals`. -/
def Obligations.LoftRecallRingsAndSeals : Prop :=
  Sys2Proof.Claims.LoftRecalls ∧ Sys2Proof.Claims.LoftRingsAndSeals

/-- R294, R295, R297: a trip discards the open gather, records VHOLD and starts the power-fail store or turns the running one into
it; with pf_en = 0 nothing happens; VHOLD below the cutoff stops a commit after the words already transferred, and a stopped
store leaves its copy invalid and the front lost; a droop measurement gives c_est = round(100 000 / droop). -/
def Sys2Proof.Claims.LoftPowerFail : Prop :=
  ∀ (vhold : BitVec 8) (words : BitVec 11) (mv : BitVec 12) (s : State),
    (s.get F.LOFT_CFG.pf_en = 0 → exec (.pfTrip vhold) s = .next s)
    ∧ (s.get F.LOFT_CFG.pf_en = 1 → loftClosed s = false → ∃ t r, exec (.pfTrip vhold) s = .next t
      ∧ t.loft.gather = none ∧ t.loft.lost = s.loft.gather.isSome ∧ t.loft.pf = true ∧ t.get F.LOFT_STAT.state = 4
      ∧ t.get F.LOFT_HOLD.v_pf = vhold.toNat ∧ t.loft.store = some r ∧ r.pf = true ∧ r.vpf = vhold.toNat
      ∧ t.get F.LOFT_STAT.store_pend = 0 ∧ t.loft.front = s.loft.front)
    ∧ (∀ g, s.loft.commit = some g → s.loft.pf = true → words.toNat < g.words.length →
      ∃ t, exec (.vholdBelowCutoff words) s = .next t ∧ t.loft.commit = none
        ∧ t.loft.torn = some ((g.start + 4 * words.toNat) / 256, (g.start + 4 * words.toNat) % 256)
        ∧ (∀ k, k < words.toNat → Mem.word t.loft.front (g.start + 4 * k) = g.words.getD k 0)
        ∧ ∀ a, a < g.start ∨ g.start + 4 * words.toNat ≤ a → Store.get t.loft.front a = Store.get s.loft.front a)
    ∧ (∀ r, s.loft.store = some r → r.pf = true → ∃ t, exec .vholdStoreStop s = .next t ∧ t.loft.front = []
      ∧ t.loft.copyA = s.loft.copyA ∧ t.loft.copyB = s.loft.copyB ∧ t.loft.rings = s.loft.rings ∧ t.get F.LOFT_STAT.state = 1)
    ∧ (∀ r, s.loft.store = some r → r.begun = true → r.pf = false → 25 ≤ mv.toNat →
      ∃ t, exec (.droopMeasureEnd mv) s = .next t ∧ t.get F.LOFT_HOLD.droop = mv.toNat
        ∧ t.get F.LOFT_HOLD.c_est = (2 * 100000 + mv.toNat) / (2 * mv.toNat)
        ∧ ((2 * 100000 + mv.toNat) / (2 * mv.toNat) < (if s.get F.LOFT_CFG.c_min = 0 then 470 else s.get F.LOFT_CFG.c_min) →
          t.get F.LOFT_STAT.hold_low = 1))

/-- A Loft store renews the older copy alone; a power-fail trip discards the gather and starts its store: `Claims.LoftStores`, `Claims.LoftPowerFail`. -/
def Obligations.LoftStores : Prop :=
  Sys2Proof.Claims.LoftStores ∧ Sys2Proof.Claims.LoftPowerFail

/-! The stall plan and the yard (14). -/

/-- R347, R350, R352: BEGIN clears the staging area; PDATA stores a word at PADDR and moves it on by 4, and past the end sets
overrun; APPLY runs the first pass and either ends the import with the reason and place of the first failure or leaves the
sealed image staged and PENDING; CANCEL discards it with reason ABORTED. Without a tag none of these does anything. -/
def Sys2Proof.Claims.PlanImports : Prop :=
  ∀ (data : Word) (s : State), domOn s 2 = true →
    let rest := if s.yard.applied then 2 else 3
    let outside := fun (t : State) => ∀ a, a < 0x8_0000 ∨ 0xC_0000 ≤ a → Store.get t.feed a = Store.get s.feed a
    let cleared := fun (t : State) => ∀ a, 0x8_0000 ≤ a → a < 0xC_0000 → Store.get t.feed a = 0
    (∀ c ∈ ([.begin false, .pdataWrite data false, .apply false, .cancel false, .useLoft false] : List Instr), exec c s = .next s)
    ∧ (s.get F.YARD_PSTAT.state ∈ [2, 3, 4, 5] → ∃ t, exec (.begin true) s = .next t ∧ t.get F.YARD_PSTAT.state = 4
        ∧ t.yard = { s.yard with load := none } ∧ cleared t ∧ outside t ∧ t.loft = s.loft)
    ∧ (s.get F.YARD_PSTAT.state = 6 → exec (.begin true) s = .next s)
    ∧ (s.get F.YARD_PSTAT.state = 4 → s.get F.YARD_PADDR.addr < 258048 →
        let a := 0x8_0000 + s.get F.YARD_PADDR.addr
        ∃ t, exec (.pdataWrite data true) s = .next t ∧ Mem.word t.feed a = data
          ∧ t.get F.YARD_PADDR.addr = s.get F.YARD_PADDR.addr + 4
          ∧ ∀ b, b < a ∨ a + 4 ≤ b → Store.get t.feed b = Store.get s.feed b)
    ∧ (s.get F.YARD_PSTAT.state = 4 → 258048 ≤ s.get F.YARD_PADDR.addr →
        ∃ t, exec (.pdataWrite data true) s = .next t ∧ t.get F.YARD_PSTAT.overrun = 1 ∧ t.feed = s.feed
          ∧ t.get F.YARD_PADDR.addr = s.get F.YARD_PADDR.addr)
    ∧ (∀ r w, s.get F.YARD_PSTAT.state = 4 → firstPass s (stagedImage s) true none = some (r, w) →
        ∃ t, exec (.apply true) s = .next t ∧ t.get F.YARD_PSTAT.reason = r % 16 ∧ t.get F.YARD_PWHERE.off = w % 2 ^ 18
          ∧ t.get F.YARD_PSTAT.state = rest ∧ t.yard = { s.yard with load := none } ∧ t.feed = s.feed ∧ t.loft = s.loft)
    ∧ (∀ root, s.get F.YARD_PSTAT.state = 4 → firstPass s (stagedImage s) true none = none → activeRoot s = some root →
        Store.wf s.feed = true → (∀ n ∈ sealLens (stagedImage s), pchRefusal s 2 n = none) →
        let m := stagedImage s
        ∃ t, exec (.apply true) s = .next t ∧ t.get F.YARD_PSTAT.state = 5
          ∧ t.yard.load = some { staged := true, startup := false, ready := true }
          ∧ (∀ k, k < planLen m → Store.get t.feed (0x8_0000 + k) = Store.get (sealImage m root) k)
          ∧ (∀ a, a < 0x8_0000 ∨ 0x8_0000 + planLen m ≤ a → Store.get t.feed a = Store.get s.feed a) ∧ t.loft = s.loft)
    ∧ (s.get F.YARD_PSTAT.state ∈ [4, 5] → ∃ t, exec (.cancel true) s = .next t ∧ t.get F.YARD_PSTAT.reason = 14
        ∧ t.get F.YARD_PSTAT.state = rest ∧ t.yard = { s.yard with load := none } ∧ cleared t ∧ outside t ∧ t.loft = s.loft)

/-- R347, R349 to R351, R481: the strapped source decides what start-up loads; use_loft asks for the region image under the Host
source; a region image that passes every check (SEAL having run) becomes ready, one that fails under use_loft is recorded and the loader waits
again, and at start-up it resets the chip, which then ignores the Loft plan; a held test port keeps the load waiting. -/
def Sys2Proof.Claims.PlanSources : Prop :=
  ∀ (l : PlanLoad) (st : BitVec 4) (s : State),
    let starts := s.get F.YARD_PSTAT.state = 0 ∧ domOn s 2 = true ∧ loftClosed s = false ∧ s.flag F.RNG_STAT.seeded = true
      ∧ (lifeState s ≠ 0 ∨ s.flag F.KEYS_LC.root_fail = true) ∧ s.get F.KEYS_STAT.blocked = 0
    let reads := s.yard.load = some l ∧ l.staged = false ∧ l.ready = false ∧ tapHolds s = false
      ∧ ∃ o, opOf s (.seal 4) = some o ∧ o.ending = none
    let pass := firstPass s (regionImage s) false (regionTag s (regionImage s)).1
    (starts → s.get F.RST_STRAP.src = 0 → s.yard.ignoreLoft = false →
      ∃ t, exec .planLoadStart s = .next t ∧ t.get F.YARD_PSTAT.state = 1
        ∧ t.yard = { s.yard with load := some { staged := false, startup := true } })
    ∧ (starts → (s.get F.RST_STRAP.src ≠ 0 ∧ s.poll.planRan = false) ∨ s.yard.ignoreLoft = true →
      ∃ t, exec .planLoadStart s = .next t ∧ t.get F.YARD_PSTAT.state = 3 ∧ t.yard = s.yard)
    ∧ (domOn s 2 = true → s.get F.YARD_PSTAT.state = 3 → s.get F.RST_STRAP.src = 1 → s.yard.ignoreLoft = false →
      ∃ t, exec (.useLoft true) s = .next t ∧ t.get F.YARD_PSTAT.state = 1
        ∧ t.yard = { s.yard with load := some { staged := false, startup := false } })
    ∧ (domOn s 2 = true → s.get F.RST_STRAP.src ≠ 1 → exec (.useLoft true) s = .next s)
    ∧ (∀ r w, reads → l.startup = false → pass = some (r, w) →
      ∃ t, exec (.planVerifyDone 2) s = .next t ∧ t.get F.YARD_PSTAT.reason = r % 16 ∧ t.get F.YARD_PWHERE.off = w % 2 ^ 18
        ∧ t.yard = { s.yard with load := none } ∧ t.get F.YARD_PSTAT.state = (if s.yard.applied then 2 else 3) ∧ t.loft = s.loft)
    ∧ (∀ r w, reads → l.startup = true → pass = some (r, w) →
      ∃ u, exec (.planVerifyDone 2) s
          = .next ((chipReset u F.RST_CAUSE.plan_fail).modYard fun y => { y with ignoreLoft := true })
        ∧ u.get F.YARD_PSTAT.reason = r % 16 ∧ u.get F.YARD_PWHERE.off = w % 2 ^ 18 ∧ u.loft = s.loft)
    ∧ (reads → pass = none → (regionTag s (regionImage s)).2 = false → activeRoot s ≠ none →
      ∃ t, exec (.planVerifyDone 2) s = .next t ∧ t.yard = { s.yard with load := some { l with ready := true } }
        ∧ t.loft = s.loft)
    ∧ (reads → st = 8 ∨ st = 10 → ∃ t, exec (.planVerifyDone st) s = .next t ∧ t.yard = { s.yard with load := none }
        ∧ t.get F.YARD_PSTAT.state = (if l.startup then 0 else 3) ∧ t.loft = s.loft)
    ∧ (tapHolds s = true → exec (.planVerifyDone st) s = .next s)

/-- A plan is staged, checked and loaded from its strapped source, or its first failure is recorded: `Claims.PlanImports`, `Claims.PlanSources`. -/
def Obligations.PlanLoads : Prop :=
  Sys2Proof.Claims.PlanImports ∧ Sys2Proof.Claims.PlanSources

/-- R350, R352 to R356: a checked plan applies only at a quiet point with the Loft front free, SEAL able to serve and an import not held by the test
port; its stalls, routes and version are
then in force and locked, and a waiting overlay is discarded. A waiting overlay is written at such a point with a valid area
for the running plan and a store commanded; one that names more than plan-valued fields is refused. -/
def Sys2Proof.Claims.PlanApplies : Prop :=
  ∀ (l : PlanLoad) (o : List OvlEntry) (s : State),
    let free := quiet s = true ∧ regionFree s = true
    let m := if l.staged then stagedImage s else regionImage s
    (s.yard.load = some l → quiet s = false ∨ regionFree s = false ∨ l.ready = false
        ∨ (l.staged = true ∧ tapHolds s = true) → exec .planApply s = .next s)
    ∧ (s.yard.load = some l → l.ready = true → free → s.yard.installing = false → s.get F.SYS_GATE_STAT.plan_apply = 0 →
      pchRefusal s 2 1 = none → l.staged = false ∨ tapHolds s = false →
      ∃ t, exec .planApply s = .next t ∧ t.yard.applied = true ∧ t.yard.stalls = descs m
        ∧ (∀ c, sectOf m 0x11 = some c → t.yard.routes = (List.range 15).map fun q => routeOf m (c.off + 64 * q))
        ∧ t.get F.YARD_PVER.version = planVersion m ∧ t.get F.YARD_PLEN.length = planLen m % 2 ^ 18
        ∧ t.get F.YARD_PSTAT.locked = 1 ∧ t.yard.overlay = none
        ∧ (s.yard.overlay ≠ none → t.get F.YARD_OVL.pending = 0))
    ∧ (quiet s = false ∨ regionFree s = false → exec .overlayApply s = .next s)
    ∧ (∀ root, s.yard.overlay = some o → activeRoot s = some root → free → s.yard.load = none → s.yard.applied = true →
      pchRefusal s 2 (12 + 12 * o.length) = none → (∀ p ∈ s.yard.ovlOld, outside p.2 (planMask p.1) = false) →
      ((o.any fun e => outside e.mask (planMask e.addr)) = false → 1 ≤ o.length → o.length ≤ 64 → s.loft.store = none →
        ∃ t, exec .overlayApply s = .next t ∧ t.yard.overlay = none ∧ t.get F.YARD_OVL.count = o.length
          ∧ t.get F.YARD_OVL.pending = 0 ∧ areaValid t root = true ∧ t.loft.store = some {}
          ∧ ∀ a, a < 0x3_F000 → Store.get t.loft.front a = Store.get s.loft.front a)
      ∧ ((o.any fun e => outside e.mask (planMask e.addr)) = true →
        ∃ t, exec .overlayApply s = .next t ∧ t.yard = { s.yard with overlay := none } ∧ t.loft = s.loft
          ∧ (s.get F.HLTH_STAT.farr_step ≠ 0 → t.get F.HLTH_STAT.farr_res = 4)))

/-- R324, R326 to R328, R354: at a quiet point a requested reload stops the stall and holds its zeroed engine in LOADING with the
other engines as they are; the tag of the image, recomputed, releases the engine at the entry with image, data and watchdog,
or leaves it IDLE with fault ECC, which for an essential stall resets the chip; a blocked SEAL channel defers the install.
60 s without a fault clear the restart count. -/
def Sys2Proof.Claims.StallInstalls : Prop :=
  ∀ (e : Fin 8) (st : BitVec 4) (i : Install) (d : StallDesc) (s : State),
    let q := s.get (F.GROOM_STAT.stall e)
    let m := regionImage s
    let runs := (s.yard.installs.find? fun i => i.running && i.engine == e.val) = some i ∧ stallDesc s i.stall = some d
      ∧ s.yard.installing = false ∧ s.sess.trigs = [] ∧ d.index < 15
      ∧ ∃ o, opOf s (.seal (8 + e)) = some o ∧ o.ending = none
    let tagOk := ∃ root, activeRoot s = some root ∧ itagOf m root d = d.itag
    (s.get (F.GROOM_STAT.state e) ∈ [2, 3] → ∃ t, exec (.restartClear e) s = .next t
      ∧ t.get (F.GROOM_STAT.restarts e) = 0 ∧ t.eng = s.eng)
    ∧ (quiet s = false → exec (.stallRestart e) s = .next s)
    ∧ (quiet s = true → s.yard.applied = true → s.yard.load = none → s.get F.SYS_GATE_STAT.plan_apply = 0 →
      s.get F.KEYS_STAT.blocked = 0 → s.yard.installs = [] → q ≠ 15 → s.get (F.GROOM_STAT.reload_pend e) = 1 →
      ∃ t, exec (.stallRestart e) s = .next t ∧ t.get (F.GROOM_STAT.state e) = 1 ∧ t.get (F.GROOM_STAT.stall e) = q
        ∧ t.get (F.GROOM_STAT.restarts e) = s.get (F.GROOM_STAT.restarts e) ∧ t.get (F.GROOM_STAT.reload_pend e) = 0
        ∧ t.get F.SYS_GATE_STAT.plan_apply = 1 ∧ t.engine e = {}
        ∧ t.yard.installs = [{ stall := q, engine := e, from_ := some e.val, running := true }]
        ∧ (s.loft.due = none → ∀ g, t.loft.gather = some g → g.owner ≠ e.val + 1)
        ∧ ∀ f : Fin 8, f ≠ e → t.get (F.GROOM_STAT.state f) = s.get (F.GROOM_STAT.state f)
            ∧ (t.engine f).pc = (s.engine f).pc ∧ (t.engine f).x = (s.engine f).x ∧ (t.engine f).dmem = (s.engine f).dmem)
    ∧ (runs → tagOk → e.val < s.eng.length → ∃ t, exec (.stallInstallDone e 2) s = .next t
      ∧ t.get (F.GROOM_STAT.state e) = 2 ∧ t.get (F.GROOM_WD.left e) = (if d.wd = 0 then 100 else d.wd) % 1024
      ∧ t.engine e = { x := [(14, 0x1000_2000)], pc := BitVec.ofNat 32 d.entry, imem := Store.window m d.imgOff d.imgLen
                       dmem := Store.window m d.datOff d.datLen }
      ∧ t.get (F.YARD_STALL.engine d.index) = e.val ∧ t.get F.SYS_GATE_STAT.plan_apply = 0)
    ∧ (runs → ¬ tagOk ∨ st.toNat ∉ [2, 8, 10] → d.essential = false → st ≠ 8 → st ≠ 10 →
      ∃ t, exec (.stallInstallDone e st) s = .next t ∧ t.get (F.GROOM_STAT.state e) = 0 ∧ t.get (F.GROOM_STAT.stall e) = 15
        ∧ t.get (F.GROOM_STAT.fault e) = 5 ∧ t.get F.HLTH_EVT.groom = 1 ∧ t.engine e = {}
        ∧ t.get F.SYS_GATE_STAT.plan_apply = 0)
    ∧ (runs → ¬ tagOk → d.essential = true → i.startup = false → ∃ u, exec (.stallInstallDone e 2) s
        = .next (chipReset u F.RST_CAUSE.plan_fail) ∧ u.get F.YARD_PSTAT.reason = 12 ∧ u.loft = s.loft)
    ∧ (runs → ∃ t, exec (.stallInstallDone e 8) s = .next t ∧ t.get (F.GROOM_STAT.state e) = 0
      ∧ { i with running := false, deferred := true } ∈ t.yard.installs ∧ t.get F.YARD_PSTAT.deferred = 1 ∧ t.engine e = {})

/-- A checked plan and a waiting overlay apply at a quiet point; a stall is released only under its image tag: `Claims.PlanApplies`, `Claims.StallInstalls`. -/
def Obligations.PlanApplies : Prop :=
  Sys2Proof.Claims.PlanApplies ∧ Sys2Proof.Claims.StallInstalls

/-! LF field synthesis (03). -/

namespace Sys2Proof.Claims

/-- The code aerial `n` is asked for in vector `v` under compensation `vc` and grant scale `gs`, before the fit (R75). -/
def asked (s : State) (v vc gs n : Nat) : Nat :=
  ((if s.flag (F.LF_AER_CFG.installed n) then s.get (F.LF_VEC.amp v n) * s.get (F.LF_AER_CFG.gain n) else 0)
    * vc / 16384 * gs / 32768 + 64) / 128

/-- The compensation factor at a measured VDRV (R75). -/
def comp (s : State) (vdrv : Nat) : Nat :=
  let vref := if s.get F.LF_KEY_CFG.vref = 0 then 150 else s.get F.LF_KEY_CFG.vref
  if s.get F.LF_KEY_CFG.vcomp = 0 then 16384
  else if vref ≤ 3 * vdrv ∧ 0 < vdrv then vref * 16384 / vdrv else 49152

/-- The grant scale of requester 0 (R88). -/
def scale (s : State) : Nat :=
  if s.get (F.PWR_REQ.grant 0) < s.get (F.PWR_REQ.req 0) then s.get (F.PWR_REQ.grant 0) * 32768 / s.get (F.PWR_REQ.req 0)
  else 32768

/-- Vector `v` is what the aerials drive under factor `vc` and scale `gs`: fitted to 255, none from an aerial that may not drive
(R70, R75, R76). -/
def Fitted (s : State) (v vc gs : Nat) : Prop :=
  let y := asked s v vc gs
  let m := ((List.range 12).map y).foldl max 0
  ∀ n, n < 12 → s.lf.aEff.getD n 0 = (if aerUp s n = false then 0 else if m ≤ 255 then y n else (y n * 255 + m / 2) / m)
    ∧ s.lf.pEff.getD n 0 = (s.get (F.LF_VEC.phase v n) + s.get (F.LF_AER_CFG.trim n)) % 1024

/-- Vector `v` is what the aerials drive at a measured VDRV, under requester 0's grant. -/
def Drives (s : State) (v vdrv : Nat) : Prop := Fitted s v (comp s vdrv) (scale s)

/-- No aerial drives. -/
def Silent (s : State) : Prop := ∀ n, s.lf.aEff.getD n 0 = 0

/-- A strobe is captured on channel 5, as its correction table makes it (R84, R124, R125). -/
def Strobed (s : State) (n : Nat) (ts : Stmp) : Prop :=
  s.get (F.UWB_STRB_W0.ts_lo n) = (capture s 5 ts).toNat % 2 ^ 32 ∧ s.get (F.UWB_STRB_W4.ts_hi n) = (capture s 5 ts).toNat / 2 ^ 32
    ∧ s.get (F.UWB_STRB_W4.valid n) = 1

/-- LF work has ended with a code and the synthesiser is free. -/
def LfEnded (s : State) (code : Nat) : Prop := s.get F.LF_TXN_STAT.code = code ∧ s.get F.LF_STAT.owner = 0 ∧ s.lf.stage = .idle

end Sys2Proof.Claims

/-- R76: whichever unit latches a vector of the store, WAKE, a pattern, the CHALLENGE, a burst's preface with PD_CORE on or calibration's
envelope step, the effective phase of every aerial is the vector's phase code plus the trim of LF_AER_CFGn, modulo 1024. -/
def Obligations.EffectivePhase : Prop :=
  ∀ (vdrv amp : BitVec 8) (ph : BitVec 10) (env : BitVec 16) (ts : Stmp) (n : Nat) (s : State), n < 12 →
    let owner := s.get F.LF_STAT.owner
    let phased := fun (t : State) (v : Nat) =>
      t.lf.pEff.getD n 0 = (s.get (F.LF_VEC.phase v n) + s.get (F.LF_AER_CFG.trim n)) % 1024
    (owner = 1 → s.lf.stage = .wait → s.get (F.PWR_REQ.state 0) = 2 → s.lf.gap = false → s.get F.UWB_STAT.ts_ready = 1 →
      s.txn.pres = none → txnDomainsUp s s.lf.base s.lf.npat = true →
      ∃ t, exec (.wakeStart vdrv) s = .next t ∧ phased t (s.get F.LF_FRAME_VEC.wake_vec))
    ∧ (owner = 1 → s.lf.stage = .sweep → s.lf.nextJ < s.lf.k → s.lf.nextJ < s.lf.npat → s.lf.sweepCut = false →
      s.lf.unitOver = false → s.lf.cut = none → s.lf.noChal = false →
      ∃ t, exec (.patternLatch ts vdrv) s = .next t ∧ phased t (s.lf.base + s.lf.nextJ))
    ∧ (owner = 1 → s.lf.stage = .sweep → s.lf.nextJ = s.lf.k → s.txn.ackEnd = true → s.lf.unitOver = false → s.lf.cut = none →
      s.lf.noChal = false → s.lf.sweepCut = false → s.get F.VERD_STAT.ready = 1 →
      ∃ t, exec (.challengePreface vdrv) s = .next t ∧ phased t (s.get F.LF_FRAME_VEC.chal_vec))
    ∧ (s.poll.burst = .due → burstReady s = true → domOn s 2 = true →
      ∃ t, exec (.burstWakePStart vdrv) s = .next t ∧ phased t (s.get F.LF_FRAME_VEC.poll_vec))
    ∧ (owner = 3 → s.lf.stage = .calStep → s.lf.calMask = 2 ^ s.lf.calAer → s.lf.unitOver = false → s.lf.cut = none →
      ∃ t, exec (.calStepEnd amp ph env) s = .next t ∧ t.lf.stage = .calEnv ∧ phased t (s.get F.LF_FRAME_VEC.chal_vec))

/-- R79, R80, R262: LF_TXN.start is refused in RETIRED, for kind 3, with syn_en 0, while transaction or hitching work runs or a
start waits already, and for a sweep outside the store; while records of an earlier transaction are still to come it follows them;
otherwise the transaction opens and takes the idle synthesiser, or one where calibration still waits, or waits for a burst or a
calibration, which then ends at its aerial's end. -/
def Sys2Proof.Claims.LfTransactionStarts : Prop :=
  ∀ (kind sweep : BitVec 2) (s : State), domOn s 1 = true →
    let n := s.get (F.LF_SWEEP_DEF.npat sweep.toNat)
    let b := s.get (F.LF_SWEEP_DEF.base sweep.toNat)
    let bad := lifeState s = 4 ∨ kind = 3 ∨ s.get F.LF_CTRL.syn_en = 0 ∨ s.get F.LF_STAT.owner = 1 ∨ s.get F.LF_STAT.owner = 4
      ∨ s.lf.txnWait = true ∨ s.lf.next ≠ none ∨ n = 0 ∨ 32 < n ∨ 64 < b + n
    let opens := fun (t : State) => t.txn = { open_ := true, kind := kind.toNat } ∧ t.get F.SESS_STAT.txn_open = 1
      ∧ t.get F.VERD_STAT.open_ = 1 ∧ t.get F.LF_TXN.kind = kind.toNat ∧ t.get F.LF_TXN.sweep_sel = sweep.toNat
    let takes := fun (t : State) => t.get F.LF_STAT.owner = 1 ∧ t.get F.LF_STAT.busy = 1 ∧ t.get F.LF_TXN_STAT.code = 1
      ∧ t.lf.stage = .wait ∧ t.lf.base = b ∧ t.lf.npat = n ∧ t.get (F.PWR_REQ.state 0) ≠ 0
    (bad → ∃ t, exec (.txnStart kind sweep) s = .next t ∧ t.get F.LF_STAT.txn_refused = 1 ∧ t.txn = s.txn ∧ t.lf = s.lf
      ∧ t.man = s.man ∧ t.get F.LF_STAT.owner = s.get F.LF_STAT.owner)
    ∧ (¬ bad → s.txn.open_ = true → ∃ t, exec (.txnStart kind sweep) s = .next t ∧ t.txn = s.txn
      ∧ t.lf.next = some { kind := kind.toNat } ∧ t.get F.SESS_STAT.txn_open = 1)
    ∧ (¬ bad → s.txn.open_ = false → s.get F.LF_STAT.owner = 0 ∨ (s.get F.LF_STAT.owner = 3 ∧ s.lf.stage = .wait) →
      ∃ t, exec (.txnStart kind sweep) s = .next t ∧ opens t ∧ takes t)
    ∧ (¬ bad → s.txn.open_ = false → s.get F.LF_STAT.owner = 2 ∨ (s.get F.LF_STAT.owner = 3 ∧ s.lf.stage ≠ .wait) →
      ∃ t, exec (.txnStart kind sweep) s = .next t ∧ opens t ∧ t.lf.txnWait = true
      ∧ t.get F.LF_STAT.owner = s.get F.LF_STAT.owner ∧ (s.get F.LF_STAT.owner = 3 → t.lf.cut = some 9))

/-- R45, R80, R84, R87, R147, R204, R483: WAKE begins once the grant is held, the gap is over, ts_ready is 1 and nothing is to be
checked first; it clears what the transaction before left, takes the seed and mnonce; at its end the strobe is captured and
the sweep begins. -/
def Sys2Proof.Claims.LfWake : Prop :=
  ∀ (vdrv : BitVec 8) (ts : Stmp) (meas : List AerMeas) (s : State), s.get F.LF_STAT.owner = 1 →
    (s.lf.gap = true ∨ s.get F.UWB_STAT.ts_ready = 0 ∨ s.txn.pres ≠ none ∨ s.get (F.PWR_REQ.state 0) ≠ 2 →
      exec (.wakeStart vdrv) s = .next s)
    ∧ (s.lf.stage = .wait → s.get (F.PWR_REQ.state 0) = 2 → s.lf.gap = false → s.get F.UWB_STAT.ts_ready = 1 → s.txn.pres = none →
      txnDomainsUp s s.lf.base s.lf.npat = true → ∃ t, exec (.wakeStart vdrv) s = .next t ∧ t.lf.stage = .wake ∧ t.lf.gap = true
      ∧ t.lf.w = 64 * s.txn.kind + 16 * s.get F.LF_TXN.seed + s.get F.LF_TXN.wake_code
      ∧ t.get F.LF_TXN.seed = (s.get F.LF_TXN.seed + 1) % 4 ∧ Drives t (s.get F.LF_FRAME_VEC.wake_vec) vdrv.toNat
      ∧ t.lf.frame = [BitVec.ofNat 8 t.lf.w] ∧ t.txn.woke = true ∧ t.txn.slots = List.replicate 8 {} ∧ t.uwb.sts = List.replicate 8 [] ∧ t.solv.queue = []
      ∧ (∀ j, j < 32 → t.word (F.LF_PAT_REC.cut j).addr = 0)
      ∧ (∀ i, i < 8 → t.get (F.UWB_REC_W0.rstat i) = 0 ∧ t.get (F.SOLV_FIX_W0.fstat i) = 0 ∧ t.get (F.VERD_REC_W0.code i) = 0)
      ∧ (∀ e, e < 24 → t.get (F.UHF_REC_W0.status e) = 0 ∧ ∀ k, k < 128 → Store.get t.uhf.quar (128 * e + k) = 0)
      ∧ (∀ r, s.sess.cur = some r → r.kind = 1 → t.get (F.SESS_MNONCE.nonce 0) = 0 ∧ t.get (F.SESS_MNONCE.nonce 1) = 0
        ∧ t.sess.cur = some { r with
          mnonce := s.get (F.SESS_MNONCE.nonce 0) + 2 ^ 32 * s.get (F.SESS_MNONCE.nonce 1) }))
    ∧ (s.lf.stage = .wake → s.lf.unitOver = false → s.lf.cut = none → ∃ t, exec (.wakeEnd ts meas) s = .next t
      ∧ t.lf.stage = .sweep ∧ t.txn.wakeEnd = true ∧ Silent t ∧ (domOn s 7 = true → Strobed t 0 ts))

/-- A transaction start is refused or opens the transaction, and WAKE begins and ends its frame: `Claims.LfTransactionStarts`, `Claims.LfWake`. -/
def Obligations.LfTransactions : Prop :=
  Sys2Proof.Claims.LfTransactionStarts ∧ Sys2Proof.Claims.LfWake

/-- R74 to R76, R80, R82, R84, R89, R97: a pattern period drives its vector, or nothing in an idle one; its end writes its record
and the next period follows; overdraw, an abort and the lack of a challenge end the work at a boundary (which no start that waits then follows). -/
def Obligations.LfSweep : Prop :=
  ∀ (vdrv : BitVec 8) (ts : Stmp) (meas : List AerMeas) (s : State), s.get F.LF_STAT.owner = 1 → s.lf.unitOver = false →
    let j := s.lf.nextJ
    (s.lf.stage = .sweep → j < s.lf.k → s.lf.cut = none → s.lf.noChal = false → ∃ t, exec (.patternLatch ts vdrv) s = .next t
      ∧ t.lf.stage = .pattern ∧ t.get F.LF_TXN_STAT.j = j % 128 ∧ (j = 0 → domOn s 7 = true → Strobed t 1 ts)
      ∧ (j < s.lf.npat → s.lf.sweepCut = false → Drives t (s.lf.base + j) vdrv.toNat)
      ∧ (s.lf.npat ≤ j ∨ s.lf.sweepCut = true → Silent t))
    ∧ (s.lf.stage = .pattern → s.lf.cut = none → s.lf.noChal = false → ∃ t, exec (.patternGap meas) s = .next t
      ∧ t.lf.stage = .sweep ∧ t.lf.nextJ = j + 1 ∧ Silent t
      ∧ (j < 32 → s.lf.npat ≤ j → t.get (F.LF_PAT_REC.idle j) = 1)
      ∧ (j < 32 → j < s.lf.npat → s.lf.sweepCut = false → t.get (F.LF_PAT_REC.idle j) = 0 ∧ t.get (F.LF_PAT_REC.cut j) = 0
        ∧ t.get (F.LF_PAT_REC.trimmed j) = (if s.lf.unitTMin < 16 then 1 else 0)
        ∧ ∀ (n : Nat) (m : AerMeas), n < 12 → meas[n]? = some m → s.get (F.LF_AER_CFG.installed n) = 1 →
          t.get (F.LF_IMEAS.amp j n) = m.amp.toNat ∧ t.get (F.LF_IMEAS.phase j n) = m.phase.toNat))
    ∧ (s.lf.gap = true → s.lf.txnWait = false → s.lf.next = none → s.lf.stage = .sweep → j < s.lf.k →
      (s.lf.cut = some 9 → ∃ t, exec (.patternLatch ts vdrv) s = .next t ∧ LfEnded t 9 ∧ Silent t)
      ∧ (s.lf.cut = none → s.lf.noChal = true → ∃ t, exec (.patternLatch ts vdrv) s = .next t ∧ LfEnded t 6 ∧ Silent t)
      ∧ ∃ t, exec (.patternLatch ts vdrv) { s with lf := { s.lf with unitOver := true } } = .next t ∧ LfEnded t 10
        ∧ t.get F.LF_TRIM.overdraw = 1)

/-- R46, R47, R56, R82 to R86, R126, R144, R181: at the end of the ACK phase ranging asks for its grant, or the transaction ends
NO_TRACK; the CHALLENGE goes out only with every tracked slot ready, else the work ends NOT_READY and C stays loaded; T_CB and T_END
are captured, and T_END ends the work. -/
def Obligations.LfChallenge : Prop :=
  ∀ (vdrv : BitVec 8) (ts : Stmp) (env : BitVec 16) (meas : List AerMeas) (s : State),
    let alone := s.lf.gap = true ∧ s.lf.txnWait = false ∧ s.lf.next = none
    let tracked := s.txn.slots.any (·.tracked)
    let acks := s.txn.open_ = true ∧ s.txn.hp = false ∧ s.txn.wakeEnd = true ∧ s.txn.ackEnd = false ∧ s.txn.lfOver = false
      ∧ ∀ i, i < 8 → s.get (F.UHF_REC_W0.qstate i) ≠ 2
    let preface := s.lf.stage = .sweep ∧ s.get F.LF_STAT.owner = 1 ∧ s.lf.nextJ = s.lf.k ∧ s.txn.ackEnd = true
      ∧ s.lf.unitOver = false ∧ s.lf.cut = none ∧ s.lf.noChal = false ∧ s.lf.sweepCut = false
    (acks → tracked = true → s.txn.tsLost = false → s.uwb.later = none → s.get F.UWB_CTRL.rf_en = 1 →
      ∃ t, exec .ackPhaseEnd s = .next t ∧ t.txn = { s.txn with ackEnd := true } ∧ t.get (F.PWR_REQ.state 3) ≠ 0
        ∧ t.get (F.PWR_REQ.req 3) = s.get F.UWB_RNG_COST.cost)
    ∧ (alone → acks → tracked = false → s.get F.RST_BLOCK.verd = 0 → ∃ t, exec .ackPhaseEnd s = .next t ∧ t.txn.open_ = false ∧ t.lf.noChal = true
        ∧ t.get F.VERD_STAT.last_code = 0 ∧ t.get F.VERD_STAT.last_cause = 4)
    ∧ (preface → s.get F.VERD_STAT.ready = 1 → ∃ t, exec (.challengePreface vdrv) s = .next t ∧ t.lf.stage = .frame
        ∧ t.get F.LF_TXN_STAT.chal_sent = 1 ∧ t.lf.cLoaded = false ∧ t.lf.cLatched = natBe (chalBytes s)
        ∧ t.lf.frame = chalBytes s ∧ Drives t (s.get F.LF_FRAME_VEC.chal_vec) vdrv.toNat)
    ∧ (alone → preface → s.get F.VERD_STAT.ready = 0 → ∃ t, exec (.challengePreface vdrv) s = .next t ∧ LfEnded t 7
        ∧ t.lf.cLoaded = s.lf.cLoaded ∧ t.txn.open_ = false)
    ∧ (s.lf.stage = .frame → s.get F.LF_STAT.owner = 1 → domOn s 7 = true → ∃ t, exec (.tCb ts) s = .next t ∧ Strobed t 2 ts
        ∧ t.lf = s.lf ∧ t.txn = s.txn)
    ∧ (alone → s.lf.stage = .frame → s.get F.LF_STAT.owner = 1 → s.lf.unitOver = false → s.lf.cut = none → s.lf.sweepCut = false →
      s.lf.unitLost = false → ∃ t, exec (.tEnd ts env meas) s = .next t ∧ LfEnded t 2 ∧ Silent t
        ∧ t.get F.LF_TENV.chal_env = (if env.toNat = 0xFFFF then s.get F.LF_TENV.chal_env else env.toNat)
        ∧ (s.txn.open_ = true → t.txn.tEnd = true) ∧ (domOn s 7 = true → Strobed t 3 ts))
    ∧ (alone → s.lf.stage = .frame → s.get F.LF_STAT.owner = 1 → s.lf.unitLost = true → s.txn.hp = false →
      ∃ t, exec (.tEnd ts env meas) s = .next t ∧ LfEnded t 4)

/-- R83, R97, R180, LF_TRIM: LF_CHAL3 loads C, and a write to a loaded C before the preface restarts every slot's precomputation; a disable ends a sweep
SWEEP_CUT and a frame FRAME_CUT, and an abort ends either ABORTED, at the boundary; an abort that meets the last end is late;
the fault flags clear by writing 1 and t_min by its read. -/
def Sys2Proof.Claims.LfControls : Prop :=
  ∀ (n : Fin 4) (data : Word) (b : Bank) (s : State), domOn s 1 = true →
    let sweeping := s.lf.stage = .sweep ∨ s.lf.stage = .pattern
    let framing := s.lf.stage = .wake ∨ s.lf.stage = .frame
    let disables := [(Instr.synEnWrite false, F.LF_CTRL.syn_en), (.bankEnWrite b false, bankEn b)]
    (∃ t, exec (.lfChalWrite n data) s = .next t ∧ t.word (F.LF_CHAL.c0 n).addr = data
      ∧ t.lf.cLoaded = (s.lf.cLoaded || n == 3)
      ∧ (s.lf.cLoaded = true → s.txn.preface = false → pendSlots s ≠ [] → t.get F.VERD_STAT.chal_restart = 1
        ∧ t.get F.VERD_STAT.ready = 0 ∧ ∀ q ∈ t.txn.slots, q.ready = false ∧ q.expect = [])
      ∧ (s.lf.cLoaded = false ∨ s.txn.preface = true → t.txn.slots.map (fun q => (q.ready, q.expect))
        = s.txn.slots.map (fun q => (q.ready, q.expect))))
    ∧ (∀ p ∈ disables, s.get p.2 = 1 → s.lf.txnWait = false → s.lf.cut ≠ some 9 → ∃ t, exec p.1 s = .next t ∧ t.get p.2 = 0
      ∧ (sweeping → t.lf = { s.lf with cut := some 3 }) ∧ (framing → t.lf = { s.lf with cut := some 4 })
      ∧ (s.lf.stage = .idle → t.lf = { s.lf with txnWait := false }))
    ∧ (∃ t, exec (.synEnWrite true) s = .next t ∧ t.get F.LF_CTRL.syn_en = 1 ∧ t.lf = s.lf)
    ∧ (∃ t, exec (.bankEnWrite b true) s = .next t ∧ t.get (bankEn b) = 1 ∧ t.lf = s.lf)
    ∧ (sweeping ∨ framing → ∃ t, exec (.lfAbort false) s = .next t ∧ t.lf = { s.lf with cut := some 9 } ∧ t.regs = s.regs)
    ∧ (s.lf.stage = .idle → exec (.lfAbort false) s = .next s)
    ∧ (s.get F.LF_TXN_STAT.code = 2 → ∃ t, exec (.lfAbort true) s = .next t ∧ t.get F.LF_TXN_STAT.abort_late = 1
      ∧ t.get F.LF_TXN_STAT.code = 2 ∧ t.lf = s.lf)
    ∧ (∃ t, exec (.lfFaultClear data) s = .next t
      ∧ t.word F.LF_FAULT.short.addr = s.word F.LF_FAULT.short.addr &&& ~~~data
      ∧ t.get F.LF_STAT.fault = (if s.word F.LF_FAULT.short.addr &&& ~~~data = 0 then 0 else 1) ∧ t.lf = s.lf)
    ∧ (∃ t, exec .lfTrimRead s = .next t ∧ t.get F.LF_TRIM.t_min = s.get F.LF_TRIM.t ∧ t.get F.LF_TRIM.t = s.get F.LF_TRIM.t)

/-- R70, R89, R90, R97, R447: an over-current silences its aerial alone and is flagged; a hot bank stops at once; a warm one cuts
the work at its boundary and a cool one is accepted again; VDRV outside its limits ends the work VDRV_FAULT; a carrier period
above the grant lowers t by 1 down to 4, where it marks the unit. What stops a drive in progress is reported. -/
def Sys2Proof.Claims.LfProtection : Prop :=
  ∀ (n : Fin 12) (b : Bank) (temp v : BitVec 8) (units : BitVec 10) (s : State),
    let mine := fun (m : Nat) => match b with | .lfa => decide (m < 6) | .lfb => decide (6 ≤ m)
    let working := s.get F.LF_STAT.owner = 1 ∧ (s.lf.stage = .wake ∨ s.lf.stage = .pattern ∨ s.lf.stage = .frame)
    (s.get (F.LF_AER_CFG.installed n) = 0 → exec (.overCurrent n) s = .next s)
    ∧ (s.get (F.LF_AER_CFG.installed n) = 1 → ∃ t, exec (.overCurrent n) s = .next t ∧ t.bitAt F.LF_FAULT.short n = true
      ∧ t.get F.LF_STAT.fault = 1 ∧ t.lf.aEff.getD n 0 = 0 ∧ (∀ m, m ≠ n.val → t.lf.aEff.getD m 0 = s.lf.aEff.getD m 0)
      ∧ t.lf.stage = s.lf.stage ∧ t.lf.cut = s.lf.cut ∧ (working → t.get F.HLTH_EVT.lf = 1))
    ∧ (s.lf.stage ≠ .wait → ∃ t, exec (.bankHot b temp) s = .next t ∧ t.get (hotFld b) = 1 ∧ t.get (tempFld b) = temp.toNat
      ∧ (working → (∀ m, t.lf.aEff.getD m 0 = if mine m then 0 else s.lf.aEff.getD m 0) ∧ t.get F.HLTH_EVT.lf = 1))
    ∧ (s.lf.stage ≠ .wait → ∃ t, exec (.bankWarm b temp) s = .next t ∧ t.get (warmFld b) = 1 ∧ t.get (tempFld b) = temp.toNat
      ∧ (s.lf.stage = .pattern → s.lf.cut = none → t.lf = { s.lf with cut := some 3 })
      ∧ (s.lf.stage = .frame → s.lf.cut = none → t.lf = { s.lf with cut := some 4 }))
    ∧ (∃ t, exec (.bankCool b temp) s = .next t ∧ t.get (warmFld b) = 0 ∧ t.get (tempFld b) = temp.toNat
      ∧ t.get (hotFld b) = s.get (hotFld b) ∧ t.lf = s.lf)
    ∧ (∀ p ∈ [(Instr.vdrvLow v, F.LF_FAULT.vdrv_uv), (.vdrvHigh v, F.LF_FAULT.vdrv_ov)],
      working → s.lf.gap = true → s.lf.txnWait = false → s.lf.next = none → ∃ t, exec p.1 s = .next t ∧ t.get p.2 = 1
        ∧ t.get F.LF_STAT.vdrv_ok = 0 ∧ t.get F.LF_VDRV.vdrv = v.toNat ∧ LfEnded t 8 ∧ Silent t ∧ t.get F.HLTH_EVT.lf = 1)
    ∧ (∃ t, exec (.vdrvOk v) s = .next t ∧ t.get F.LF_STAT.vdrv_ok = 1 ∧ t.get F.LF_VDRV.vdrv = v.toNat
      ∧ t.lf = { s.lf with vdrvBad := false })
    ∧ (working → s.get (F.PWR_REQ.grant 0) < units.toNat → ∃ t, exec (.trimPeriod units) s = .next t
      ∧ t.get F.LF_TRIM.t = max 4 (s.get F.LF_TRIM.t - 1) ∧ t.lf.unitQuiet = false
      ∧ t.lf.unitOver = decide (s.get F.LF_TRIM.t = 4) ∧ t.lf.unitTMin = min s.lf.unitTMin (max 4 (s.get F.LF_TRIM.t - 1)))
    ∧ (working → units.toNat ≤ s.get (F.PWR_REQ.grant 0) → ∃ t, exec (.trimPeriod units) s = .next t
      ∧ t.get F.LF_TRIM.t = s.get F.LF_TRIM.t ∧ t.lf.unitOver = false)

/-- The LF enables, aborts and protections cut the work in progress where the rules say: `Claims.LfControls`, `Claims.LfProtection`. -/
def Obligations.LfControlsAndProtection : Prop :=
  Sys2Proof.Claims.LfControls ∧ Sys2Proof.Claims.LfProtection

/-- R79, R86, R93: calibration is refused while the synthesiser has an owner; it drives the installed aerials of its mask alone,
lowest first, one result a step, then the envelope step, which ends it; a cut ends it after its aerial. -/
def Obligations.LfCalibration : Prop :=
  ∀ (amp : BitVec 8) (phase : BitVec 10) (env : BitVec 16) (s : State), s.lf.txnWait = false →
    let n := s.lf.calAer
    let left := clrBit s.lf.calMask n
    (domOn s 1 = true → s.get F.LF_STAT.owner ≠ 0 → ∃ t, exec .calStart s = .next t
      ∧ t.get F.LF_STAT.cal_refused = 1 ∧ t.lf = s.lf ∧ t.man = s.man)
    ∧ (domOn s 1 = true → s.get F.LF_STAT.owner = 0 → ∃ t, exec .calStart s = .next t
      ∧ t.get F.LF_STAT.owner = 3 ∧ t.get F.LF_TXN_STAT.code = 1 ∧ t.get F.LF_CAL_CTRL.cal_done = 0
      ∧ (t.lf.stage = .wait ∨ t.lf.stage = .calStep ∨ t.lf.stage = .calEnv)
      ∧ (∀ n, n < 12 → bit t.lf.calMask n = (s.bitAt F.LF_CAL_CTRL.mask n && s.flag (F.LF_AER_CFG.installed n)))
      ∧ t.get (F.PWR_REQ.state 2) ≠ 0 ∧ t.get (F.PWR_REQ.req 2) = s.get F.LF_CAL_CTRL.cal_cost)
    ∧ (s.get F.LF_STAT.owner = 3 → s.lf.stage = .calStep → n < 12 → s.lf.unitOver = false →
      ∃ t, exec (.calStepEnd amp phase env) s = .next t
      ∧ t.get (F.LF_CAL_RES.i_amp n) = amp.toNat ∧ t.get (F.LF_CAL_RES.i_phase n) = phase.toNat
      ∧ t.get (F.LF_CAL_RES.valid n) = 1
      ∧ (∀ m, s.lf.cut = none → lowestSet left 12 = some m → t.lf.stage = .calStep ∧ t.lf.calAer = m ∧ t.lf.calMask = left
        ∧ t.get F.LF_STAT.owner = 3 ∧ ∀ i, i ≠ m → t.lf.aEff.getD i 0 = 0)
      ∧ (s.lf.cut = none → lowestSet left 12 = none → t.lf.stage = .calEnv ∧ t.get F.LF_STAT.owner = 3)
      ∧ (s.lf.cut = some 9 → LfEnded t 9 ∧ Silent t ∧ t.get F.LF_CAL_CTRL.cal_cut = 1))
    ∧ (s.get F.LF_STAT.owner = 3 → s.lf.stage = .calEnv → s.lf.unitOver = false → s.lf.cut = none →
      ∃ t, exec (.calStepEnd amp phase env) s = .next t ∧ LfEnded t 2 ∧ Silent t ∧ t.get F.LF_CAL_CTRL.cal_done = 1
      ∧ t.get F.LF_TENV.chal_env = (if s.lf.envDone then s.get F.LF_TENV.chal_env else env.toNat))

/-- R66 to R68, R79, R95, R96, R110, R198: a tagged start opens the exchange, whose carrier drives its aerial alone; HP_REQ goes out
once every admitted index has its expected reply, else the exchange ends NOT_READY; the reply starts with the first two periods in
a row off the mean of the 64 before T_HP by more than the threshold; it passes by its bytes, each bit the half-bit with the load
first, and its start between 124 and 132 periods, an earlier one is EARLY, a wrong one WRONG, and none is NO_FRAME. -/
def Obligations.HitchingPost : Prop :=
  ∀ (vdrv : BitVec 8) (amps : List (BitVec 16)) (ts : Stmp) (meas : List AerMeas) (mean : BitVec 16)
    (halves : List (BitVec 16 × BitVec 16)) (fr : List Byte) (s : State),
    s.lf.txnWait = false → s.lf.next = none → s.sess.trigs = [] → s.lf.unitOver = false → s.lf.cut = none →
    s.get F.RST_BLOCK.verd = 0 →
    let thr := 8 * (if s.get F.LF_HP_CFG.hp_thr = 0 then 1 else s.get F.LF_HP_CFG.hp_thr)
    let far := fun (i : Nat) => s.lf.hpMean + thr < (amps.getD i 0).toNat ∨ (amps.getD i 0).toNat + thr < s.lf.hpMean
    let starts := fun (i : Nat) => i + 1 < amps.length ∧ far i ∧ far (i + 1)
    let first := fun (i : Nat) => (halves.getD i (0, 0)).1.toNat
    let second := fun (i : Nat) => (halves.getD i (0, 0)).2.toNat
    let carries := fr.length = 16 ∧ ∀ i, i < 128 → first i ≠ second i ∧ ((fr.getD (i / 8) 0).getLsbD (7 - i % 8) = true
      ↔ if s.lf.hpLow then first i < second i else second i < first i)
    let body := (fr.drop 1).take 15
    let idx := (fr.getD 1 0).toNat / 16
    let sound := crc16 (body.take 13) = natBe (body.drop 13) ∧ (fr.getD 1 0).toNat / 4 % 4 = 0
    let at_ := s.get F.LF_HP_STAT.start_per
    let bank := if 6 ≤ s.get F.LF_HP_CFG.hp_aer then F.LF_CTRL.lfb_en else F.LF_CTRL.lfa_en
    let refused := s.get F.LF_STAT.owner ≠ 0 ∨ 12 ≤ s.get F.LF_HP_CFG.hp_aer ∨ s.get F.LF_CTRL.syn_en = 0 ∨ s.get bank = 0
      ∨ s.get (F.LF_AER_CFG.installed (s.get F.LF_HP_CFG.hp_aer)) = 0
    let endsAs := fun (t : State) (code cause : Nat) => t.get F.VERD_LAST_W0.code = code ∧ t.get F.VERD_LAST_W0.cause = cause
      ∧ t.get F.VERD_LAST_W0.hp = 1 ∧ t.get F.LF_HP_STAT.done = 1 ∧ t.txn.open_ = false ∧ t.get F.LF_STAT.owner = 0 ∧ Silent t
    (exec (.hpStart false) s = .next s)
    ∧ (domOn s 1 = true → refused → ∃ t, exec (.hpStart true) s = .next t ∧ t.get F.LF_STAT.hp_refused = 1 ∧ t.txn = s.txn
        ∧ t.lf = s.lf)
    ∧ (domOn s 1 = true → ¬ refused → s.txn.open_ = true → ∃ t, exec (.hpStart true) s = .next t ∧ t.txn = s.txn
        ∧ t.lf = { s.lf with next := some { hp := true } })
    ∧ (domOn s 1 = true → ¬ refused → s.txn.open_ = false → ∃ t, exec (.hpStart true) s = .next t
        ∧ t.txn = { open_ := true, hp := true, kind := 1 } ∧ t.get F.LF_STAT.owner = 4 ∧ t.get F.LF_TXN_STAT.code = 1
        ∧ t.lf.stage = .wait ∧ t.get F.SESS_STAT.txn_open = 1 ∧ t.get (F.PWR_REQ.req 0) = s.get F.LF_HP_CFG.hp_cost
        ∧ t.get (F.PWR_REQ.state 0) ≠ 0)
    ∧ (s.lf.stage = .wait → s.get F.LF_STAT.owner = 4 → s.get (F.PWR_REQ.state 0) = 2 → s.get F.UWB_STAT.ts_ready = 1 →
        domUp s (if 6 ≤ s.get F.LF_HP_CFG.hp_aer then 5 else 4) = true → ∃ t, exec (.hpCarrierStart vdrv) s = .next t
        ∧ t.lf.stage = .hpCharge ∧ (∀ n, n ≠ s.get F.LF_HP_CFG.hp_aer → t.lf.aEff.getD n 0 = 0) ∧ t.txn.woke = true)
    ∧ (∀ l, s.lf.stage = .hpCharge → hpExpected s = some l → ∃ t, exec .hpReqStart s = .next t ∧ t.lf.stage = .hpFrame
        ∧ t.txn.hpExpect = l ∧ t.lf.cLoaded = false
        ∧ t.lf.frame = [0xE0#8] ++ chalBytes s ++ [BitVec.ofNat 8 (crc8 (0xE0#8 :: chalBytes s))])
    ∧ (s.lf.stage = .hpCharge → s.get F.LF_STAT.owner = 4 → hpExpected s = none → ∃ t, exec .hpReqStart s = .next t
        ∧ endsAs t 0 6 ∧ t.get F.LF_TXN_STAT.code = 7 ∧ t.lf.cLoaded = s.lf.cLoaded)
    ∧ (s.lf.stage = .hpFrame → ∃ t, exec (.tHp ts ⟨meas, mean⟩) s = .next t ∧ t.lf.stage = .hpListen ∧ t.lf.hpMean = mean.toNat
        ∧ (domOn s 7 = true → Strobed t 4 ts))
    ∧ (∀ i, s.lf.stage = .hpListen → starts i → (∀ j, j < i → ¬ starts j) → ∃ t, exec (.hpReplyStart amps) s = .next t
        ∧ t.get F.LF_HP_STAT.start_per = i % 65536 ∧ t.lf.stage = .hpReply
        ∧ t.lf.hpLow = decide ((amps.getD i 0).toNat < s.lf.hpMean) ∧ t.get (F.UHF_REC_W0.qstate 16) = 1)
    ∧ (s.lf.stage = .hpListen → (∀ i, ¬ starts i) → exec (.hpReplyStart amps) s = .next s)
    ∧ (s.lf.stage = .hpReply → s.get F.LF_STAT.owner = 4 → carries →
        (sound → (idx, body) ∈ s.txn.hpExpect → 124 ≤ at_ → at_ ≤ 132 → ∃ t, exec (.hpReplyEnd halves) s = .next t ∧ endsAs t 1 0
          ∧ t.get F.VERD_LAST_W0.idx_a = idx ∧ t.get F.LF_TXN_STAT.code = 2 ∧ t.get (F.UHF_REC_W0.qstate 16) = 3)
        ∧ (sound → (idx, body) ∉ s.txn.hpExpect → ∃ t, exec (.hpReplyEnd halves) s = .next t ∧ endsAs t 4 0x13)
        ∧ ((sound → (idx, body) ∈ s.txn.hpExpect) → at_ < 124 → ∃ t, exec (.hpReplyEnd halves) s = .next t ∧ endsAs t 3 0x18))
    ∧ (s.lf.stage = .hpListen → s.get F.LF_STAT.owner = 4 → ∃ t, exec .hpTimeout s = .next t ∧ endsAs t 0 1
        ∧ t.get F.LF_HP_STAT.no_reply = 1)

/-! UHF return receivers (04), UWB ranging (05), paddock solver (06). -/

/-- R99, R100, R102 to R105, R109 to R111, R117, R187: a due placement opens its window, or ends RX_CUT where its receiver is off;
without a sync it ends EMPTY, or BUSY once eight bit times in a row reach the threshold, and an ACK's energy is a COLLISION; eight
bit times below the floor truncate a frame that lacks its length; a frame ends OK, CRC_BAD, DISCARD or TRUNC; an OK ACK is
UNVERIFIED in its entry, one whose header does not fit its slot is wiped as ACK_BAD, and a response is compared with the expected
frame. -/
def Sys2Proof.Claims.UhfPlacements : Prop :=
  ∀ (p : Placement) (i : Fin 8) (u0 u1 : RssiIn) (fr : List Byte) (foff : BitVec 16) (ts : Stmp) (res : BitVec 11)
    (s : State), domOn s 2 = true →
    let e := entryOf p
    let n := frameLen s p fr
    let b := fr.take n
    let end_ := Instr.uhfFrameEnd p u0 u1 fr foff ts res
    let whole := fr.length ≥ n ∧ crcOk b = true
    let carried := hdrVersion fr = 0 ∧ typeCarried p (hdrType fr) = true
    let energy := carrierEnergy s (rssiBits s p u0 u1)
    let weak := belowFloor s (rssiBits s p u0 u1)
    let mine := (if laneRx s p then u1 else u0).bits.map (·.toNat)
    let eight := fun (f : Nat → Bool) => (List.range mine.length).any fun i =>
      decide (i + 8 ≤ mine.length) && (List.range 8).all fun k => f (mine.getD (i + k) 0)
    (s.get F.UHF_CFG.mode = 1 → energy = eight (fun r => decide (s.get F.UHF_CFG.busy_thr ≤ r))
      ∧ weak = eight (fun r => decide (r < s.get F.UHF_CFG.floor)) ∧ rxOf s p u0 u1 = laneRx s p)
    ∧ (s.get F.UHF_CFG.mode = 0 → s.get F.UHF_CTRL.u0_en = 1 → s.get F.UHF_CTRL.u1_en = 1 → s.uhf.cut0 = false → s.uhf.cut1 = false →
      rxOf s p u0 u1 = decide (u0.avg.toNat < u1.avg.toNat))
    ∧ (windowDue s p = true → p ∉ s.uhf.open_ → placementCut s p = false → ∃ t, exec (.huntWindowOpen p) s = .next t
      ∧ t.uhf = { s.uhf with open_ := s.uhf.open_ ++ [p] } ∧ t.txn = s.txn)
    ∧ (windowDue s p = true → p ∉ s.uhf.open_ → placementCut s p = true → ∃ t, exec (.huntWindowOpen p) s = .next t
      ∧ t.get (F.UHF_REC_W0.status e) = 6)
    ∧ (windowDue s p = false → exec (.huntWindowOpen p) s = .next s)
    ∧ (p ∈ s.uhf.open_ → p ∉ s.uhf.sync → ∃ t, exec (.syncDetect p) s = .next t ∧ t.get (F.UHF_REC_W0.qstate e) = 1
      ∧ t.uhf = { s.uhf with sync := s.uhf.sync ++ [p] } ∧ t.txn = s.txn)
    ∧ (p ∈ s.uhf.open_ → p ∉ s.uhf.sync → ∃ t, exec (.huntWindowClose p (u0, u1)) s = .next t
      ∧ t.get (F.UHF_REC_W0.status e) = (if energy then 1 else 0) ∧ t.uhf.open_ = s.uhf.open_.erase p
      ∧ (p = .ack i → energy = true → s.txn.open_ = true → s.txn.wakeEnd = true → s.txn.ackEnd = false →
        (s.slotT i).ackOver = false → s.get F.RST_BLOCK.verd = 0 → t.get (F.VERD_REC_W0.code i) = 0 ∧ t.get (F.VERD_REC_W0.cause i) = 3
          ∧ t.get (F.VERD_REC_W0.two_idx i) = 1))
    ∧ (p ∈ s.uhf.sync → weak = true → fr.length < n → ∃ t, exec (.frameTruncated p u0 u1 fr ts res) s = .next t
      ∧ t.get (F.UHF_REC_W0.status e) = 4 ∧ t.get (F.UHF_REC_W4.ts_lo e) = ts.toNat % 2 ^ 32)
    ∧ (weak = false ∨ n ≤ fr.length → exec (.frameTruncated p u0 u1 fr ts res) s = .next s)
    ∧ (p ∈ s.uhf.sync → ∃ t, exec end_ s = .next t
      ∧ t.get (F.UHF_REC_W0.status e) = (if ¬ whole then 3 else if ¬ carried then 5 else 2))
    ∧ (p ∈ s.uhf.sync → whole → carried → p = .ack i → s.txn.open_ = true → s.txn.wakeEnd = true → s.txn.ackEnd = false →
      (s.slotT i).ackOver = false →
      (bit s.yard.enrolMap (hdrIndex fr) = true → slotOfIndex s.lf.w (hdrIndex fr) = i → ∃ t, exec end_ s = .next t
        ∧ t.get (F.UHF_REC_W0.qstate e) = 2 ∧ quarBytes t e 12 = b)
      ∧ (bit s.yard.enrolMap (hdrIndex fr) = false ∨ slotOfIndex s.lf.w (hdrIndex fr) ≠ i → ∃ t, exec end_ s = .next t
        ∧ t.get (F.UHF_REC_W0.qstate e) = 0 ∧ (∀ k, k < 128 → Store.get t.uhf.quar (128 * e + k) = 0)
        ∧ (s.get F.RST_BLOCK.verd = 0 → t.get (F.VERD_REC_W0.code i) = 4 ∧ t.get (F.VERD_REC_W0.cause i) = 0x10)))
    ∧ (p ∈ s.uhf.sync → whole → carried → p = .response i → s.txn.open_ = true → (s.slotT i).tracked = true →
      (s.slotT i).published = false → (s.slotT i).rsp = none → ∃ t, exec end_ s = .next t
        ∧ (t.slotT i).rsp = some 2 ∧ (t.slotT i).contentBad = (b.take 16 != (s.slotT i).expect.getD (variantOf b) [])
        ∧ (t.slotT i).err = some (errOf s i (rxOf s p u0 u1) ts res.toNat)
        ∧ t.get (F.UHF_REC_W0.qstate e) = (if (t.slotT i).contentBad then 0 else 3))

/-- R35, R50, R58, R59, R65, R111, R113, R114, R117, R199, R344: only the checking stall's verdict on an UNVERIFIED entry counts; an ACK
that passes with a TCTR above the kept one is tracked and its TCTR kept, else its slot ends ACK_BAD; a report that fails is wiped,
and a STATUS that passes leaves its code, a reserved one as 3; a presence that fails ends PRES_BAD; the poll latch becomes an entry
and a presence record; the enables and the counter clear act at once. -/
def Sys2Proof.Claims.UhfChecks : Prop :=
  ∀ (e i : Fin 8) (entry : BitVec 5) (pass u : Bool) (s : State), domOn s 2 = true → s.txn.slots.length = 8 →
    let k := entry.toNat
    let fresh := keptTctr s (s.slotT i).idx < (s.slotT i).tctr
    let pres := s.get F.VERD_PRES.index
    let ptctr := natBe ((quarBytes s (s.get F.VERD_PRES.p) 6).drop 2)
    let b := quarBytes s k 3
    let code := (b.getD 2 0).toNat
    let en := if u then F.UHF_CTRL.u1_en else F.UHF_CTRL.u0_en
    (isCheckEngine s e = false → ∃ t, exec (.uhfQchkWrite e entry pass) s = .next t ∧ t.get (F.GROOM_STAT.wr_refused e) = 1
      ∧ t.uhf = s.uhf ∧ t.txn = s.txn)
    ∧ (isCheckEngine s e = true → s.get (F.UHF_REC_W0.qstate k) ≠ 2 → ∃ t, exec (.uhfQchkWrite e entry pass) s = .next t
      ∧ t.get F.UHF_STAT.qchk_bad = 1 ∧ t.uhf = s.uhf ∧ t.txn = s.txn)
    ∧ (isCheckEngine s e = true → k = i.val → s.get (F.UHF_REC_W0.qstate k) = 2 → s.txn.open_ = true → s.txn.woke = true →
      (pass = true → fresh → ∃ t, exec (.uhfQchkWrite e entry pass) s = .next t ∧ t.get (F.UHF_REC_W0.qstate k) = 3
        ∧ (t.slotT i).tracked = true ∧ (t.slotT i).idx = (s.slotT i).idx ∧ t.txn.order = s.txn.order ++ [i.val]
        ∧ keptTctr t (s.slotT i).idx = (s.slotT i).tctr % 2 ^ 32)
      ∧ (pass = false ∨ ¬ fresh → ∃ t, exec (.uhfQchkWrite e entry pass) s = .next t ∧ t.get (F.UHF_REC_W0.qstate k) = 0
        ∧ (s.get F.RST_BLOCK.verd = 0 → t.get (F.VERD_REC_W0.code i) = 4 ∧ t.get (F.VERD_REC_W0.cause i) = 0x10)
        ∧ t.loft.front = s.loft.front
        ∧ t.txn.order = s.txn.order))
    ∧ (isCheckEngine s e = true → k = 8 + i.val → s.get (F.UHF_REC_W0.qstate k) = 2 → s.txn.open_ = true →
      ∃ t, exec (.uhfQchkWrite e entry pass) s = .next t ∧ t.get (F.UHF_REC_W0.qstate k) = (if pass then 3 else 0)
        ∧ (t.slotT i).repOver = true ∧ (t.slotT i).repBad = !pass
        ∧ (pass = true → hdrType b = 4 → (t.slotT i).status = if code = 1 ∨ code = 2 then code else 3))
    ∧ (s.sess.presCheck ≠ 1 → exec (.presenceCheckDone pass) s = .next s)
    ∧ (s.sess.presCheck = 1 → pass = true → keptTctr s pres < ptctr → ∃ t, exec (.presenceCheckDone pass) s = .next t
      ∧ t.sess.presCheck = 2 ∧ t.txn.pres = none ∧ keptTctr t pres = ptctr)
    ∧ (s.sess.presCheck = 1 → pass = false ∨ ptctr ≤ keptTctr s pres → s.get F.RST_BLOCK.verd = 0 → ∃ t, exec (.presenceCheckDone pass) s = .next t
      ∧ t.sess.presCheck = 0 ∧ t.get F.VERD_LAST_W0.code = 4 ∧ t.get F.VERD_LAST_W0.cause = 0x11
      ∧ t.get F.SESS_FAIL.count = min 0xFFFF_FFFF (s.get F.SESS_FAIL.count + 1))
    ∧ (∀ b q, s.uhf.pollLatch = some (b, q) → q < 4 → ∃ t, exec .pollLatchCopy s = .next t ∧ t.uhf.pollLatch = none
      ∧ t.get (F.UHF_REC_W0.qstate q) = 2 ∧ quarBytes t q b.length = b ∧ t.get F.VERD_PRES.valid = 1
      ∧ t.get F.VERD_PRES.index = hdrIndex b % 16)
    ∧ (domOn s 6 = true → ∃ t, exec (.uEnWrite u true) s = .next t ∧ t.get en = 1 ∧ t.uhf = s.uhf)
    ∧ (domOn s 6 = true → ∃ t, exec (.uEnWrite u false) s = .next t ∧ t.get en = 0
      ∧ (s.get en = 1 → rxBusy s u = true → (if u then t.uhf.cut1 else t.uhf.cut0) = true
        ∧ (s.get F.UHF_CFG.mode = 1 → t.get F.UHF_STAT.cut = 1)))
    ∧ (domOn s 6 = true → ∃ t, exec .uhfStatClr s = .next t ∧ t.word F.UHF_CNT0.ok.addr = 0 ∧ t.word F.UHF_CNT1.discard.addr = 0
      ∧ t.word F.UHF_CNT2.wiped.addr = 0 ∧ t.uhf = s.uhf)

/-- UHF placements open, receive and end with their status, and only checked entries count: `Claims.UhfPlacements`, `Claims.UhfChecks`. -/
def Obligations.UhfReceivers : Prop :=
  Sys2Proof.Claims.UhfPlacements ∧ Sys2Proof.Claims.UhfChecks

/-- R53, R127 to R130, R133, R142, R144, R147, R184: POLL begins the exchange of a tracked slot within its window, under the grant, and
is scheduled at the last grid instant not after the one requested; without a valid RR1 the exchange ends NO_RR1; FINAL and RR2
follow, and the record holds the captures, its status and, where it is OK, the time of flight; the close of a window zeroes its
STS entries, and the last one releases the grant. -/
def Sys2Proof.Claims.RangingExchange : Prop :=
  ∀ (i : Fin 8) (ts : Stmp) (ports : List PortRx) (w0 w1 : PortRx) (w23 : PortRx × PortRx) (cfo : BitVec 16) (e : UwbExch) (s : State),
    s.txn.slots.length = 8 →
    let heard1 := (receiveExch s 2 e ports).1
    let heard2 := (receiveExch s 4 e [w0, w1, w23.1, w23.2]).1
    let runs := s.uwb.exch = some e ∧ e.slot = i.val ∧ e.ending = none
    let may := s.txn.open_ = true ∧ (s.slotT i).tracked = true ∧ (s.slotT i).uwbOver = false ∧ (s.slotT i).winOver = false
      ∧ s.uwb.exch = none ∧ s.get (F.UWB_STRB_W4.valid 2) = 1 ∧ s.get (F.PWR_REQ.state 3) = 2 ∧ s.get F.UWB_CTRL.rf_en = 1
      ∧ domOn s 7 = true
    let onGrid := fun (at_ asked : Stmp) => at_.toNat % 256 = 0 ∧ (asked - at_).toNat < 256
    let ended := fun (t : State) (code : Nat) => t.uwb.exch = none ∧ t.get (F.UWB_REC_W0.rstat i) = code ∧ (t.slotT i).uwbOver = true
      ∧ (domOn s 7 = true → t.get F.UWB_STAT.state = 1) ∧ t.get (F.UWB_REC_W4.poll_lo i) = e.poll.toNat % 2 ^ 32
    (may → ∃ t x, exec (.pollTx i ts) s = .next t ∧ t.uwb.exch = some x ∧ x.slot = i.val ∧ x.poll = capture s 0 ts
      ∧ x.rr1Done = false ∧ x.fin = none ∧ x.ending = none ∧ onGrid x.sched (windowOpen s i + 6389760#40)
      ∧ t.get F.UWB_STAT.state = 4 ∧ t.uwb.stmp = ts ∧ t.txn = s.txn)
    ∧ (¬ may → exec (.pollTx i ts) s = .next s)
    ∧ (runs → e.rr1Done = false → heard1.any (·.ok) = true → ∃ t, exec (.rr1ListenEnd ports cfo) s = .next t
      ∧ t.uwb.exch = some { e with rr1 := heard1, rr1Done := true, cfo := cfo.toNat } ∧ t.txn = s.txn)
    ∧ (runs → e.rr1Done = false → heard1.any (·.ok) = false → ∃ t, exec (.rr1ListenEnd ports cfo) s = .next t ∧ ended t 2)
    ∧ (∀ r, runs → e.rr1Done = true → e.fin = none → earliestRr1 e = some r → ∃ t x, exec (.finalTx ts) s = .next t
      ∧ t.uwb.exch = some x ∧ x.fin = some (capture s 0 ts) ∧ x.rr1 = e.rr1 ∧ onGrid x.sched (r + 6389760#40)
      ∧ t.get F.UWB_STAT.state = 4 ∧ t.uwb.stmp = ts)
    ∧ (∀ f, runs → e.fin = some f → ∃ t, exec (.rr2ListenEnd w0 w1 w23) s = .next t ∧ ended t (rstatOf s e.rr1 heard2)
      ∧ t.get (F.UWB_REC_WC.fin_lo i) = f.toNat % 2 ^ 32
      ∧ (∀ k, k < 4 → (portOf heard2 k).ok = true → t.get (F.UWB_REC_W28.r2_lo i k) = (portOf heard2 k).raw.toNat % 2 ^ 32)
      ∧ (rstatOf s e.rr1 heard2 = 1 → (t.slotT i).tof = some (max (-2147483648) (min 2147483647
        ((pathSum t i (t.get F.UWB_CFG.ref_port) - sxt 16 (t.get F.VERD_CAL1.tok_bias) + 1) / 2))))
      ∧ (rstatOf s e.rr1 heard2 ≠ 1 → (t.slotT i).tof = none))
    ∧ (s.uwb.exch = none → ∃ t, exec (.uwbWindowClose i) s = .next t ∧ t.uwb.sts.getD i [] = []
      ∧ (t.slotT i).winOver = true
      ∧ ((∀ j, j < 8 → j ≠ i.val → (s.slotT j).tracked = true → (s.slotT j).winOver = true) → t.get (F.PWR_REQ.state 3) = 0))

/-- R125, R141, R146: rf_en and the abort end the exchange after its frame, and a disable every later window of the transaction; the
port check runs only with no transaction open and gives each port's mean over its captures, rounded down or up, less geometry and
chain delays; the interpolator's calibration makes the counter ready, and its tables act at once after a clear and else at a quiet
point; a read of the low half latches the high one. -/
def Sys2Proof.Claims.RangingControls : Prop :=
  ∀ (e : UwbExch) (dnl span : BitVec 8) (caps : List (Stmp × List Stmp)) (tables : List (List (BitVec 5))) (s : State),
    domOn s 7 = true →
    let sum := fun (k : Nat) => caps.foldl (fun a c => a + stmpDiff (capture s (k + 1) (c.2.getD k 0)) (capture s 0 c.1)) (0 : Int)
    let less := fun (k : Nat) (mean : Int) => truncTo 16 (mean - geomLsb s k - s.get (F.UWB_CHDLY.dly k) - s.get F.UWB_TXDLY.dly : Int)
    let given := tables.map fun l => l.map (·.toNat)
    (∃ t, exec (.rfEnWrite true) s = .next t ∧ t.get F.UWB_CTRL.rf_en = 1 ∧ t.uwb = s.uwb ∧ t.txn = s.txn)
    ∧ (s.txn.open_ = false → ∃ t, exec (.rfEnWrite false) s = .next t ∧ t.get F.UWB_CTRL.rf_en = 0 ∧ t.uwb = s.uwb)
    ∧ (s.txn.open_ = true → s.txn.hp = false → s.txn.woke = true → ∃ t, exec (.rfEnWrite false) s = .next t
      ∧ t.get F.UWB_CTRL.rf_en = 0 ∧ t.uwb.later = some 8 ∧ (s.uwb.exch ≠ none → t.get F.UWB_STAT.cut = 1)
      ∧ ∀ i : Fin 8, (s.slotT i).tracked = true → (∀ x, s.uwb.exch = some x → x.slot ≠ i.val) → (t.slotT i).uwbOver = true)
    ∧ (s.uwb.exch = some e → e.ending = none → ∃ t, exec (.uwbAbort false) s = .next t
      ∧ t.uwb = { s.uwb with exch := some { e with ending := some 9 } } ∧ t.regs = s.regs)
    ∧ (s.uwb.exch = none → s.txn.open_ = true → ∃ t, exec (.uwbAbort true) s = .next t ∧ t.get F.UWB_STAT.abort_late = 1
      ∧ t.uwb = s.uwb)
    ∧ (s.txn.open_ = true → exec .uwbCalStart s = .next s ∧ exec .tscalStart s = .next s)
    ∧ (s.txn.open_ = false → s.uwb.calRun = false → ∃ t, exec .uwbCalStart s = .next t ∧ t.uwb.calRun = true
      ∧ t.get F.UWB_STAT.cal_done = 0 ∧ t.get (F.PWR_REQ.state 4) ≠ 0 ∧ t.get (F.PWR_REQ.req 4) = s.get F.UWB_RNG_COST.cal_cost)
    ∧ (s.uwb.calRun = true → s.get (F.PWR_REQ.state 4) = 2 → heldCount s .uwbCheck = 0 → caps.length = 16 →
      ∃ t, exec (.uwbCalDone caps) s = .next t ∧ t.uwb.calRun = false
      ∧ t.get F.UWB_STAT.cal_done = 1 ∧ t.get (F.PWR_REQ.state 4) = 0
      ∧ ∀ k, k < 4 → portOn s k = true → t.get (F.UWB_CALRES.meas k) = less k (sum k / 16)
          ∨ (sum k % 16 ≠ 0 ∧ t.get (F.UWB_CALRES.meas k) = less k (sum k / 16 + 1)))
    ∧ (s.txn.open_ = false → exec .tscalStart s = .next { s with uwb := { s.uwb with tscalRun := true } })
    ∧ (s.uwb.tscalRun = true ∨ s.get F.UWB_STAT.ts_ready = 0 → ∃ t, exec (.tscalDone dnl ⟨span, tables⟩) s = .next t
      ∧ t.get F.UWB_STAT.ts_ready = 1 ∧ t.get F.UWB_TSCAL.valid = 1 ∧ t.get F.UWB_TSCAL.dnl_max = dnl.toNat
      ∧ t.get F.UWB_TSCAL.span = span.toNat ∧ t.uwb.tscalRun = false
      ∧ (s.get F.UWB_STAT.ts_ready = 1 → quiet s = true → t.uwb.tables = given)
      ∧ (s.get F.UWB_STAT.ts_ready = 1 → quiet s = false → t.uwb.tables = s.uwb.tables ∧ t.uwb.tablesNext = some given)
      ∧ (s.get F.UWB_STAT.ts_ready = 0 → s.uwb.tablesNext = none → t.uwb.tables = given))
    ∧ (∃ t, exec .stmpLoRead s = .next t ∧ t.get F.UWB_STMP_HI.ts_hi = s.uwb.stmp.toNat / 2 ^ 32 ∧ t.uwb = s.uwb)

/-- The ranging exchange of a slot records its captures, status and time of flight: `Claims.RangingExchange`, `Claims.RangingControls`. -/
def Obligations.Ranging : Prop :=
  Sys2Proof.Claims.RangingExchange ∧ Sys2Proof.Claims.RangingControls

/-- R162 to R167, R174, R175, R177: a fix starts at the seed of least cost; an iteration of its one start never raises the cost; a
deadline, a disable or an abort ends the fit in progress after its iteration, and a disable or an abort the queued ones at
once; the end writes the record, where a fix without a position names no paddock and has confidence 0. -/
def Sys2Proof.Claims.SolverFixes : Prop :=
  ∀ (i : Fin 8) (l : List Nat) (f : Fit) (elapsed : BitVec 16) (s : State),
    let stops := fun (t : State) (code : Nat) => (∀ g, s.solv.fit = some g → g.ended = false → t.solv.fit = some { g with fstat := code })
      ∧ t.solv.queue = [] ∧ ∀ j ∈ s.solv.queue, t.get (F.SOLV_FIX_W0.fstat j) = code
    (s.solv.fit = none → s.solv.queue = i.val :: l → ∃ t g, exec .fixStart s = .next t ∧ t.solv.fit = some g ∧ g.slot = i.val
      ∧ t.solv.queue = l ∧ t.get (F.SOLV_FIX_W0.fstat i) = 2 ∧ t.get F.SOLV_STAT.busy = 1 ∧ t.get F.SOLV_STAT.slot = i.val
      ∧ (g.ended = false → (g.p, g.seedPad) ∈ seedsOf s ∧ g.c = costOf s g g.p ∧ ∀ e ∈ seedsOf s, g.c ≤ costOf s g e.1)
      ∧ (termCount g < dofOf g → i.val ∉ s.solv.late → g.ended = true ∧ g.fstat = 4))
    ∧ (s.solv.fit = some f → f.ended = false → f.fstat = 3 → f.first = none → f.second = none →
      ∃ t g, exec (.fixIteration false) s = .next t ∧ t.solv.fit = some g ∧ g.c ≤ f.c ∧ g.iters = f.iters + 1
        ∧ (g.p = f.p ∨ g.c < f.c) ∧ t.regs = s.regs)
    ∧ (s.solv.fit = some f → f.ended = true → f.slot = i.val → f.fstat < 16 → ∃ t, exec (.fixDone elapsed) s = .next t
      ∧ t.solv.fit = none ∧ t.get (F.SOLV_FIX_W0.fstat i) = f.fstat ∧ t.get F.SOLV_STAT.busy = 0
      ∧ t.get (F.SOLV_FIX_W18.elapsed i) = elapsed.toNat ∧ t.get F.SOLV_CNT.fixes = min 0xFFFF (s.get F.SOLV_CNT.fixes + 1)
      ∧ (f.fstat = 4 ∨ f.fstat = 6 ∨ f.fstat = 7 → t.get (F.SOLV_FIX_W0.paddock i) = 0xFF ∧ t.get (F.SOLV_FIX_W0.conf i) = 0))
    ∧ (s.txn.tEnd = false → exec (.fixDeadline i) s = .next s)
    ∧ (s.txn.tEnd = true → s.solv.fit = some f → f.slot = i.val → f.ended = false → f.fstat = 3 →
      ∃ t, exec (.fixDeadline i) s = .next t ∧ t.solv.fit = some { f with fstat := 5 } ∧ t.regs = s.regs)
    ∧ (domOn s 2 = true → (∀ j ∈ s.solv.queue, j < 8) →
      (s.solv.fit ≠ none ∨ s.solv.queue ≠ [] → ∃ t, exec (.solvEnWrite false) s = .next t ∧ stops t 6 ∧ t.get F.SOLV_STAT.cut = 1
        ∧ t.get F.SOLV_CTRL.en = 0)
      ∧ (∃ t, exec (.solvEnWrite true) s = .next t ∧ t.get F.SOLV_CTRL.en = 1 ∧ t.solv = s.solv)
      ∧ (∃ t, exec (.solvAbort false) s = .next t ∧ stops t 7)
      ∧ (s.solv.fit = some f → f.slot = i.val → f.ended = true → ∃ t, exec (.solvAbort true) s = .next t
        ∧ t.get (F.SOLV_FIX_W0.abort_late i) = 1 ∧ t.get F.SOLV_STAT.abort_late = 1 ∧ t.solv = s.solv))

/-- R171, R172: a point lies in a box or an ellipsoid by exact integer tests that include the boundary; of the used paddocks that
contain it, the one with the highest priority is assigned, the lower index among equals, and 0xFF where there is none. -/
def Obligations.PaddockAssignment : Prop :=
  ∀ (x y z : Int) (p q : Nat) (s : State),
    let lo := fun (a : Nat) => partLo s p q a
    let hi := fun (a : Nat) => partHi s p q a
    let dx := x - lo 0
    let dy := y - lo 1
    let dz := z - lo 2
    let holds := fun (p : Nat) => (usedParts s).any (fun e => e.1 == p && partHas s p e.2 [x, y, z]) = true
    let prio := fun (p : Nat) => s.get (F.SOLV_PAD_W0.prio p)
    (partUsable s p q = true → isEllipsoid s p q = false → (partHas s p q [x, y, z] = true
      ↔ (lo 0 ≤ x ∧ x ≤ hi 0) ∧ (lo 1 ≤ y ∧ y ≤ hi 1) ∧ (lo 2 ≤ z ∧ z ≤ hi 2)))
    ∧ (partUsable s p q = true → isEllipsoid s p q = true → (partHas s p q [x, y, z] = true
      ↔ (dx * hi 1 * hi 2) ^ 2 + (dy * hi 0 * hi 2) ^ 2 + (dz * hi 0 * hi 1) ^ 2 ≤ (hi 0 * hi 1 * hi 2) ^ 2))
    ∧ ((∀ k, k < 24 → ¬ holds k) → assignPad s [x, y, z] = 0xFF)
    ∧ (p < 24 → holds p → (∀ k, k < 24 → holds k → prio k < prio p ∨ (prio k = prio p ∧ p ≤ k)) → assignPad s [x, y, z] = p)

/-- R152, R353: SOLV_MDATA reads or writes the four model bytes at SOLV_MADDR, which moves on by 4; a locked store keeps its bytes (an
engine's stall has its route). -/
def Sys2Proof.Claims.SolverModelStore : Prop :=
  ∀ (src : Src) (w : Word) (s : State), domOn s 2 = true →
    (∀ e, src = .engine e → ∀ write, yardAllowed s e F.SOLV_MDATA.data.addr write = true) →
    let a := s.get F.SOLV_MADDR.addr / 4 * 4
    let moved := fun (t : State) => t.get F.SOLV_MADDR.addr = (a + 4) % 2 ^ 17
    (∃ t, exec (.solvMdataAccess src none) s = .next t ∧ t.solv = s.solv ∧ moved t)
    ∧ (a < 73728 → s.get F.YARD_PSTAT.locked = 0 → ∃ t, exec (.solvMdataAccess src (some w)) s = .next t
      ∧ Mem.word t.solv.model a = w ∧ moved t ∧ ∀ b, b < a ∨ a + 4 ≤ b → Store.get t.solv.model b = Store.get s.solv.model b)
    ∧ (73728 ≤ a ∨ s.get F.YARD_PSTAT.locked = 1 → ∃ t, exec (.solvMdataAccess src (some w)) s = .next t ∧ t.solv = s.solv
      ∧ moved t)

/-- A fix starts at its cheapest seed and never raises its cost; SOLV_MDATA steps through the model store: `Claims.SolverFixes`, `Claims.SolverModelStore`. -/
def Obligations.SolverFixes : Prop :=
  Sys2Proof.Claims.SolverFixes ∧ Sys2Proof.Claims.SolverModelStore

/-! Relay window and verdict (07), sessions and start lock (08). -/

/-- R179, R181, R190, R191, R193, R197, R484: once the cores have run its blocks the latch completes the values of the slot it
precomputes; a slot whose response and fix are final is decided by the verdict list, PASS exactly when every line before it is clear, and its record is
published with the next sequence number. -/
def Sys2Proof.Claims.VerdictDecides : Prop :=
  ∀ (i : Fin 8) (s : State),
    let q := s.slotT i
    let rs := q.rstat
    let tol : Int := if s.get F.VERD_TURN.tol = 0 then 63898 else s.get F.VERD_TURN.tol
    let early : Int := if s.get F.VERD_WIN.early = 0 then 32 else s.get F.VERD_WIN.early
    let lim : Int := (reachOf s i + s.get F.VERD_WIN.guard : Nat)
    let clear := q.repBad = false ∧ q.contentBad = false ∧ rs = 1 ∧ s.txn.tsLost = false
      ∧ (∀ x, q.err = some x → -tol ≤ x ∧ x ≤ tol) ∧ ∀ x, q.tof = some x → -early ≤ x ∧ x ≤ lim
    (∀ root o, activeRoot s = some root → opOf s .verd = some o → o.derId = i.val → o.kind = 7 → o.ending = none →
      q.preFail = false → s.txn.slots.length = 8 → s.uwb.sts.length = 8 → ∃ t, exec (.precomputeDone i) s = .next t
        ∧ (t.slotT i).ready = true ∧ t.uwb.sts.getD i [] = stsBlocks s root q.idx i s.lf.w q.tctr
        ∧ (∀ v, v < 8 → (t.slotT i).expect.getD v [] = expectedFrame s root q.idx i s.lf.w q.tctr v (chalBytes s))
        ∧ ∀ j : Fin 8, j ≠ i → (t.slotT j).ready = (s.slotT j).ready ∧ (t.slotT j).expect = (s.slotT j).expect)
    ∧ (opOf s .verd = none → nextPre s = none ∨ s.lf.cLoaded = false ∨ s.txn.preface = true ∨ s.get F.KEYS_STAT.blocked = 1 →
      exec (.precomputeDone i) s = .next s)
    ∧ (publishReady s i = false → exec (.verdictPublish i) s = .next s)
    ∧ (publishReady s i = true → q.rsp = some 2 → s.lf.next = none → s.sess.trigs = [] → ∃ t, exec (.verdictPublish i) s = .next t ∧ (t.slotT i).published = true
        ∧ (t.get (F.VERD_REC_W0.code i) = 1 ↔ clear)
        ∧ (q.repBad = true → t.get (F.VERD_REC_W0.code i) = 4 ∧ t.get (F.VERD_REC_W0.cause i) = 0x12)
        ∧ (q.repBad = false → q.contentBad = true → t.get (F.VERD_REC_W0.code i) = 4 ∧ t.get (F.VERD_REC_W0.cause i) = 0x13)
        ∧ (∀ x, q.repBad = false → q.contentBad = false → rs = 1 → s.txn.tsLost = false → q.err = some x → x < -tol →
          t.get (F.VERD_REC_W0.code i) = 3 ∧ t.get (F.VERD_REC_W0.cause i) = 0x16)
        ∧ (∀ x, q.repBad = false → q.contentBad = false → rs = 1 → s.txn.tsLost = false → q.err = none → q.tof = some x → lim < x →
          -early ≤ x → t.get (F.VERD_REC_W0.code i) = 2 ∧ t.get (F.VERD_REC_W0.cause i) = 0x1A)
        ∧ t.get F.SYS_GATE_STAT.verd_seq = (s.get F.SYS_GATE_STAT.verd_seq + 1) % 2 ^ 16
        ∧ t.get (F.VERD_REC_W4.seq i) = t.get F.SYS_GATE_STAT.verd_seq
        ∧ t.get F.VERD_LAST_W0.code = t.get (F.VERD_REC_W0.code i)
        ∧ ∀ j : Fin 8, j ≠ i → t.get (F.VERD_REC_W0.code j) = s.get (F.VERD_REC_W0.code j))

/-- R56, R191, R196: an abort, or a disable, ends every tracked slot without a record NONE with its cause, and the transaction; a slot
whose code is forming keeps its record, which comes once its fix is final. The VERDICT pulse ends. -/
def Sys2Proof.Claims.VerdictStops : Prop :=
  ∀ (i : Fin 8) (s : State), domOn s 2 = true → s.sess.trigs = [] → s.txn.open_ = true → s.txn.hp = false → s.lf.next = none →
    s.get F.RST_BLOCK.verd = 0 →
    (∀ c ∈ [(Instr.verdAbort none, 0x0B), (.verdEnWrite false, 0x0C)], pendSlots s ≠ [] →
      (∀ j ∈ pendSlots s, (s.slotT j).late = false) → ∃ t, exec c.1 s = .next t
      ∧ t.txn.open_ = false ∧ t.get F.VERD_STAT.open_ = 0
      ∧ (∀ j ∈ pendSlots s, t.get (F.VERD_REC_W0.code j) = 0 ∧ t.get (F.VERD_REC_W0.cause j) = c.2)
      ∧ ∀ j, j < 8 → j ∉ pendSlots s → t.get (F.VERD_REC_W0.code j) = s.get (F.VERD_REC_W0.code j))
    ∧ (publishReady s i = true → (∀ j ∈ pendSlots s, (s.slotT j).late = false) →
      ∃ t, exec (.verdAbort (some i)) s = .next t ∧ t.get F.VERD_STAT.abort_late = 1
      ∧ t.get (F.VERD_REC_W0.abort_late i) = 1 ∧ t.get (F.VERD_REC_W0.code i) = (slotVerdict s i s.txn.tsLost).code
      ∧ (s.txn.ackEnd = true → t.txn.open_ = false)
      ∧ ∀ j ∈ pendSlots s, j ≠ i.val → t.get (F.VERD_REC_W0.code j) = 0 ∧ t.get (F.VERD_REC_W0.cause j) = 0x0B)
    ∧ (codeFormed s i = true → s.get (F.SOLV_FIX_W0.fstat i) < 3 → s.txn.slots.length = 8 →
      ∃ t, exec (.verdAbort (some i)) s = .next t ∧ t.get F.VERD_STAT.abort_late = 1 ∧ t.txn.open_ = true
      ∧ (t.slotT i).late = true ∧ (t.slotT i).published = false)
    ∧ (pendSlots s = [] → exec (.verdAbort none) s = .next s)
    ∧ (∃ t, exec (.verdEnWrite true) s = .next t ∧ t.get F.VERD_CTRL.en = 1 ∧ t.txn = s.txn)
    ∧ exec .verdictPulseEnd s = .next { s with verdPulse := false }

/-- A slot passes exactly when every line of the verdict list before PASS is clear: `Claims.VerdictDecides`, `Claims.VerdictStops`. -/
def Obligations.Verdicts : Prop :=
  Sys2Proof.Claims.VerdictDecides ∧ Sys2Proof.Claims.VerdictStops

/-- R202, R203, R205, R207 to R209, R219: a host start triggers, latches or is dropped, and kind 3 is REFUSED; at the transaction's end
the winner opens its ENTRY session under the next generation, no winner is NO_TOKEN, and a START decision opens nothing by
itself: only the RCODE channel's DONE opens the START session. -/
def Obligations.SessionStarts : Prop :=
  ∀ (i : Fin 8) (kind : BitVec 2) (st : BitVec 4) (r : SessReq) (q : RcodeReq) (s : State),
    let open_ := domOn s 2 = true ∧ s.get F.SYS_GATE_STAT.plan_apply = 0
    let free := s.get F.SESS_STAT.txn_open = 0 ∧ s.sess.rcode = none
    let last := pendSlots s = [i.val] ∧ publishReady s i = true ∧ s.txn.ackEnd = true ∧ s.txn.hp = false ∧ s.txn.sess = true
      ∧ s.sess.cur = some r ∧ s.sess.trigs = [] ∧ s.lf.next = none
    (exec (.sessStartCmd kind false) s = .next s)
    ∧ (open_ → ∃ t, exec (.sessStartCmd 3 true) s = .next t ∧ t.get F.SESS_LASTREQ.outcome = 9 ∧ t.get F.SESS_LASTREQ.kind = 3
      ∧ t.get F.SESS_LASTREQ.source = 16 ∧ t.get F.SESS_EVT.req_done = 1 ∧ t.txn = s.txn ∧ t.sess = s.sess)
    ∧ (open_ → kind ≠ 3 → s.get F.SESS_CTRL.en = 0 → ∃ t, exec (.sessStartCmd kind true) s = .next t ∧ t.txn = s.txn
      ∧ t.sess = s.sess)
    ∧ (open_ → kind ≠ 3 → s.get F.SESS_CTRL.en = 1 → ¬ free → (∀ x ∈ s.sess.trigs, x.source ≠ 16) →
      ∃ t, exec (.sessStartCmd kind true) s = .next t ∧ t.txn = s.txn
        ∧ t.sess.trigs = s.sess.trigs ++ [{ source := 16, kind := kind.toNat, mask := s.get F.SESS_CMD_MASK.mask }])
    ∧ (open_ → kind ≠ 3 → s.get F.SESS_CTRL.en = 1 → free → s.sess.trigs = [] → lifeState s ≠ 4 → s.get F.LF_CTRL.syn_en = 1 →
      sweepOk s (s.get F.LF_TXN.sweep_sel) = true → s.txn.open_ = false → s.get F.LF_STAT.owner ≠ 1 → s.get F.LF_STAT.owner ≠ 4 →
        ∃ t, exec (.sessStartCmd kind true) s = .next t
        ∧ t.txn = { open_ := true, kind := kind.toNat, sess := true } ∧ t.get F.SESS_STAT.txn_open = 1
        ∧ ∃ c, t.sess.cur = some c ∧ c.source = 16 ∧ c.kind = kind.toNat)
    ∧ (last → ∃ t, exec (.verdictPublish i) s = .next t
      ∧ (r.kind ≠ 2 → winner (candidates t r.mask) = none → t.get F.SESS_LASTREQ.outcome = 3 ∧ genOf t = genOf s
        ∧ t.get F.SESS_STAT.entry_open = s.get F.SESS_STAT.entry_open)
      ∧ (∀ w, r.kind = 0 → winner (candidates t r.mask) = some w → s.get (F.SESS_DOOR.doors w.paddock) ≠ 0 →
        genOf s < 0xFFFF_FFFF_FFFF → s.get F.SESS_STAT.gen_ready = 1 → t.get F.SESS_LASTREQ.outcome = 1
          ∧ t.get F.SESS_STAT.entry_open = 1 ∧ t.get F.SESS_ENTRY_W0.idx = w.idx ∧ genOf t = genOf s + 1
          ∧ t.get F.SESS_ENTRY_W0.doors = s.get (F.SESS_DOOR.doors w.paddock) ∧ t.get F.SESS_EVT.entry_open = 1)
      ∧ (r.kind = 1 → t.get F.SESS_STAT.start_open = s.get F.SESS_STAT.start_open))
    ∧ (∀ o, s.sess.rcode = some q → s.sess.trigs = [] → opOf s .rcode = some o → o.ending = none →
      (∃ t, exec (.startSessionOpen 2) s = .next t ∧ t.get F.SESS_STAT.start_open = 1 ∧ t.get F.SESS_SLK.cmd = 1
        ∧ t.sess.slkB = true ∧ t.get F.SESS_LASTREQ.outcome = 1 ∧ t.get F.SESS_START_W0.idx = q.idx % 16 ∧ t.sess.rcode = none)
      ∧ (st ≠ 2 → ∃ t, exec (.startSessionOpen st) s = .next t ∧ t.get F.SESS_LASTREQ.outcome = 8 ∧ t.sess.rcode = none
        ∧ t.get F.SESS_STAT.start_open = s.get F.SESS_STAT.start_open))

/-- R203, R210, R211, R213 to R215: a session ends by the host, its timer or a disable, with its cause, and the start-lock output goes
low with the START session; SLK_B toggles only while one is open; a readback that differs twice in a row on SLK_A, or stands
still on SLK_B, is a fault that ends it; the fault clears only once the mismatch is over. -/
def Obligations.SessionEnds : Prop :=
  ∀ (a b : Bool) (s : State),
    let control := domOn s 2 = true ∧ s.get F.SYS_GATE_STAT.plan_apply = 0
    let entryEnds := fun (t : State) (cause : Nat) => t.get F.SESS_STAT.entry_open = 0 ∧ t.get F.SESS_ENTRY_W0.open_ = 0
      ∧ t.get F.SESS_ENTRY_W0.cause = cause ∧ t.get F.SESS_LASTEND.kind = 0 ∧ t.get F.SESS_LASTEND.cause = cause
      ∧ t.get F.SESS_EVT.sess_end = 1 ∧ t.get F.SESS_STAT.start_open = s.get F.SESS_STAT.start_open
    let startEnds := fun (t : State) (cause : Nat) => t.get F.SESS_STAT.start_open = 0 ∧ t.get F.SESS_START_W0.open_ = 0
      ∧ t.get F.SESS_START_W0.cause = cause ∧ t.get F.SESS_LASTEND.kind = 1 ∧ t.get F.SESS_LASTEND.cause = cause
      ∧ t.get F.SESS_SLK.cmd = 0 ∧ t.sess.slkB = false ∧ t.get F.SESS_EVT.sess_end = 1
    (s.get F.SESS_STAT.entry_open = 1 → (control → ∃ t, exec .endEntry s = .next t ∧ entryEnds t 3)
      ∧ ∃ t, exec (.sessionTimeout false) s = .next t ∧ entryEnds t 2)
    ∧ (s.get F.SESS_STAT.start_open = 1 → (control → ∃ t, exec .endStart s = .next t ∧ startEnds t 3)
      ∧ ∃ t, exec (.sessionTimeout true) s = .next t ∧ startEnds t 2)
    ∧ (s.get F.SESS_STAT.entry_open = 0 → exec .endEntry s = .next s ∧ exec (.sessionTimeout false) s = .next s)
    ∧ (s.get F.SESS_STAT.start_open = 0 → exec .endStart s = .next s ∧ exec (.sessionTimeout true) s = .next s
      ∧ exec .slkBHalfPeriod s = .next s)
    ∧ (control → ∃ t, exec (.sessEnWrite false) s = .next t ∧ t.get F.SESS_CTRL.en = 0 ∧ t.sess.trigs = []
      ∧ t.get F.SESS_STAT.entry_open = 0 ∧ t.get F.SESS_STAT.start_open = 0
      ∧ (s.get F.SESS_STAT.start_open = 1 → startEnds t 8))
    ∧ (control → ∃ t, exec (.sessEnWrite true) s = .next t ∧ t.get F.SESS_CTRL.en = 1 ∧ t.sess = s.sess)
    ∧ (s.get F.SESS_STAT.start_open = 1 →
      exec .slkBHalfPeriod s = .next { s with sess := { s.sess with slkB := !s.sess.slkB } })
    ∧ (s.get F.SESS_SLK.cmd = 1 → a = false → 1 ≤ s.sess.aRun → ∃ t, exec (.slkReadbackSample a b) s = .next t
      ∧ t.get F.SESS_SLK.fault = 1 ∧ t.get F.SESS_EVT.slk_fault = 1 ∧ (s.get F.SESS_STAT.start_open = 1 → startEnds t 7))
    ∧ (s.get F.SESS_SLK.cmd = 1 → a = true → b ≠ s.flag F.SESS_SLK.b_rb → ∃ t, exec (.slkReadbackSample a b) s = .next t
      ∧ t.get F.SESS_SLK.fault = s.get F.SESS_SLK.fault ∧ t.get F.SESS_STAT.start_open = s.get F.SESS_STAT.start_open
      ∧ t.get F.SESS_SLK.a_rb = 1 ∧ t.sess.aRun = 0)
    ∧ (control → s.sess.aRun = 0 → s.sess.bRun < 4 → s.get F.SESS_SLK.b_rb = 0 ∨ s.get F.SESS_SLK.cmd = 1 → ∃ t, exec .slkFaultClear s = .next t ∧ t.get F.SESS_SLK.fault = 0
      ∧ t.sess = s.sess)
    ∧ (1 ≤ s.sess.aRun ∨ 4 ≤ s.sess.bRun ∨ (s.get F.SESS_SLK.b_rb = 1 ∧ s.get F.SESS_SLK.cmd = 0) → exec .slkFaultClear s = .next s)

/-! Poll ladder, bursts, wake inputs and STANDBY (09). -/

namespace Sys2Proof.Claims

/-- The period of a rung in AON ticks (R223). -/
def period (s : State) (r : Nat) : Nat :=
  if s.get (F.POLL_PER.period r) = 0 then 8192 * 2 ^ r else s.get (F.POLL_PER.period r)

/-- The dwell of a rung below the last in AON ticks (R223). -/
def dwell (s : State) (r : Nat) : Nat :=
  (if s.get (F.POLL_DWELL.dwell r) = 0 then [2, 10, 60, 360, 1440, 4320, 10080].getD r 0 else s.get (F.POLL_DWELL.dwell r))
    * 60 * 32768

/-- The ladder has dropped: rung 0, its dwell and the next burst counted from this tick (R224). -/
def Dropped (s t : State) : Prop :=
  t.get F.POLL_STAT.rung = 0 ∧ t.poll.due = s.aonTs + period s 0 ∧ t.poll.dwellEnd = s.aonTs + dwell s 0

/-- One burst more is skipped (R229). -/
def Skipped (s t : State) : Prop := t.get F.POLL_CNT.skipped = min 65535 (s.get F.POLL_CNT.skipped + 1)

/-- The supply of every domain but PD_AON is requested off (R228, R235). -/
def AllOff (t : State) (l : List Nat) : Prop := ∀ d ∈ l, (t.doms.getD d {}).phase ≠ .on

end Sys2Proof.Claims

/-- R79, R87, R224 to R229: a due burst is skipped where the synthesiser is owned or the chip wakes, waits out the gap of R56, and else
takes the synthesiser: with PD_CORE on it asks for its grant, with PD_CORE off it powers PD_SBY. The next one is due a period
later whatever becomes of it, also with groups 0. The dwell's end moves the ladder one rung up and leaves the burst already due;
a write of 0 to en withdraws a burst that waits for the gap. -/
def Sys2Proof.Claims.PollSchedule : Prop :=
  ∀ (s : State), s.doms.length = 10 →
    let r := s.get F.POLL_STAT.rung
    let on := s.get F.POLL_CTRL.en = 1 ∧ s.get F.POLL_CFG.groups ≠ 0
    let running := s.get F.LF_STAT.owner = 1 ∧ s.lf.stage ≠ .wait
    let blocked := s.get F.POLL_STAT.state = 3 ∨ s.get F.LF_STAT.owner ≠ 0 ∨ s.poll.burst ≠ .idle
    (s.get F.POLL_CTRL.en = 0 → exec .burstDue s = .next s)
    ∧ (s.get F.POLL_CTRL.en = 1 → s.get F.POLL_CFG.groups = 0 →
      exec .burstDue s = .next { s with poll := { s.poll with due := s.aonTs + period s r } })
    ∧ (on → blocked → ∃ t, exec .burstDue s = .next t ∧ Skipped s t ∧ t.lf = s.lf ∧ t.get F.POLL_STAT.rung = r
      ∧ t.poll = { s.poll with due := s.aonTs + period s r } ∧ t.get F.LF_STAT.owner = s.get F.LF_STAT.owner)
    ∧ (on → ¬ blocked → s.lf.gap = true → exec .burstDue s =
      .next { s with poll := { s.poll with due := s.aonTs + period s r, burst := .delayed }, lf := { s.lf with pollWait := true } })
    ∧ (on → ¬ blocked → s.lf.gap = false → ∃ t, exec .burstDue s = .next t
      ∧ t.poll = { s.poll with due := s.aonTs + period s r, burst := .due } ∧ t.get F.LF_STAT.owner = 2
      ∧ t.get F.LF_STAT.busy = 1 ∧ t.get F.LF_TXN_STAT.code = 1 ∧ t.lf = { s.lf with stage := .wait, cut := none }
      ∧ (domOn s 2 = true → t.get (F.PWR_REQ.state 1) ≠ 0
        ∧ t.get (F.PWR_REQ.req 1) = s.get (F.LF_VCOST.cost (s.get F.LF_FRAME_VEC.poll_vec)))
      ∧ (domOn s 2 = false → t.get F.POLL_STAT.state = 2
        ∧ ((s.doms.getD 1 {}).phase = .off → (t.doms.getD 1 {}).phase = .switchOn)))
    ∧ (r = 7 → exec .dwellExpiry s = .next s)
    ∧ (r < 7 → ∃ t, exec .dwellExpiry s = .next t ∧ t.get F.POLL_STAT.rung = r + 1 ∧ t.poll.due = s.poll.due
      ∧ (r < 6 → t.poll.dwellEnd = s.aonTs + dwell s (r + 1)) ∧ (r = 6 → t.get F.POLL_LVL.dwell_left = 0))
    ∧ (∃ t, exec (.pollEnWrite false) s = .next t ∧ t.get F.POLL_CTRL.en = 0
      ∧ (s.poll.burst ≠ .delayed → t.poll = s.poll ∧ t.lf = s.lf)
      ∧ (s.poll.burst = .delayed → t.poll = { s.poll with burst := .idle } ∧ t.lf = { s.lf with pollWait := false }))
    ∧ (∃ t, exec (.pollEnWrite true) s = .next t ∧ t.get F.POLL_CTRL.en = 1
      ∧ (s.get F.POLL_CTRL.en = 0 → Dropped s t)
      ∧ (s.get F.POLL_CTRL.en = 1 → t.poll = s.poll ∧ t.get F.POLL_STAT.rung = r))
    ∧ (∃ t, exec .pollCntClr s = .next t ∧ t.get F.POLL_CNT.bursts = 0 ∧ t.get F.POLL_CNT.skipped = 0 ∧ t.poll = s.poll)
    ∧ (s.lf.gap = false ∨ running → exec .txnGapEnd s = .next s)
    ∧ (s.lf.gap = true → ¬ running → s.sess.trigs = [] →
      (s.lf.pollWait = false → exec .txnGapEnd s = .next { s with lf := { s.lf with gap := false } })
      ∧ (s.lf.pollWait = true → s.get F.LF_STAT.owner = 0 → ∃ t, exec .txnGapEnd s = .next t ∧ t.poll.burst = .due
        ∧ t.poll.due = s.poll.due ∧ t.get F.LF_STAT.owner = 2 ∧ t.lf.gap = false ∧ t.lf.pollWait = false)
      ∧ (s.lf.pollWait = true → s.get F.LF_STAT.owner ≠ 0 → ∃ t, exec .txnGapEnd s = .next t ∧ t.poll.burst = .idle
        ∧ Skipped s t ∧ t.lf.gap = false))

/-- R97, R113 to R115, R226 to R229, R236: a burst's preface drives poll_vec, counts the burst, takes the next group and clears what
the burst before left; with PD_CORE off and VDRV out of its limits the burst is skipped. At its end the receivers listen; the end
of the listen gives the synthesiser back, and with PD_CORE off switches the domains off or begins a wake that was met. -/
def Sys2Proof.Claims.PollBursts : Prop :=
  ∀ (vdrv : BitVec 8) (ts : Stmp) (meas : List AerMeas) (s : State), s.doms.length = 10 →
    let g := s.get F.POLL_STAT.group
    let groups := s.get F.POLL_CFG.groups
    let due := s.poll.burst = .due ∧ burstReady s = true
    let vec := fun (n : Nat) => s.word (F.POLL_SHADOW.copy n).addr
    let cfg := fun (n : Nat) => s.word (F.POLL_SHADOW.copy (12 + n)).addr
    let y := fun (n : Nat) => ((if bitsOf (cfg n) 18 1 = 1 then bitsOf (vec n) 0 8 * bitsOf (cfg n) 0 8 else 0) + 64) / 128
    let top := ((List.range 12).map y).foldl max 0
    let legal := 73 ≤ vdrv.toNat ∧ vdrv.toNat ≤ 237
    let sleeps := fun (t : State) => domOn s 2 = false → s.poll.wakeDue = false →
      AllOff t [1, 3, 4, 5, 6, 7, 8, 9] ∧ (s.get F.POLL_STAT.state = 2 → t.get F.POLL_STAT.state = 1)
    (¬ due → exec (.burstWakePStart vdrv) s = .next s)
    ∧ (domOn s 2 = true → s.get (F.PWR_REQ.state 1) ≠ 2 → exec (.burstWakePStart vdrv) s = .next s)
    ∧ (due → domOn s 2 = true ∨ legal → ∃ t, exec (.burstWakePStart vdrv) s = .next t
      ∧ t.poll = { s.poll with burst := .wakeP, burstGroup := g } ∧ t.lf.stage = .wake ∧ t.get F.LF_STAT.owner = 2
      ∧ t.get F.POLL_CNT.bursts = min 65535 (s.get F.POLL_CNT.bursts + 1) ∧ t.get F.LF_VDRV.vdrv = vdrv.toNat
      ∧ (∀ k, k < 4 → bit groups ((g + 1 + k) % 4) = true → (∀ i, i < k → bit groups ((g + 1 + i) % 4) = false) →
        t.get F.POLL_STAT.group = (g + 1 + k) % 4)
      ∧ (domOn s 2 = true → (∀ e, e < 4 → t.get (F.UHF_REC_W0.status e) = 0) ∧ t.get F.VERD_PRES.valid = 0
        ∧ Fitted t (s.get F.LF_FRAME_VEC.poll_vec) (comp t vdrv.toNat)
          (if s.get (F.PWR_REQ.grant 1) < s.get (F.PWR_REQ.req 1)
            then s.get (F.PWR_REQ.grant 1) * 32768 / s.get (F.PWR_REQ.req 1) else 32768))
      ∧ (domOn s 2 = false → ∀ n, n < 12 → t.lf.aEff.getD n 0 =
          (if aerUp t n = false then 0 else if top ≤ 255 then y n else (y n * 255 + top / 2) / top)
        ∧ t.lf.pEff.getD n 0 = (bitsOf (vec n) 16 10 + bitsOf (cfg n) 8 10) % 1024)
      ∧ t.uhf.pollLatch = none)
    ∧ (due → domOn s 2 = false → ¬ legal → s.lf.txnWait = false → s.get F.LF_STAT.owner = 2 →
      ∃ t, exec (.burstWakePStart vdrv) s = .next t ∧ t.poll.burst = .idle ∧ Skipped s t ∧ t.get F.LF_STAT.owner = 0
        ∧ t.lf.aEff = s.lf.aEff ∧ sleeps t)
    ∧ (s.poll.burst ≠ .wakeP ∨ s.get F.LF_STAT.owner ≠ 2 → exec (.burstListenStart ts meas) s = .next s)
    ∧ (s.poll.burst = .wakeP → s.get F.LF_STAT.owner = 2 → ∃ t, exec (.burstListenStart ts meas) s = .next t
      ∧ t.poll = { s.poll with burst := .listen } ∧ t.lf.stage = .listen ∧ t.lf.cut = none ∧ Silent t
      ∧ (domOn s 7 = true → Strobed t 0 ts)
      ∧ t.get F.LF_TXN_STAT.code = (if s.lf.unitOver then 10 else s.lf.cut.getD 2 % 16)
      ∧ (domOn s 6 = true → s.uhf.cut0 = false → s.uhf.cut1 = false → s.get F.UHF_CTRL.u0_en = 1 → s.get F.UHF_CTRL.u1_en = 1 →
        t.get F.UHF_STAT.u0_state = 3 ∧ t.get F.UHF_STAT.u1_state = 3))
    ∧ (s.poll.burst ≠ .listen → exec .burstListenEnd s = .next s)
    ∧ (s.poll.burst = .listen → s.get F.LF_STAT.owner = 2 → s.lf.txnWait = false → ∃ t, exec .burstListenEnd s = .next t
      ∧ t.poll.burst = .idle ∧ t.lf.stage = .idle ∧ t.get F.LF_STAT.owner = 0 ∧ t.get F.LF_STAT.busy = 0
      ∧ t.get (F.PWR_REQ.state 1) = 0 ∧ t.uhf.open_ = [] ∧ t.uhf.sync = [] ∧ (domOn s 2 = true → t.doms = s.doms) ∧ sleeps t
      ∧ (domOn s 2 = false → s.poll.wakeDue = true → t.get F.POLL_STAT.state = 3 ∧ t.poll.wakeDue = false
        ∧ t.get F.RST_STAT.step = (if s.bitAt F.CLK_STAT.good 2 then 2 else 13)))

/-- Bursts fall due by the ladder, run or are skipped, and leave the receivers and domains as ruled: `Claims.PollSchedule`, `Claims.PollBursts`. -/
def Obligations.PollLadder : Prop :=
  Sys2Proof.Claims.PollSchedule ∧ Sys2Proof.Claims.PollBursts

/-- R224, R231, R232, R236: every enabled input is measured; the baseline of an untouched one follows by a 64th of the difference; a
touch or door event is accepted after its run of scans or samples, drops the ladder and, unless the chip is ACTIVE, sets its bit
in POLL_WAKE, is held in order and wakes the chip. In ACTIVE it is a trigger, latched while a transaction is open. -/
def Sys2Proof.Claims.WakeInputs : Prop :=
  ∀ (counts : List (BitVec 16)) (levels : BitVec 8) (n : Fin 8) (s : State), s.poll.hsRun.length = 8 → s.poll.dsRun.length = 8 →
    let c := fun (m : Nat) => (counts.getD m 0).toNat
    let b := fun (m : Nat) => s.get (F.POLL_HS.base m)
    let thr := if s.get F.POLL_HS_CFG.thr = 0 then 32 else 4 * s.get F.POLL_HS_CFG.thr
    let acc := if s.get F.POLL_HS_CFG.acc = 0 then 2 else s.get F.POLL_HS_CFG.acc
    let deb := if s.get F.POLL_DS_CFG.deb = 0 then 10 else s.get F.POLL_DS_CFG.deb
    let en := fun (m : Nat) => s.bitAt F.POLL_HS_CFG.hs_en m = true
    let den := fun (m : Nat) => s.bitAt F.POLL_DS_CFG.ds_en m = true
    let touched := fun (m : Nat) => s.bitAt F.POLL_LVL.hs_touch m = true
    let run := fun (m : Nat) => s.poll.hsRun.getD m 0 + 1
    let drun := fun (m : Nat) => s.poll.dsRun.getD m 0 + 1
    let accepts := fun (m : Nat) => en m ∧ ¬ touched m ∧ b m + 4 * thr ≤ c m ∧ acc ≤ run m
    let turns := fun (m : Nat) => den m ∧ bit levels.toNat m ≠ s.bitAt F.POLL_LVL.ds_lvl m ∧ deb ≤ drun m
    let opening := bit levels.toNat n == s.bitAt F.POLL_DS_CFG.open_lvl n
    let waits := s.get F.POLL_STAT.state = 0 ∧ s.get F.SESS_STAT.txn_open = 1 ∧ s.get F.SESS_CTRL.en = 1
    ((∀ m, m < 8 → ¬ accepts m) → ∃ t, exec (.hsScan counts) s = .next t
      ∧ t.get F.POLL_STAT.rung = s.get F.POLL_STAT.rung ∧ t.sess = s.sess ∧ t.txn = s.txn
      ∧ (¬ en n → t.word (F.POLL_HS.base n).addr = s.word (F.POLL_HS.base n).addr)
      ∧ (en n → t.get (F.POLL_HS.count n) = c n)
      ∧ (en n → ¬ touched n → t.bitAt F.POLL_LVL.hs_touch n = false
        ∧ ((64 : Int) ∣ (c n : Int) - b n → (t.get (F.POLL_HS.base n) : Int) = b n + ((c n : Int) - b n) / 64)
        ∧ 64 * (t.get (F.POLL_HS.base n) : Int) - (64 * b n + ((c n : Int) - b n)) < 64
        ∧ (64 * b n + ((c n : Int) - b n)) - 64 * (t.get (F.POLL_HS.base n) : Int) < 64
        ∧ t.poll.hsRun.getD n 0 = (if b n + 4 * thr ≤ c n then run n else 0))
      ∧ (en n → touched n → (t.bitAt F.POLL_LVL.hs_touch n = false ↔ (c n : Int) - b n < 2 * thr ∧ acc ≤ run n)))
    ∧ (accepts n → s.get F.POLL_STAT.state = 1 → ∃ t, exec (.hsScan counts) s = .next t
      ∧ t.bitAt F.POLL_LVL.hs_touch n = true ∧ Dropped s t ∧ t.bitAt F.POLL_WAKE.hs n = true
      ∧ (n.val, false) ∈ t.poll.wakeTrigs ∧ t.get F.POLL_STAT.state = 3)
    ∧ (accepts n → s.get F.POLL_HS_CFG.hs_en = 2 ^ n.val → waits → s.get (F.SESS_HS.kind n) ≠ 3 →
      (∀ q ∈ s.sess.trigs, q.source ≠ n.val) → ∃ t, exec (.hsScan counts) s = .next t ∧ Dropped s t ∧ t.txn = s.txn
        ∧ t.sess.trigs = s.sess.trigs ++
          [{ source := n, kind := s.get (F.SESS_HS.kind n), mask := s.get (F.SESS_HS.mask n) }])
    ∧ ((∀ m, m < 8 → ¬ turns m) → ∃ t, exec (.dsSample levels) s = .next t ∧ t.regs = s.regs ∧ t.sess = s.sess
      ∧ (den n → t.poll.dsRun.getD n 0 = if bit levels.toNat n = s.bitAt F.POLL_LVL.ds_lvl n then 0 else drun n))
    ∧ (turns n → s.get F.POLL_STAT.state = 1 → ∃ t, exec (.dsSample levels) s = .next t
      ∧ t.bitAt F.POLL_LVL.ds_lvl n = bit levels.toNat n ∧ Dropped s t ∧ t.bitAt F.POLL_WAKE.ds n = true
      ∧ (8 + n.val, opening) ∈ t.poll.wakeTrigs ∧ t.get F.POLL_STAT.state = 3)
    ∧ (turns n → s.get F.POLL_DS_CFG.ds_en = 2 ^ n.val → waits → s.get F.SESS_STAT.entry_open = 0 →
      s.get F.SESS_STAT.start_open = 0 → s.get (F.SESS_DS.trig n) = 3 → s.get (F.SESS_DS.kind n) ≠ 3 →
      (∀ q ∈ s.sess.trigs, q.source ≠ 8 + n.val) → ∃ t, exec (.dsSample levels) s = .next t ∧ Dropped s t ∧ t.txn = s.txn
        ∧ t.sess.trigs = s.sess.trigs ++
          [{ source := 8 + n, kind := s.get (F.SESS_DS.kind n), mask := s.get (F.SESS_DS.mask n) }])

/-- R224, R233, R235, R236: a wake event counts only in STANDBY or BURST: it starts WAKING, after the burst's listen in BURST; touch,
door and host wakes drop the ladder. Only a tagged write requests STANDBY; it is refused while anything is open, latched or
polling is off, else a store is commanded; a host wake cancels it; when the store has ended every domain but PD_AON goes off. -/
def Sys2Proof.Claims.WakesAndSleep : Prop :=
  ∀ (n : Fin 8) (w : WakeSrc) (o : Bool) (s : State), s.doms.length = 10 →
    let refuse := s.get F.SESS_STAT.entry_open = 1 ∨ s.get F.SESS_STAT.start_open = 1 ∨ s.get F.SESS_STAT.txn_open = 1
      ∨ s.txn.open_ = true ∨ s.sess.trigs ≠ [] ∨ s.get F.POLL_CTRL.en = 0
    let holds := fun (e : Nat × Bool) => if e ∈ s.poll.wakeTrigs then s.poll.wakeTrigs else s.poll.wakeTrigs ++ [e]
    let begun := fun (t : State) => t.get F.POLL_STAT.state = 3
      ∧ t.get F.RST_STAT.step = (if s.bitAt F.CLK_STAT.good 2 then 2 else 13)
    let hostWakes : State → Instr → Prop := fun s c =>
      (s.get F.POLL_STAT.state = 0 → ∃ t, exec c s = .next t ∧ Dropped s t ∧ t.poll.sleepReq = false
        ∧ t.get F.POLL_WAKE.host = s.get F.POLL_WAKE.host ∧ t.get F.POLL_STAT.state = 0)
      ∧ (s.get F.POLL_STAT.state = 1 → ∃ t, exec c s = .next t ∧ Dropped s t ∧ t.get F.POLL_WAKE.host = 1 ∧ begun t
        ∧ (16, false) ∈ t.poll.wakeTrigs)
    (s.get F.POLL_STAT.state ≠ 1 → s.get F.POLL_STAT.state ≠ 2 → exec (.wakeEvent w) s = .next s)
    ∧ (s.get F.POLL_STAT.state = 1 →
      (∃ t, exec (.wakeEvent (.touch n)) s = .next t ∧ begun t ∧ Dropped s t ∧ t.bitAt F.POLL_WAKE.hs n = true
        ∧ t.poll.wakeTrigs = holds (n.val, false))
      ∧ (∃ t, exec (.wakeEvent (.door n o)) s = .next t ∧ begun t ∧ Dropped s t ∧ t.bitAt F.POLL_WAKE.ds n = true
        ∧ t.poll.wakeTrigs = holds (8 + n.val, o))
      ∧ (∃ t, exec (.wakeEvent .host) s = .next t ∧ begun t ∧ Dropped s t ∧ t.get F.POLL_WAKE.host = 1
        ∧ t.poll.wakeTrigs = holds (16, false))
      ∧ ∀ e ∈ [(WakeSrc.presence, F.POLL_WAKE.presence), (.tamper, F.POLL_WAKE.tamper)],
        ∃ t, exec (.wakeEvent e.1) s = .next t ∧ begun t ∧ t.get e.2 = 1
          ∧ t.get F.POLL_STAT.rung = s.get F.POLL_STAT.rung ∧ t.poll.due = s.poll.due)
    ∧ (s.get F.POLL_STAT.state = 2 → ∃ t, exec (.wakeEvent w) s = .next t ∧ t.poll.wakeDue = true
      ∧ t.get F.POLL_STAT.state = 2 ∧ t.poll.burst = s.poll.burst ∧ t.doms = s.doms)
    ∧ (domOn s 8 = false → exec .hostWakeWrite s = .next s) ∧ (domOn s 8 = true → exec .hostWakePin s = .next s)
    ∧ (domOn s 8 = true → hostWakes s .hostWakeWrite) ∧ (domOn s 8 = false → hostWakes s .hostWakePin)
    ∧ (exec (.sleep false) s = .next s)
    ∧ (refuse → ∃ t, exec (.sleep true) s = .next t ∧ t.get F.POLL_STAT.sleep_refused = 1 ∧ t.poll = s.poll ∧ t.loft = s.loft)
    ∧ (¬ refuse → ∃ t, exec (.sleep true) s = .next t ∧ t.poll = { s.poll with sleepReq := true }
      ∧ (t.loft.heldReq = true ∨ t.loft.store ≠ none) ∧ (wtSleep ∈ t.loft.waitNow ∨ wtSleep ∈ t.loft.waitNext)
      ∧ t.doms = s.doms)
    ∧ (s.poll.sleepReq = false ∨ storeOver s wtSleep = false → exec .standbyEnter s = .next s)
    ∧ (s.poll.sleepReq = true → storeOver s wtSleep = true → s.loft.store = none → s.loft.commit = none → s.lf.stage = .idle → s.txn.open_ = false →
      ∃ t, exec .standbyEnter s = .next t ∧ t.get F.POLL_STAT.state = 1 ∧ t.poll.sleepReq = false
        ∧ AllOff t [1, 2, 3, 4, 5, 6, 7, 8, 9] ∧ t.doms.getD 0 {} = s.doms.getD 0 {})

/-- Handle, door and wake events drop the ladder and wake or trigger; STANDBY follows a tagged request: `Claims.WakeInputs`, `Claims.WakesAndSleep`. -/
def Obligations.WakesAndSleep : Prop :=
  Sys2Proof.Claims.WakeInputs ∧ Sys2Proof.Claims.WakesAndSleep

/-! Power domains, current budget and clocks (17). -/

/-- R87, R144, R412 to R418: a request still queued at its deadline is withdrawn, the miss is counted and its requester ends its work;
the VDRV budget follows the hotter bank sensor and a sweep grant is lowered to what is left; a queued request is granted whole
where it fits, a sweep request in part down to part_min sixteenths, the poll before calibration; two VDD33 measurements in a
row above the budget alarm. A transaction that ends may let a latched trigger run, hence the hypotheses on the triggers. -/
def Obligations.PowerGrants : Prop :=
  ∀ (r : Fin 5) (a b : BitVec 8) (i33 idrv : BitVec 10) (s : State),
    let held := fun (r : Nat) => if s.get (F.PWR_REQ.state r) = 2 then s.get (F.PWR_REQ.grant r) else 0
    let budget := fun (f : Nat) => (if s.get F.PWR_BUD_VDRV.budget = 0 then 400 else s.get F.PWR_BUD_VDRV.budget) * f / 16
    let hot := max a.toNat b.toNat
    let f := if s.get F.PWR_PART.derate_en = 0 ∨ hot ≤ 189 then 16 else if 214 ≤ hot then 8 else max 8 (16 - (hot - 189) * 8 / 25)
    let room := fun (f used : Nat) => budget f - (s.get F.PWR_BUD_VDRV.reserve + used)
    let part := if s.get F.PWR_PART.part_min = 0 then 8 else s.get F.PWR_PART.part_min
    let amount := fun (r : Nat) => s.get (F.PWR_REQ.req r)
    let misses := fun (t : State) => t.get F.PWR_MGR_CNT.misses = min 65535 (s.get F.PWR_MGR_CNT.misses + 1)
    let derated := fun (t : State) => t.get F.PWR_MGR_STAT.derate = f ∧ t.get F.LF_TEMP.lfa_temp = a.toNat
      ∧ t.get F.LF_TEMP.lfb_temp = b.toNat
    let overdrawn := (if s.get F.PWR_BUD_VDD33.budget = 0 then 60 else s.get F.PWR_BUD_VDD33.budget) < i33.toNat
    ((∀ e ∈ s.man.queue, e ≠ (r.val, true)) → exec (.grantDeadline r) s = .next s)
    ∧ ((0, true) ∈ s.man.queue → s.get F.LF_STAT.owner = 1 → s.lf.txnWait = false → s.lf.next = none → s.sess.trigs = [] →
      ∃ t, exec (.grantDeadline 0) s = .next t ∧ LfEnded t 5 ∧ t.get F.LF_GRANT.miss = 1 ∧ misses t
        ∧ t.get (F.PWR_REQ.state 0) = 0 ∧ t.get (F.PWR_REQ.grant 0) = 0 ∧ Silent t)
    ∧ ((1, true) ∈ s.man.queue → s.get F.LF_STAT.owner = 2 → s.lf.txnWait = false → domOn s 2 = true →
      ∃ t, exec (.grantDeadline 1) s = .next t ∧ LfEnded t 5 ∧ t.get F.LF_GRANT.miss = 1 ∧ misses t ∧ Skipped s t
        ∧ t.poll.burst = .idle ∧ t.get (F.PWR_REQ.state 1) = 0)
    ∧ ((3, true) ∈ s.man.queue → s.uwb.exch = none → s.txn.slots.length = 8 → s.sess.trigs = [] →
      ∃ t, exec (.grantDeadline 3) s = .next t ∧ t.get F.UWB_GRANT.miss = 1 ∧ misses t ∧ t.get (F.PWR_REQ.state 3) = 0
        ∧ t.uwb.later = some 7 ∧ ∀ i : Fin 8, (s.slotT i).tracked = true → (s.slotT i).uwbOver = false →
          t.get (F.UWB_REC_W0.rstat i) = 7 ∧ (t.slotT i).uwbOver = true)
    ∧ (s.man.queue = [] → ∃ t, exec (.derateTick a b) s = .next t ∧ derated t
      ∧ t.get (F.PWR_REQ.grant 0) = (if s.get (F.PWR_REQ.state 0) = 2
        then min (s.get (F.PWR_REQ.grant 0)) (room f (held 1 + held 2)) else s.get (F.PWR_REQ.grant 0))
      ∧ ∀ q, 1 ≤ q → q < 5 → t.get (F.PWR_REQ.grant q) = s.get (F.PWR_REQ.grant q))
    ∧ (s.man.queue = [(0, true)] → s.get (F.PWR_REQ.state 0) = 1 → ∃ t, exec (.derateTick a b) s = .next t ∧ derated t
      ∧ (amount 0 ≤ room f (held 1 + held 2) →
        t.get (F.PWR_REQ.state 0) = 2 ∧ t.get (F.PWR_REQ.grant 0) = amount 0 ∧ t.man.queue = [])
      ∧ (room f (held 1 + held 2) < amount 0 → amount 0 * part ≤ room f (held 1 + held 2) * 16 →
        t.get (F.PWR_REQ.state 0) = 2 ∧ t.get (F.PWR_REQ.grant 0) = room f (held 1 + held 2)
          ∧ t.get F.PWR_MGR_CNT.partial_ = min 65535 (s.get F.PWR_MGR_CNT.partial_ + 1))
      ∧ (room f (held 1 + held 2) < amount 0 → room f (held 1 + held 2) * 16 < amount 0 * part →
        t.get (F.PWR_REQ.state 0) = 1 ∧ t.man = s.man))
    ∧ (∀ x y, s.man.queue = [(2, x), (1, y)] → s.get (F.PWR_REQ.state 0) = 0 → s.get (F.PWR_REQ.state 1) = 1 →
      s.get (F.PWR_REQ.state 2) = 1 → amount 1 ≤ room f 0 → ∃ t, exec (.derateTick a b) s = .next t ∧ derated t
        ∧ t.get (F.PWR_REQ.state 1) = 2 ∧ t.get (F.PWR_REQ.grant 1) = amount 1
        ∧ (t.get (F.PWR_REQ.state 2) = 2 ↔ amount 2 ≤ room f (amount 1)))
    ∧ (domOn s 1 = true → s.get F.LF_STAT.owner = 0 → s.man.queue = [] → s.get (F.PWR_REQ.state 2) ≠ 2 →
      ∃ t, exec .calStart s = .next t ∧ t.get (F.PWR_REQ.req 2) = s.get F.LF_CAL_CTRL.cal_cost
        ∧ (t.get (F.PWR_REQ.state 2) = 2 ↔ s.get F.LF_CAL_CTRL.cal_cost ≤ room (s.get F.PWR_MGR_STAT.derate) (held 0 + held 1)))
    ∧ ∃ t, exec (.vdd33Sense i33 idrv) s = .next t ∧ t.get F.PWR_ISENSE.vdd33 = i33.toNat ∧ t.get F.PWR_ISENSE.vdrv = idrv.toNat
      ∧ t.man = { s.man with above := decide overdrawn }
      ∧ (overdrawn → s.man.above = true → t.get F.PWR_MGR_STAT.alarm = 1 ∧ t.get F.HLTH_EVT.mgr = 1)
      ∧ (¬ overdrawn ∨ s.man.above = false → t.get F.PWR_MGR_STAT.alarm = s.get F.PWR_MGR_STAT.alarm
        ∧ t.get F.HLTH_EVT.mgr = s.get F.HLTH_EVT.mgr)

/-- R402 to R405, R407: a switch-on begins in an off domain and is held in one switching off; only a bank or radio that a running
plan's policy allows off is switched off, AUTO without work, OFF always; a domain whose blocks are quiet loses its supply and
its state, its clocks stop, and the held switch-on begins. A switch-off requested during a switch-on waits. -/
def Obligations.DomainSwitching : Prop :=
  ∀ (d : Fin 10) (s : State), s.doms.length = 10 →
    let p := s.doms.getD d {}
    let phase := fun (t : State) => (t.doms.getD d {}).phase
    let mayOn := d.val ≠ 0 ∧ s.get F.RST_STAT.step = 11 ∧ domOn s 2 = true ∧ s.bitAt F.RST_STAT.held d = false
      ∧ ¬ (s.yard.applied = true ∧ domPolicy s d = 2)
    let idle := s.txn.open_ = false ∧ s.sess.trigs = [] ∧ s.get F.LF_STAT.owner = 0 ∧ s.poll.burst = .idle ∧ s.uwb.calRun = false
      ∧ s.uwb.tscalRun = false
    let mayOff := 4 ≤ d.val ∧ d.val ≤ 7 ∧ s.yard.applied = true
    (¬ mayOn → exec (.domainSwitchOn d) s = .next s)
    ∧ (mayOn → ∃ t, exec (.domainSwitchOn d) s = .next t ∧ t.regs = s.regs
      ∧ (p.phase = .off → phase t = .switchOn) ∧ (p.phase = .switchOff → t.doms.getD d {} = { phase := .switchOff, held := true })
      ∧ (p.phase ≠ .off → p.phase ≠ .switchOff → t = s))
    ∧ (¬ mayOff ∨ domPolicy s d = 0 ∨ domPolicy s d = 3 ∨ (domPolicy s d = 1 ∧ s.txn.open_ = true) →
      exec (.domainSwitchOff d) s = .next s ∧ exec (.autoHoldExpiry d) s = .next s)
    ∧ (domPolicy s d ≠ 1 ∨ domOn s d = false → exec (.autoHoldExpiry d) s = .next s)
    ∧ (mayOff → domPolicy s d = 2 ∨ (domPolicy s d = 1 ∧ idle) →
      (p.phase = .on → ∃ t, exec (.domainSwitchOff d) s = .next t ∧ phase t = .switchOff ∧ domOn t d = domOn s d)
      ∧ (p.phase = .switchOn → ∃ t, exec (.domainSwitchOff d) s = .next t
        ∧ t.doms.getD d {} = { phase := .switchOn, held := true } ∧ t.regs = s.regs)
      ∧ (p.phase = .off → exec (.domainSwitchOff d) s = .next s))
    ∧ (mayOff → domPolicy s d = 1 → idle → domOn s d = true → p.phase = .on →
      ∃ t, exec (.autoHoldExpiry d) s = .next t ∧ phase t = .switchOff)
    ∧ (p.phase ≠ .switchOff ∨ domQuiet s d = false → exec (.domainOffProceed d) s = .next s)
    ∧ (d ≠ 0 → p.phase = .switchOff → domQuiet s d = true → (d = 7 → s.txn.open_ = false) → ∃ t, exec (.domainOffProceed d) s = .next t ∧ domOn t d = false
      ∧ t.bitAt F.PWR_DOM_STAT.pg d = false ∧ t.doms.getD d {} = { phase := if p.held then .switchOn else .off }
      ∧ (∀ e : Fin 10, e ≠ d → domOn t e = domOn s e ∧ t.doms.getD e {} = s.doms.getD e {})
      ∧ (∀ c, c < 12 → clkRuns t c = false → t.bitAt F.CLK_STAT.good c = false)
      ∧ (d = 1 → t.lf = {})
      ∧ (d = 2 → t.sess = {} ∧ t.txn = {} ∧ t.yard = {} ∧ t.eng = List.replicate 8 {} ∧ t.feed = [] ∧ t.solv = {})
      ∧ (d = 3 → ∀ h, h < 48 → (t.keys.slots.getD h {}).live = false)
      ∧ (d = 6 → t.uhf.open_ = [] ∧ t.uhf.sync = []) ∧ (d = 7 → t.uwb = {})
      ∧ (d = 8 → t.host = {} ∧ t.get F.HOST_STAT.bound = 0)
      ∧ (d = 9 → t.loft = { copyA := s.loft.copyA, copyB := s.loft.copyB, rings := s.loft.rings }))

/-- R405: a switch-off that has begun completes once its domain's blocks are quiet, whatever is asked meanwhile; a switch-on asked
during it is held and begins as the domain reads off; a switch-off asked during a switch-on, by policy or at the end of a burst,
takes effect once the domain is released. -/
def Obligations.HeldSwitches : Prop :=
  ∀ (d : Fin 10) (s : State), s.doms.length = 10 → d ≠ 0 → s.txn.open_ = false →
    let p := s.doms.getD d {}
    let asks := s.get F.RST_STAT.step = 11 ∧ domOn s 2 = true ∧ s.bitAt F.RST_STAT.held d = false
      ∧ ¬ (s.yard.applied = true ∧ domPolicy s d = 2)
    let off := fun (t : State) => domOn t d = false ∧ t.bitAt F.PWR_DOM_STAT.pg d = false
    let rising := p.phase = .switchOn ∨ p.phase = .waitClock
    (p.phase = .switchOff → asks → ∃ t, exec (.domainSwitchOn d) s = .next t ∧ t.regs = s.regs
      ∧ t.doms.getD d {} = { phase := .switchOff, held := true })
    ∧ (p.phase = .switchOff → domQuiet s d = true → p.held = false → ∃ t, exec (.domainOffProceed d) s = .next t ∧ off t
      ∧ t.doms.getD d {} = { phase := .off })
    ∧ (p.phase = .switchOff → domQuiet s d = true → p.held = true → ∃ t, exec (.domainOffProceed d) s = .next t ∧ off t
      ∧ t.doms.getD d {} = { phase := .switchOn })
    ∧ (rising → 4 ≤ d.val → d.val ≤ 7 → s.yard.applied = true → domPolicy s d = 2 → ∃ t, exec (.domainSwitchOff d) s = .next t
      ∧ t.regs = s.regs ∧ t.doms.getD d {} = { p with held := true })
    ∧ (p.phase = .switchOn → p.held = true → railUp s d = true → ¬ (d.val = 9 ∧ s.loft.pf = true) →
      (∀ k, ownClock s d = some k → s.bitAt F.CLK_STAT.good k = true) → s.get F.UWB_STAT.ts_ready = 0 →
      ∃ t, exec (.powerGood d) s = .next t ∧ domOn t d = true ∧ t.doms.getD d {} = { phase := .switchOff })
    ∧ (p.phase = .switchOn → p.held = true → railUp s d = true → ¬ (d.val = 9 ∧ s.loft.pf = true) →
      ∀ k, ownClock s d = some k → s.bitAt F.CLK_STAT.good k = false → ∃ t, exec (.powerGood d) s = .next t
        ∧ domOn t d = domOn s d ∧ t.doms.getD d {} = { phase := .waitClock, held := true })

/-- R401, R403, R405 to R407, R409, R418, R425 to R427: power-good starts a domain's generators, and the domain is released with
its own clock's clock-good; STMP comes with UWB, AON releases the blocks on it and REF lets the sequence go on; a clock that
does not come holds its domain; two windows in a row outside a clock's tolerance drop its clock-good, which in a released domain
resets the chip. -/
def Obligations.DomainClocks : Prop :=
  ∀ (d : Fin 10) (c : Fin 12) (dev : BitVec 16) (s : State), s.doms.length = 10 → s.man.badWin.length = 12 →
    let p := s.doms.getD d {}
    let good := fun (t : State) (c : Nat) => t.bitAt F.CLK_STAT.good c
    let released := fun (t : State) => domOn t d = true ∧ (t.doms.getD d {}).phase = if p.held then .switchOff else .on
    let waits := fun (d : Nat) => (s.doms.getD d {}).phase = .waitClock ∧ s.bitAt F.RST_STAT.held d = false
    let starts := p.phase = .switchOn ∧ railUp s d = true ∧ ¬ (d.val = 9 ∧ s.loft.pf = true)
      ∧ (d.val = 7 → s.get F.UWB_STAT.ts_ready = 0)
    let needsRef := c.val = 3 ∨ (5 ≤ c.val ∧ c.val ≤ 9)
    let comes := clkRuns s c = true ∧ (needsRef → good s 2 = true) ∧ s.get F.UWB_STAT.ts_ready = 0
    let margins := [(0, F.CLK_MARG1.aon, 2), (1, F.CLK_MARG0.sby, 60), (2, F.CLK_MARG0.ref, 1), (3, F.CLK_MARG0.core, 4),
      (4, F.CLK_MARG0.ciph, 40), (5, F.CLK_MARG0.lfs, 2), (6, F.CLK_MARG1.uhf, 4), (7, F.CLK_MARG1.uwb, 4), (8, F.CLK_MARG1.stmp, 4),
      (10, F.CLK_MARG1.stor, 50)]
    let bad := s.man.badWin.getD c 0
    (p.phase ≠ .switchOn ∨ railUp s d = false ∨ (d.val = 9 ∧ s.loft.pf = true) → exec (.powerGood d) s = .next s)
    ∧ (starts → (∀ k, ownClock s d = some k → good s k = true) → ∃ t, exec (.powerGood d) s = .next t
      ∧ t.bitAt F.PWR_DOM_STAT.pg d = true ∧ released t)
    ∧ (starts → ∀ k, ownClock s d = some k → good s k = false → ∃ t, exec (.powerGood d) s = .next t
      ∧ t.bitAt F.PWR_DOM_STAT.pg d = true ∧ (t.doms.getD d {}) = { p with phase := .waitClock } ∧ domOn t d = domOn s d)
    ∧ (clkRuns s c = false ∨ (needsRef ∧ good s 2 = false) → exec (.clockGood c) s = .next s)
    ∧ (comes → ∃ t, exec (.clockGood c) s = .next t ∧ good t c = true
      ∧ (c.val ≠ 0 → c.val ≠ 2 → c.val ≠ 8 → waits d → ownClock s d = some c.val → released t)
      ∧ (c = 7 → good t 8 = true) ∧ (c = 0 → t.get F.RST_STAT.aon_wait = 0)
      ∧ (c = 2 → s.get F.RST_STAT.step = 13 → s.rst.wake = true → t.get F.RST_STAT.step = 2)
      ∧ (c = 2 → s.get F.RST_STAT.step = 13 → s.rst.wake = false → s.rst.trimSkip = false → t.get F.RST_STAT.step = 1))
    ∧ ((∀ e, e < 10 → ¬ waits e) → exec .clockGoodTimeout s = .next s)
    ∧ (waits d → (∀ e, e < d.val → ¬ waits e) → ∃ t, exec .clockGoodTimeout s = .next t
      ∧ t.bitAt F.RST_STAT.held d = true ∧ t.get F.RST_CAUSE.clk_loss = 1 ∧ t.get F.CLK_LOSS.valid = 1
      ∧ (∀ k, ownClock s d = some k → k < 12 → t.get F.CLK_LOSS.domain = k) ∧ t.doms = s.doms
      ∧ (seqDomain s = some d.val → s.rst.pos < 8 → t.rst.gap = true))
    ∧ (c = 9 ∨ c = 11 ∨ good s c = false ∨ ((c = 0 ∨ c = 10) ∧ good s 2 = false) → exec (.clockCheckWindow c dev) s = .next s)
    ∧ ∀ m ∈ margins, c.val = m.1 → good s c = true → good s 2 = true →
      let tol := 50 * if s.get m.2.1 = 0 then m.2.2 else s.get m.2.1
      let mag := dev.toInt.natAbs
      let noted := fun (t : State) => t.get (F.HLTH_CLKDEV.dev c) = max (s.get (F.HLTH_CLKDEV.dev c)) mag
      (mag ≤ tol → ∃ t, exec (.clockCheckWindow c dev) s = .next t ∧ good t c = true ∧ t.man.badWin.getD c 0 = 0 ∧ noted t
        ∧ t.doms = s.doms)
      ∧ (tol < mag → bad = 0 → ∃ t, exec (.clockCheckWindow c dev) s = .next t ∧ good t c = true ∧ t.man.badWin.getD c 0 = 1
        ∧ noted t ∧ t.doms = s.doms)
      ∧ (tol < mag → 1 ≤ bad → clkReleased s c = false → ∃ t, exec (.clockCheckWindow c dev) s = .next t
        ∧ good t c = false ∧ noted t ∧ t.doms = s.doms ∧ t.get F.RST_CAUSE.clk_loss = s.get F.RST_CAUSE.clk_loss)
      ∧ (tol < mag → 1 ≤ bad → clkReleased s c = true → ∃ t, exec (.clockCheckWindow c dev) s = .next t
        ∧ good t c = false ∧ t.get F.RST_CAUSE.clk_loss = 1 ∧ t.get F.CLK_LOSS.domain = c ∧ t.get F.CLK_LOSS.valid = 1
        ∧ t.get F.PWR_DOM_STAT.run = 0 ∧ t.yard.applied = false)

/-! Reset, straps and bring-up (18). -/

namespace Sys2Proof.Claims

/-- What a chip reset with a cause leaves (R304, R421): the cause bits stand, every domain is in reset, work, sessions, keys, engines and
the plan are gone; the fuses, the roots, the timestamp, the strap and the waiting commands stay. -/
def ChipReset (s t : State) (cause : Fld) : Prop :=
  t.get cause = 1 ∧ s.word F.RST_CAUSE.por.addr &&& t.word F.RST_CAUSE.por.addr = s.word F.RST_CAUSE.por.addr
    ∧ t.get F.PWR_DOM_STAT.run = 0 ∧ t.yard = {} ∧ t.eng = List.replicate 8 {} ∧ t.feed = [] ∧ t.ciph = {} ∧ t.txn = {}
    ∧ t.sess = {} ∧ t.uwb = {} ∧ t.host = {} ∧ t.lf = {} ∧ t.man = {} ∧ t.loft.gather = none
    ∧ t.keys = { roots := s.keys.roots, tombs := s.keys.tombs, boot := s.keys.boot, exits := s.keys.exits }
    ∧ t.fuses = s.fuses ∧ t.aonTs = s.aonTs ∧ t.pending = s.pending ∧ t.rst.strapDone = s.rst.strapDone
    ∧ t.word F.RST_STRAP.code.addr = s.word F.RST_STRAP.code.addr
    ∧ t.word F.HLTH_TMP_LATCH.latch.addr = s.word F.HLTH_TMP_LATCH.latch.addr

/-- Where the reset controller goes on with the strap read and nRST high (R427, R431). -/
def Begins (s t : State) : Prop := t.get F.RST_STAT.step = if s.bitAt F.CLK_STAT.good 2 then 1 else 13

/-- The fields of reset value fuse hold their trims (R431). -/
def Trimmed (s t : State) : Prop :=
  ∀ w, w < 0x14 → ∀ r ∈ windowRows w, ∀ a ∈ rowAddrs r.base r.dims, ∀ f ∈ r.fields, f.rst = .fuse →
    bitsOf (t.word a) f.lo f.len = bitsOf (Store.get s.fuses a) f.lo f.len

end Sys2Proof.Claims

/-- R304, R420 to R424, R432: POR leaves the reset state but for what fuses and the Loft's copies and rings hold; every other source
sets its bit and causes a chip reset; the software source needs its key and a tag, the watchdog a released PD_CORE, a plan and a
period; a trim load it interrupts counts. -/
def Obligations.ResetSources : Prop :=
  ∀ (v : Word) (vhold : BitVec 8) (tagged : Bool) (s : State),
    let counts := domOn s 2 = true ∧ s.yard.applied = true ∧ s.get F.RST_WDOG.period ≠ 0 ∧ s.get F.RST_STAT.aon_wait = 0
    (∃ t, exec .por s = .next t ∧ t.regs = State.reset.regs ∧ t.get F.RST_CAUSE.por = 1 ∧ t.fuses = s.fuses
      ∧ t.loft = { copyA := s.loft.copyA, copyB := s.loft.copyB, rings := s.loft.rings }
      ∧ t.keys = { roots := s.keys.roots, boot := s.keys.boot, exits := s.keys.exits } ∧ t.yard = {} ∧ t.sess = {} ∧ t.txn = {}
      ∧ t.eng = List.replicate 8 {} ∧ t.rst.strapDone = false ∧ t.pending = s.pending)
    ∧ (∃ t, exec .nrstAssert s = .next t ∧ ChipReset s t F.RST_CAUSE.pin ∧ t.rst.nrstLow = true
      ∧ t.get F.RST_STAT.step = 0
      ∧ (s.get F.RST_STAT.step = 1 → t.get F.RST_STAT.trim_tries = min 3 (s.get F.RST_STAT.trim_tries + 1)
        ∧ (t.rst.trimSkip = true ↔ 2 ≤ s.get F.RST_STAT.trim_tries))
      ∧ (s.get F.RST_STAT.step ≠ 1 → t.get F.RST_STAT.trim_tries = s.get F.RST_STAT.trim_tries))
    ∧ (∃ t, exec .bor18 s = .next t ∧ ChipReset s t F.RST_CAUSE.bor18 ∧ t.rst.bor18 = true)
    ∧ (∃ t, exec (.bor33 vhold) s = .next t ∧ ChipReset s t F.RST_CAUSE.bor33 ∧ t.rst.bor33 = true
      ∧ (s.loft.pf = false → s.get F.LOFT_CFG.pf_en = 0 →
        t.loft = { copyA := s.loft.copyA, copyB := s.loft.copyB, rings := s.loft.rings })
      ∧ (s.loft.pf = false → s.get F.LOFT_CFG.pf_en = 1 → s.get F.LOFT_STAT.state ≠ 1 → t.loft.pf = true
        ∧ t.get F.LOFT_HOLD.v_pf = vhold.toNat))
    ∧ (tagged = false ∨ v ≠ 0x0000_C3C3#32 → exec (.rstCtrlWrite v tagged) s = .next s)
    ∧ (∃ t, exec (.rstCtrlWrite 0x0000_C3C3#32 true) s = .next t ∧ ChipReset s t F.RST_CAUSE.sw
      ∧ (s.rst.nrstLow = false → s.rst.strapDone = true → s.rst.trimSkip = false → s.get F.RST_STAT.step ≠ 1 → Begins s t))
    ∧ (¬ counts → exec .sysWdogExpiry s = .next s)
    ∧ (counts → ∃ t, exec .sysWdogExpiry s = .next t ∧ ChipReset s t F.RST_CAUSE.sys_wdog)
    ∧ (v ≠ 0x0000_6E6E#32 → exec (.rstWdkick v) s = .next s)
    ∧ ∃ t, exec (.rstWdkick 0x0000_6E6E#32) s = .next t ∧ t.get F.RST_WDOG.left = s.get F.RST_WDOG.period
      ∧ t.get F.RST_WDOG.period = s.get F.RST_WDOG.period

/-- R423, R425, R427 to R429, R431, R432, R434: the strap is read once, by its table; the trims are applied only from a complete load,
failed ones are counted and the third gives way to safe trims; the domains are released in the fixed order with a gap between
them; a latched tamper halts before PD_TACK until no latched source is live; a missing AON clock is reported after 2 s. -/
def Obligations.BringUp : Prop :=
  ∀ (code : BitVec 4) (ok : Bool) (s : State), s.doms.length = 10 →
    let row := [(0, 2, 1, 1), (0, 2, 1, 2), (0, 1, 1, 1), (0, 0, 1, 1), (0, 0, 0, 0), (0, 0, 0, 1), (0, 0, 0, 2), (0, 1, 0, 1),
      (1, 2, 1, 1), (1, 1, 1, 1), (1, 0, 1, 1), (1, 1, 0, 1), (1, 0, 0, 0), (1, 0, 0, 2), (1, 2, 0, 1), (1, 0, 0, 1)].getD
        code.toNat (0, 0, 0, 0)
    let order := [9, 3, 2, 8, 6, 7, 4, 5, 1]
    let next := order.getD (s.rst.pos + 1) 0
    let phase := fun (t : State) (d : Nat) => (t.doms.getD d {}).phase
    let latched := s.get F.HLTH_TMP_LATCH.latch
    let live := ∃ i, i < 8 ∧ s.bitAt F.HLTH_TMP_LATCH.latch i = true ∧ s.bitAt F.HLTH_TMP_LIVE.live i = true
    (s.rst.nrstLow = false → exec .nrstRelease s = .next s)
    ∧ (s.rst.nrstLow = true → s.rst.strapDone = true → s.rst.trimSkip = false → ∃ t, exec .nrstRelease s = .next t
      ∧ t.rst.nrstLow = false ∧ Begins s t)
    ∧ exec (.brownOutRelease .vdd33) s = .next { s with rst := { s.rst with bor33 := false } }
    ∧ exec (.brownOutRelease .vdd18) s = .next { s with rst := { s.rst with bor18 := false } }
    ∧ (s.rst.strapDone = true → exec (.strapDone code) s = .next s)
    ∧ (s.rst.strapDone = false → s.rst.trimSkip = false → ∃ t, exec (.strapDone code) s = .next t
      ∧ t.get F.RST_STRAP.code = code.toNat ∧ t.get F.RST_STRAP.link = row.1 ∧ t.get F.RST_STRAP.src = row.2.1
      ∧ t.get F.RST_STRAP.dbg = row.2.2.1 ∧ t.get F.RST_STRAP.gap = row.2.2.2 ∧ t.get F.HOST_STAT.form = row.1
      ∧ t.rst.strapDone = true ∧ (s.rst.nrstLow = false → Begins s t))
    ∧ (s.get F.RST_STAT.step ≠ 1 → exec (.trimLoadDone ok) s = .next s)
    ∧ (s.get F.RST_STAT.step = 1 → s.rst.nrstLow = false →
      (∃ t, exec (.trimLoadDone true) s = .next t ∧ Trimmed s t ∧ t.get F.RST_STAT.trim_tries = 0
        ∧ t.get F.RST_STAT.safe_trim = 0 ∧ t.get F.RST_STAT.step = 2 ∧ t.rst.pos = 0
        ∧ (phase s 9 = .off → phase t 9 = .switchOn))
      ∧ (s.get F.RST_STAT.trim_tries < 2 → ∃ t, exec (.trimLoadDone false) s = .next t
        ∧ t.get F.RST_STAT.trim_tries = s.get F.RST_STAT.trim_tries + 1 ∧ t.get F.RST_STAT.step = 1
        ∧ t.get F.RST_STAT.safe_trim = s.get F.RST_STAT.safe_trim ∧ t.doms = s.doms)
      ∧ (2 ≤ s.get F.RST_STAT.trim_tries → ∃ t, exec (.trimLoadDone false) s = .next t ∧ t.get F.RST_STAT.trim_tries = 3
        ∧ t.get F.RST_STAT.step = 2 ∧ t.get F.RST_STAT.safe_trim = 1 ∧ t.get F.RST_CAUSE.trim_fail = 1
        ∧ t.get F.HLTH_EVT.trim = 1))
    ∧ (s.rst.gap = false → exec .domainReleaseGap s = .next s)
    ∧ (s.rst.gap = true → s.rst.pos = 0 → latched ≠ 0 → ∃ t, exec .domainReleaseGap s = .next t ∧ t.get F.RST_STAT.step = 12
      ∧ t.get F.RST_STAT.tamper_halt = 1 ∧ t.get F.RST_CAUSE.tamper = 1 ∧ t.rst.gap = false ∧ t.keys = s.keys
      ∧ t.doms.getD 3 {} = {} ∧ ∀ d, d ≠ 3 → t.doms.getD d {} = s.doms.getD d {})
    ∧ (s.rst.gap = true → s.rst.pos < 8 → s.rst.pos ≠ 0 ∨ latched = 0 → ∃ t, exec .domainReleaseGap s = .next t
      ∧ t.rst.pos = s.rst.pos + 1
      ∧ (domOn s next = false → t.get F.RST_STAT.step = 3 + s.rst.pos ∧ t.rst.gap = false
        ∧ (phase s next = .off → phase t next = .switchOn))
      ∧ (domOn s next = true → t.doms = s.doms ∧ (s.rst.pos < 7 → t.rst.gap = true ∧ t.get F.RST_STAT.step = 3 + s.rst.pos)
        ∧ (s.rst.pos = 7 → t.get F.RST_STAT.step = 11)))
    ∧ (s.get F.RST_STAT.step ≠ 12 ∨ live → exec .tamperHaltResume s = .next s)
    ∧ (s.get F.RST_STAT.step = 12 → ¬ live → domOn s 3 = false → ∃ t, exec .tamperHaltResume s = .next t
      ∧ t.get F.KEYS_STAT.blocked = 1 ∧ t.get F.RST_STAT.step = 3 ∧ t.rst.pos = 1
      ∧ (phase s 3 = .off → phase t 3 = .switchOn))
    ∧ (s.bitAt F.CLK_STAT.good 0 = true → exec .aonClockTimeout s = .next s)
    ∧ (s.bitAt F.CLK_STAT.good 0 = false → ∃ t, exec .aonClockTimeout s = .next t ∧ t.get F.RST_CAUSE.clk_loss = 1
      ∧ t.get F.CLK_LOSS.domain = 0 ∧ t.get F.CLK_LOSS.valid = 1 ∧ t.get F.RST_STAT.aon_wait = 1 ∧ t.doms = s.doms)

/-- R177, R213, R267, R304, R400, R437: only a tagged host or a granted management stall resets a block; a block that is held or off
is not touched; a reset block's bit reads 1 until its release, no other block's bit moves, and its work is lost as its chapter
states. -/
def Obligations.BlockResets : Prop :=
  ∀ (b : Fin 27) (e : Fin 8) (mask : Word) (s : State), s.sess.trigs = [] → s.eng.length = 8 →
    let place := [1, 6, 7, 2, 2, 2, 0, 3, 3, 3, 9, 8, 0, 2, 8, 2, 2, 2, 0].getD b 2
    let held := fun (t : State) (k : Nat) => bit (t.word F.RST_BLOCK.lf.addr).toNat k
    let one := BitVec.ofNat 32 (2 ^ b.val)
    (exec (.rstBlockWrite (.host false) mask) s = .next s)
    ∧ (mayReset s e = false → exec (.rstBlockWrite (.engine e) mask) s = .next s)
    ∧ (held s b = true ∨ (place ≠ 0 ∧ domOn s place = false) → exec (.rstBlockWrite (.host true) one) s = .next s)
    ∧ (held s b = false → place = 0 ∨ domOn s place = true → ∃ t, exec (.rstBlockWrite (.host true) one) s = .next t
      ∧ held t b = true ∧ (∀ k, k < 27 → k ≠ b.val → held t k = held s k)
      ∧ (b = 2 → t.uwb.sts = List.replicate 8 [] ∧ t.uwb.exch = none)
      ∧ (b = 3 → t.solv = { model := s.solv.model })
      ∧ (b = 5 → t.sess = {} ∧ t.get F.SESS_STAT.entry_open = 0 ∧ t.get F.SESS_STAT.start_open = 0)
      ∧ (b = 6 → s.tally.length = 16 → t.tally = List.replicate 16 {})
      ∧ (b = 7 ∨ b = 8 → t.ciph.ops = [] ∧ ∀ h, h < 48 → (t.keys.slots.getD h {}).live = false)
      ∧ (b = 9 → t.get F.RNG_STAT.seeded = 0 ∧ t.rng.queue = [] ∧ t.rng.inst = false)
      ∧ (b = 10 → t.loft.gather = none ∧ t.loft.due = none ∧ t.loft.commit = none)
      ∧ (b = 11 → t.host = {} ∧ t.get F.HOST_STAT.bound = 0 ∧ t.get F.SESS_STAT.start_open = 0)
      ∧ (b = 13 → t.hlth = s.hlth)
      ∧ (19 ≤ b.val → stallOf s (b.val - 19) ≠ 15 → t.get (F.GROOM_STAT.reload_pend (b.val - 19)) = 1
        ∧ (∃ i ∈ t.yard.installs, i.engine = b.val - 19 ∧ i.stall = stallOf s (b.val - 19))))
    ∧ (held s b = false → exec (.blockResetRelease b) s = .next s)
    ∧ (held s b = true → (b = 3 ∨ b = 4 → s.txn.open_ = false) → ∃ t, exec (.blockResetRelease b) s = .next t ∧ held t b = false
      ∧ (∀ k, k < 27 → k ≠ b.val → held t k = held s k)
      ∧ (b = 11 → t.get F.HOST_STAT.ready = 1 ∧ t.get F.HOST_IRQSTAT.rdy = 1 ∧ t.get F.HOST_STAT.bound = 0))

/-! Ageing, faults and tamper (19). -/

namespace Sys2Proof.Claims

/-- A tamper source has latched (R448, R450): its latch bit, the count, the last source and the event. -/
def Latched (s t : State) (src : Nat) : Prop :=
  t.bitAt F.HLTH_TMP_LATCH.latch src = true ∧ t.get F.HLTH_TMP_CNT.events = min 65535 (s.get F.HLTH_TMP_CNT.events + 1)
    ∧ t.get F.HLTH_TMP_CNT.last = src ∧ t.get F.HLTH_EVT.tamper = 1

/-- A source's class, the reserved one as WIPE_RESET (R450). -/
abbrev classOf (s : State) (src : Nat) : Nat := min 2 (s.get F.HLTH_TMP_CFG.class_ / 4 ^ src % 4)

/-- A tamper is only logged: the chip is awake and PD_TACK is neither released nor being switched on, or the plan that runs gives the source class LOG and no
key operation or transition is in flight (R434, R450, R451). -/
abbrev OnlyLogged (s : State) (src : Nat) : Prop :=
  s.get F.POLL_STAT.state ≠ 1 ∧ s.get F.POLL_STAT.state ≠ 2
    ∧ ((domOn s 3 = false ∧ seqDomain s ≠ some 3)
      ∨ (s.yard.applied = true ∧ classOf s src = 0 ∧ s.ciph.ops = [] ∧ s.host.checking = none ∧ s.keys.lcPend = none))

/-- Everything derived is wiped (R265, R450): handles, sessions and the STS store. -/
def Wiped (t : State) : Prop :=
  t.get F.KEYS_STAT.blocked = 1 ∧ t.get F.KEYS_STAT.wiped = 1 ∧ (∀ h, h < 48 → (t.keys.slots.getD h {}).live = false)
    ∧ t.get F.SESS_STAT.entry_open = 0 ∧ t.get F.SESS_STAT.start_open = 0 ∧ t.uwb.sts = List.replicate 8 []

end Sys2Proof.Claims

/-- R265, R434, R448, R450, R451: a glitch is a tamper at every event while its domain is on, live until 1 ms after; a LOG tamper is
only recorded; a WIPE tamper, and every tamper before a plan applies, wipes what is derived; a WIPE_RESET one then resets the chip,
over which the latch stands; in STANDBY a tamper wakes the chip. -/
def Obligations.TamperActions : Prop :=
  ∀ (low : Bool) (s : State), s.get F.HLTH_STAT.farr_step = 0 →
    let on := domOn s 2 = true ∨ domOn s 3 = true
    let still := s.txn.open_ = false ∧ s.sess.trigs = [] ∧ s.yard.installing = false ∧ s.get F.YARD_PSTAT.state ≠ 4
      ∧ s.get F.YARD_PSTAT.state ≠ 5
    (¬ on ∨ (low = true ∧ s.rst.bor18 = true) → exec (.voltageGlitch low) s = .next s)
    ∧ (¬ on → exec .clockGlitch s = .next s)
    ∧ (∀ g ∈ [(Instr.voltageGlitch low, 4), (.clockGlitch, 5)], on → (g.2 = 4 → low = false ∨ s.rst.bor18 = false) →
      (OnlyLogged s g.2 → ∃ t, exec g.1 s = .next t ∧ Latched s t g.2 ∧ t.bitAt F.HLTH_TMP_LIVE.live g.2 = true
        ∧ t.keys = s.keys ∧ t.sess = s.sess ∧ t.doms = s.doms)
      ∧ (s.get F.POLL_STAT.state = 1 → ∃ t, exec g.1 s = .next t ∧ Latched s t g.2 ∧ t.get F.POLL_WAKE.tamper = 1
        ∧ t.get F.POLL_STAT.state = 3 ∧ t.get F.POLL_STAT.rung = s.get F.POLL_STAT.rung)
      ∧ (s.get F.POLL_STAT.state = 0 → domOn s 3 = true → s.yard.applied = false ∨ classOf s g.2 = 1 → still →
        ∃ t, exec g.1 s = .next t ∧ Latched s t g.2 ∧ Wiped t)
      ∧ (s.get F.POLL_STAT.state = 0 → domOn s 3 = true → s.yard.applied = true → classOf s g.2 = 2 → still →
        ∃ t, exec g.1 s = .next t ∧ t.get F.RST_CAUSE.tamper = 1 ∧ t.bitAt F.HLTH_TMP_LATCH.latch g.2 = true
          ∧ t.get F.PWR_DOM_STAT.run = 0 ∧ t.yard = {} ∧ t.keys.slots = List.replicate 48 {}))
    ∧ ∀ clock : Bool, ∃ t, exec (.glitchLiveEnd clock) s = .next t
      ∧ t.bitAt F.HLTH_TMP_LIVE.live (if clock then 5 else 4) = false
      ∧ (∀ i, i < 8 → i ≠ (if clock then 5 else 4) → t.bitAt F.HLTH_TMP_LIVE.live i = s.bitAt F.HLTH_TMP_LIVE.live i)
      ∧ t.get F.HLTH_TMP_LATCH.latch = s.get F.HLTH_TMP_LATCH.latch

/-- R448, R449, R452: a switch input, a mesh receiver and the temperature are live after two samples in a row, and latch as they become
live; an input that is not used and a mesh driver read not live (log entry 178); a generator of a pair in mesh mode steps, with the taps in the form that log entry 15 chooses; a tagged W1C clears the latch bits of
sources that are not live; a read of HLTH_TS_LO copies the timestamp's high part. -/
def Obligations.TamperInputs : Prop :=
  ∀ (n : Fin 4) (p : Fin 2) (levels : BitVec 4) (tj : BitVec 16) (data : Word) (s : State),
    s.get F.HLTH_STAT.farr_step = 0 → s.hlth.tmpRun.length = 4 → s.hlth.lfsr.length = 2 →
    let mode := fun (m : Nat) => s.get F.HLTH_TMP_CFG.mode / 4 ^ m % 4
    let sampled := fun (m : Nat) => mode m = 1 ∨ mode m = 2
    let low := fun (m : Nat) => bit levels.toNat m = false
    let hit := (mode n = 1 ∧ low n) ∨ (mode n = 2 ∧ ¬ low n)
    let run := s.hlth.tmpRun.getD n 0
    let receiver := 2 * p.val + 1
    let x := s.hlth.lfsr.getD p 0
    let fails := bit levels.toNat receiver ≠ bit x 0
    let lives := fun (t : State) (i : Nat) => t.bitAt F.HLTH_TMP_LIVE.live i = true
    let same := fun (t : State) (i : Nat) => (lives t i ↔ lives s i) ∧ t.get F.HLTH_TMP_LATCH.latch = s.get F.HLTH_TMP_LATCH.latch
      ∧ t.get F.HLTH_TMP_CNT.events = s.get F.HLTH_TMP_CNT.events
    let passes := fun (t : State) (i : Nat) => ¬ lives t i ∧ t.get F.HLTH_TMP_LATCH.latch = s.get F.HLTH_TMP_LATCH.latch
    (mode n = 0 ∨ (mode n = 3 ∧ n.val % 2 = 0) → (∀ m : Fin 4, m ≠ n → ¬ sampled m) →
      ∃ t, exec (.tmpSample levels) s = .next t ∧ passes t n ∧ t.hlth.tmpRun.getD n 0 = 0 ∧ t.hlth.lfsr = s.hlth.lfsr)
    ∧ (sampled n → (∀ m : Fin 4, m ≠ n → ¬ sampled m) →
      (¬ hit → ∃ t, exec (.tmpSample levels) s = .next t ∧ passes t n ∧ t.hlth.tmpRun.getD n 0 = 0)
      ∧ (hit → run = 0 → ∃ t, exec (.tmpSample levels) s = .next t ∧ passes t n ∧ t.hlth.tmpRun.getD n 0 = 1)
      ∧ (hit → 1 ≤ run → lives s n → ∃ t, exec (.tmpSample levels) s = .next t ∧ same t n)
      ∧ (hit → 1 ≤ run → ¬ lives s n → OnlyLogged s n → ∃ t, exec (.tmpSample levels) s = .next t ∧ lives t n ∧ Latched s t n))
    ∧ (∃ t, exec .meshStep s = .next t ∧ t.regs = s.regs ∧ t.hlth.tmpRun = s.hlth.tmpRun
      ∧ t.hlth.lfsr.getD p 0 = if mode (2 * p.val) = 3
        then x / 2 + 32768 * b2n (bit x 0 != (bit x 2 != (bit x 3 != bit x 5))) else x)
    ∧ (mode 0 ≠ 3 → mode 2 ≠ 3 → exec (.meshSample levels) s = .next s)
    ∧ (mode (2 * p.val) = 3 → mode (2 - 2 * p.val) ≠ 3 →
      (¬ fails → ∃ t, exec (.meshSample levels) s = .next t ∧ passes t receiver ∧ t.hlth.tmpRun.getD receiver 0 = 0)
      ∧ (fails → s.hlth.tmpRun.getD receiver 0 = 0 → ∃ t, exec (.meshSample levels) s = .next t ∧ passes t receiver
        ∧ t.hlth.tmpRun.getD receiver 0 = 1)
      ∧ (fails → 1 ≤ s.hlth.tmpRun.getD receiver 0 → ¬ lives s receiver → OnlyLogged s receiver →
        ∃ t, exec (.meshSample levels) s = .next t ∧ lives t receiver ∧ Latched s t receiver))
    ∧ (-55 ≤ tj.toInt → tj.toInt ≤ 150 → ∃ t, exec (.tempSample tj) s = .next t ∧ passes t 6 ∧ passes t 7
      ∧ t.hlth.cold = 0 ∧ t.hlth.hot = 0)
    ∧ (∀ e ∈ [(decide (tj.toInt < -55), s.hlth.cold, 6), (decide (150 < tj.toInt), s.hlth.hot, 7)], e.1 = true →
      (e.2.1 = 0 → ∃ t, exec (.tempSample tj) s = .next t ∧ passes t e.2.2
        ∧ (e.2.2 = 6 → t.hlth.cold = 1) ∧ (e.2.2 = 7 → t.hlth.hot = 1))
      ∧ (1 ≤ e.2.1 → ¬ lives s e.2.2 → OnlyLogged s e.2.2 → ∃ t, exec (.tempSample tj) s = .next t ∧ lives t e.2.2
        ∧ Latched s t e.2.2))
    ∧ (exec (.tmpLatchClear data false) s = .next s)
    ∧ (∃ t, exec (.tmpLatchClear data true) s = .next t ∧ (∀ i, i < 8 → t.bitAt F.HLTH_TMP_LATCH.latch i =
        (s.bitAt F.HLTH_TMP_LATCH.latch i && (!bit data.toNat i || s.bitAt F.HLTH_TMP_LIVE.live i)))
      ∧ (∀ i, i < 8 → bit data.toNat i = true → lives s i → s.bitAt F.HLTH_TMP_LATCH.latch i = true →
        t.get F.HLTH_STAT.clr_refused = 1)
      ∧ t.get F.HLTH_TMP_LIVE.live = s.get F.HLTH_TMP_LIVE.live)
    ∧ ∃ t, exec .hlthTsRead s = .next t ∧ t.get F.HLTH_TS_HI.ts_hi = s.aonTs / 2 ^ 32 % 2 ^ 16
      ∧ t.word F.HLTH_TMP_LATCH.latch.addr = s.word F.HLTH_TMP_LATCH.latch.addr

/-- R200, R251, R441 to R446: a critical-state error resets the chip and records its region, a single-bit error of the keys is
corrected and counted; a pass that is due or asked for pends and starts at the first quiet point with a plan, open keys and no plan
change; its steps follow as their work ends; blocked keys abort it; step 6, reached in order or by the timeout, hands one overlay over
that names the guard. -/
def Obligations.HealthPasses : Prop :=
  ∀ (region : Fin 5) (double : Bool) (slow : List (Option (BitVec 16))) (s : State),
    let k := s.get F.HLTH_STAT.farr_step
    let due := s.get F.HLTH_NEXT_LO.due_lo + 2 ^ 32 * s.get F.HLTH_NEXT_HI.due_hi
    let pends := fun (t : State) => t.get F.HLTH_STAT.farr_pend = 1 ∧ t.get F.HLTH_STAT.farr_step = 0
    let fires := due ≤ s.aonTs % 2 ^ 48 ∧ k = 0 ∧ domOn s 2 = true
    let quiet := s.get F.SESS_STAT.txn_open = 0 ∧ s.txn.open_ = false ∧ s.get F.LF_STAT.owner ≠ 1 ∧ s.get F.LF_STAT.owner ≠ 4
      ∧ s.sess.rcode = none
    let starts := s.get F.HLTH_STAT.farr_pend = 1 ∧ k = 0 ∧ quiet ∧ s.yard.applied = true ∧ domOn s 2 = true
      ∧ s.get F.KEYS_STAT.blocked = 0 ∧ s.get F.SYS_GATE_STAT.plan_apply = 0
    let finished := [true, s.get F.LF_STAT.owner != 3, !s.uwb.calRun, !s.uwb.tscalRun, storeOver s wtFarr, true].getD k false
    let hands := fun (t : State) => t.get F.HLTH_STAT.farr_step = 6 ∧ t.get F.YARD_OVL.pending = 1
      ∧ ∃ l, t.yard.overlay = some l ∧ { addr := F.VERD_WIN.guard.addr, mask := 0xFF, value := min 192 (s.get F.VERD_WIN.guard_plan
        + t.get F.VERD_FARR.c_cable + t.get F.VERD_FARR.c_interp) } ∈ l
    (exec (.scrub none) s = .next s)
    ∧ (region = 0 ∨ domOn s 2 = false → exec (.scrub (some (region, double))) s = .next s)
    ∧ (domOn s 2 = true → ∃ t, exec (.scrub (some (1, false))) s = .next t ∧ t.get F.KEYS_STAT.ecc_corr = 1
      ∧ t.get F.HLTH_EVT.corr = 1 ∧ t.get F.HLTH_CNT.corr = min 65535 (s.get F.HLTH_CNT.corr + 1) ∧ t.keys = s.keys
      ∧ t.doms = s.doms)
    ∧ (domOn s 2 = true → 2 ≤ region.val ∨ (region.val = 1 ∧ double = true) →
      ∃ t, exec (.scrub (some (region, double))) s = .next t ∧ ChipReset s t F.RST_CAUSE.crit
        ∧ t.get F.RST_CRIT.region = region ∧ (t.get F.RST_CRIT.ecc = 1 ↔ region.val = 1))
    ∧ (¬ fires → exec .farrierDue s = .next s)
    ∧ (fires → ∃ t, exec .farrierDue s = .next t ∧ pends t)
    ∧ (exec (.farrStart false) s = .next s) ∧ (k ≠ 0 ∨ domOn s 2 = false → exec (.farrStart true) s = .next s)
    ∧ (k = 0 → domOn s 2 = true → ∃ t, exec (.farrStart true) s = .next t ∧ pends t)
    ∧ (¬ starts → exec .farrierPassStart s = .next s)
    ∧ (starts → ∃ t, exec .farrierPassStart s = .next t ∧ t.get F.HLTH_STAT.farr_step = 1 ∧ t.get F.HLTH_STAT.farr_pend = 0
      ∧ (s.get F.LF_STAT.owner = 0 → t.get F.LF_STAT.owner = 3 ∧ t.hlth.busy = true
        ∧ t.get F.LF_CAL_CTRL.mask = s.get F.LF_CAL_CTRL.mask)
      ∧ (s.get F.LF_STAT.owner ≠ 0 → t.hlth.busy = false ∧ t.lf = s.lf))
    ∧ (k = 0 ∨ k = 6 → exec (.farrierStepDone slow) s = .next s ∧ exec .farrierTimeout s = .next s)
    ∧ (1 ≤ k → k ≤ 5 → s.get F.KEYS_STAT.blocked = 1 → ∃ t, exec (.farrierStepDone slow) s = .next t
      ∧ t.get F.HLTH_STAT.farr_step = 0 ∧ t.get F.HLTH_STAT.farr_res = 3 ∧ t.get F.HLTH_EVT.farr = 1 ∧ t.yard = s.yard)
    ∧ (1 ≤ k → k ≤ 5 → s.get F.KEYS_STAT.blocked = 0 →
      (s.hlth.busy = true → finished = true → k ≤ 4 → ∃ t, exec (.farrierStepDone slow) s = .next t
        ∧ t.get F.HLTH_STAT.farr_step = k + 1)
      ∧ (s.hlth.busy = true → finished = false → exec (.farrierStepDone slow) s = .next s)
      ∧ (s.hlth.busy = false → k = 4 → s.get F.LOFT_STAT.state ≠ 1 → ∃ t, exec (.farrierStepDone slow) s = .next t
        ∧ t.hlth.busy = true ∧ (wtFarr ∈ t.loft.waitNow ∨ wtFarr ∈ t.loft.waitNext) ∧ t.get F.HLTH_STAT.farr_step = 4)
      ∧ (s.hlth.busy = true → k = 5 → ∃ t, exec (.farrierStepDone slow) s = .next t ∧ hands t
        ∧ ∀ c, c < 12 → (slow.getD c none = none → t.get (F.HLTH_RO.valid c) = 0)
          ∧ ∀ v, slow.getD c none = some v → roOn s c = true → t.get (F.HLTH_RO.slow c) = v.toNat
            ∧ t.get (F.HLTH_RO.valid c) = 1))
    ∧ (1 ≤ k → k ≤ 5 → ∃ t, exec .farrierTimeout s = .next t ∧ hands t ∧ t.hlth.part = true)

/-! Host link (16). -/

namespace Sys2Proof.Claims

/-- The link accepts frames (R398). -/
abbrev LinkUp (s : State) : Prop := domOn s 8 = true ∧ s.get F.HOST_STAT.ready = 1

/-- The command that brings a request of an op code (R375). -/
def request (op : Nat) (r : HostReq) : Instr :=
  match op with
  | 0 => .hostStatus r
  | 1 => .hostRead r
  | 2 => .hostWrite r
  | _ => .hostOpReserved r

/-- A request has ended with an answer, which HOST_LAST records (R378). -/
def Answered (t : State) (status done : Nat) (words : List Word) (tag : Option Word) : Prop :=
  t.get F.HOST_LAST.status = status ∧ t.get F.HOST_LAST.done = done ∧ t.get F.HOST_LAST.cut = 0
    ∧ ∃ a, t.host.answer = some a ∧ a.status = status ∧ a.done = done ∧ a.words = words ∧ a.tag = tag

/-- Nothing but the link's own records has changed. -/
def LinkOnly (s t : State) : Prop :=
  { t with regs := s.regs, host := { t.host with answer := s.host.answer } } = s
    ∧ ∀ a, a ≠ F.HOST_LAST.status.addr → a ≠ F.HOST_CNT0.ack.addr → a ≠ F.HOST_CNT1.auth.addr → t.word a = s.word a

/-- A tag went to HAUTH for a check; nothing else has happened (R383): the privileged channel and its key alone have moved. -/
def Asked (s t : State) (c : HostCheck) : Prop :=
  t.host = { s.host with checking := some c } ∧ { t with regs := s.regs, host := s.host, ciph := s.ciph, keys := s.keys } = s
    ∧ ∀ a, a / 0x10000 ≠ 0xC → a / 0x10000 ≠ 0xD → t.word a = s.word a

/-- The request arrived whole: in SPI form under a valid CRC (R388), in CAN FD form with at most 14 words (R394). -/
abbrev Whole (s : State) (op : Nat) (r : HostReq) : Prop :=
  (s.get F.HOST_STAT.form = 0 → r.crc.toNat = reqCrc op r) ∧ (s.get F.HOST_STAT.form = 1 → r.cnt.toNat ≤ 13)
    ∧ (op = 2 → r.cnt.toNat < r.data.length)

/-- A code that ends a request at its word (R378). -/
abbrev Stops (c : Nat) : Prop := 5 ≤ c ∧ c ≤ 8

end Sys2Proof.Claims

/-- R375, R377, R378, R380, R382, R386, R388, R390, R394, R395: a bad SPI CRC is answered CRC and counted, a request that names nothing
executable CMD, a tagged one on an unbound link UNBOUND; an untagged one executes word by word, a stopping code ends it and the
first field code is the status else; while a tag is checked requests wait, in CAN FD form one at most. -/
def Obligations.HostRequests : Prop :=
  ∀ (op : Fin 4) (r : HostReq) (s : State),
    let a := r.addr.toNat
    let second := if r.fix then a else a + 4
    let bad := op = 3 ∨ (op = 0 ∧ r.cnt ≠ 0) ∨ (r.fix = false ∧ 0xFF_FFFC < a + 4 * r.cnt.toNat)
    let free := LinkUp s ∧ Whole s op r ∧ s.host.checking = none
    let d := fun (i : Nat) => r.data.getD i 0
    (¬ LinkUp s → exec (request op r) s = .next s)
    ∧ (LinkUp s → s.get F.HOST_STAT.form = 0 → r.crc.toNat ≠ reqCrc op r → ∃ t, exec (request op r) s = .next t
      ∧ Answered t 1 0 [] none ∧ LinkOnly s t ∧ t.get F.HOST_CNT1.crc = min 65535 (s.get F.HOST_CNT1.crc + 1)
      ∧ t.get F.HOST_CNT0.nak = min 65535 (s.get F.HOST_CNT0.nak + 1))
    ∧ (LinkUp s → s.get F.HOST_STAT.form = 1 → 13 < r.cnt.toNat ∨ (op = 2 ∧ r.data.length ≤ r.cnt.toNat) →
      ∃ t, exec (request op r) s = .next t ∧ Answered t 2 0 [] none ∧ LinkOnly s t)
    ∧ (free → r.tagBit = false → bad → ∃ t, exec (request op r) s = .next t ∧ Answered t 2 0 [] none ∧ LinkOnly s t)
    ∧ (free → r.tagBit = false → op = 0 → r.cnt = 0 → a ≤ 0xFF_FFFC → ∃ t, exec (request op r) s = .next t
      ∧ Answered t 0 0 [] none ∧ LinkOnly s t ∧ t.get F.HOST_CNT0.ack = min 65535 (s.get F.HOST_CNT0.ack + 1))
    ∧ (free → r.tagBit = false → ¬ bad → op = 1 → r.cnt = 0 → ∀ u c v, hostReadWord s false a = (u, c, v) → LinkUp u →
      ∃ t, exec (request op r) s = .next t ∧ LinkOnly u t
        ∧ (Stops c → Answered t c 0 [] none) ∧ (¬ Stops c → c < 256 → Answered t c 1 [v] none))
    ∧ (free → r.tagBit = false → ¬ bad → op = 1 → r.cnt = 1 → ∀ u c v w e x, hostReadWord s false a = (u, c, v) → LinkUp u →
      hostReadWord u false second = (w, e, x) → LinkUp w → c < 256 → e < 256 → ∃ t, exec (request op r) s = .next t
        ∧ (Stops c → LinkOnly u t ∧ Answered t c 0 [] none) ∧ (¬ Stops c → Stops e → LinkOnly w t ∧ Answered t e 1 [v] none)
        ∧ (¬ Stops c → ¬ Stops e → LinkOnly w t ∧ Answered t (if c = 0 then e else c) 2 [v, x] none))
    ∧ (free → r.tagBit = false → ¬ bad → op = 2 → r.cnt = 0 → ∀ u c, hostWord s false a (d 0) = (u, c) → LinkUp u →
      ∃ t, exec (request op r) s = .next t ∧ LinkOnly u t
        ∧ (Stops c → Answered t c 0 [] none) ∧ (¬ Stops c → c < 256 → Answered t c 1 [] none))
    ∧ (free → r.tagBit = false → ¬ bad → op = 2 → r.cnt = 1 → ∀ u c w e, hostWord s false a (d 0) = (u, c) → LinkUp u →
      hostWord u false second (d 1) = (w, e) → LinkUp w → c < 256 → e < 256 → ∃ t, exec (request op r) s = .next t
        ∧ (Stops c → LinkOnly u t ∧ Answered t c 0 [] none) ∧ (¬ Stops c → Stops e → LinkOnly w t ∧ Answered t e 1 [] none)
        ∧ (¬ Stops c → ¬ Stops e → LinkOnly w t ∧ Answered t (if c = 0 then e else c) 2 [] none))
    ∧ (free → r.tagBit = true → s.get F.HOST_STAT.bound = 0 → op ≠ 2 ∨ a ≠ 0x12_0010 ∨ s.get F.HOST_STAT.nonce_ok = 0 →
      ∃ t, exec (request op r) s = .next t ∧ Answered t 4 0 [] none ∧ LinkOnly s t)
    ∧ (free → r.tagBit = true → s.get F.HOST_STAT.bound = 1 → ∃ t, exec (request op r) s = .next t
      ∧ Asked s t { op := op, req := r, bind := false, seq := s.get F.HOST_SEQ.seq })
    ∧ (LinkUp s → Whole s op r → s.host.checking ≠ none →
      (s.get F.HOST_STAT.form = 0 ∨ s.host.queue = [] → exec (request op r) s = .next { s with
        host := { s.host with queue := s.host.queue ++ [(op.val, r, s.get F.HOST_SEQ.seq)] } })
      ∧ (s.get F.HOST_STAT.form = 1 → s.host.queue ≠ [] → ∃ t, exec (request op r) s = .next t ∧ Answered t 7 0 [] none
        ∧ LinkOnly s t))

/-- R381 to R386: an unbound link takes its nonce from the host port; a bind request needs the nonce and a key, and binds on a valid tag
under sequence 0; a valid tag moves HOST_SEQ on before the request executes and the answer is tagged under the request's number; a
failed one executes nothing; a tagged write to HOST_BIND and the last number unbind. -/
def Obligations.HostBinding : Prop :=
  ∀ (tag data : Word) (crc : BitVec 16) (c : HostCheck) (k : Nat) (s : State), LinkUp s →
    let bind := bindReq 0x4249_4E44#32 tag crc
    let unbind := bindReq data tag crc
    let checked := s.host.checking = some c ∧ hostKey s = some k ∧ domOn s 3 = true ∧ s.host.queue = []
      ∧ ∃ o, opOf s .hauth = some o ∧ o.ending = none
    let at_ := s.get F.HOST_SEQ.seq
    let valid := hostTag k (reqMessage s c.seq c.op c.req) = c.req.tag
    let port := [0, 1].map fun w => natBe (bytesLe (s.get (F.RNG_HPORT_W4.data w)) 4)
    let draws := domOn s 3 = true ∧ s.get F.HOST_STAT.bound = 0 ∧ s.get F.HOST_STAT.nonce_ok = 0 ∧ s.get F.RNG_CTRL.en = 1
      ∧ s.get F.RNG_HPORT_W0.valid = 1
    (s.get F.HOST_STAT.bound = 1 → exec (.bindRequest tag crc) s = .next s)
    ∧ (s.get F.HOST_STAT.bound = 0 → exec (.hostBindUnbind data tag crc) s = .next s)
    ∧ (s.get F.HOST_STAT.bound = 0 → Whole s 2 bind → s.host.checking = none → s.get F.HOST_STAT.nonce_ok = 1 → hostKey s ≠ none →
      ∃ t, exec (.bindRequest tag crc) s = .next t ∧ Asked s t { op := 2, req := bind, bind := true, seq := 0 })
    ∧ (s.get F.HOST_STAT.bound = 0 → Whole s 2 bind → s.host.checking = none → s.get F.HOST_STAT.nonce_ok = 0 ∨ hostKey s = none →
      ∃ t, exec (.bindRequest tag crc) s = .next t ∧ Answered t 4 0 [] none ∧ LinkOnly s t)
    ∧ (s.get F.HOST_STAT.bound = 1 → Whole s 2 unbind → s.host.checking = none → ∃ t, exec (.hostBindUnbind data tag crc) s = .next t
      ∧ Asked s t { op := 2, req := unbind, bind := false, seq := s.get F.HOST_SEQ.seq })
    ∧ (∀ e, s.host.checking = none ∨ hostKey s = none ∨ domOn s 3 = false → exec (.hostTagCheckDone e) s = .next s)
    ∧ (checked → ∃ t, exec (.hostTagCheckDone .noResult) s = .next t ∧ Asked s t c)
    ∧ (checked → ¬ valid → ∃ t, exec (.hostTagCheckDone .result) s = .next t ∧ Answered t 3 0 [] none
      ∧ t.get F.HOST_CNT1.auth = min 65535 (s.get F.HOST_CNT1.auth + 1) ∧ t.get F.HOST_IRQSTAT.auth = 1
      ∧ t.get F.HOST_SEQ.seq = s.get F.HOST_SEQ.seq ∧ t.get F.HOST_STAT.bound = s.get F.HOST_STAT.bound
      ∧ t.host.checking = none ∧ t.doms = s.doms)
    ∧ (checked → valid → c.bind = true → ∃ t, exec (.hostTagCheckDone .result) s = .next t ∧ t.get F.HOST_STAT.bound = 1
      ∧ t.get F.HOST_SEQ.seq = 1 ∧ t.host.checking = none
      ∧ Answered t 0 1 [] (some (hostTag k (ansMessage (dnonce s) c.seq 0 1 []))))
    ∧ (checked → valid → c.bind = false → c.op = 0 → c.req.cnt = 0 → c.req.addr.toNat ≤ 0xFF_FFFC → at_ + 1 < 2 ^ 32 →
      ∃ t, exec (.hostTagCheckDone .result) s = .next t ∧ t.host.checking = none
        ∧ Answered t 0 0 [] (some (hostTag k (ansMessage (dnonce s) c.seq 0 0 [])))
        ∧ (at_ + 1 < 0xFFFF_FFFF → t.get F.HOST_SEQ.seq = at_ + 1 ∧ t.get F.HOST_STAT.bound = 1)
        ∧ (at_ + 1 = 0xFFFF_FFFF → t.get F.HOST_STAT.bound = 0 ∧ t.get F.HOST_STAT.nonce_ok = 0
          ∧ t.get F.HOST_IRQSTAT.bind_lost = 1))
    ∧ (checked → valid → c.bind = false → c.op = 2 → c.req = unbind → s.get F.SYS_GATE_STAT.plan_apply = 0 →
      ∃ t, exec (.hostTagCheckDone .result) s = .next t
      ∧ t.get F.HOST_STAT.bound = 0 ∧ t.get F.HOST_STAT.nonce_ok = 0 ∧ t.get F.HOST_IRQSTAT.bind_lost = 1
      ∧ Answered t 0 1 [] (some (hostTag k (ansMessage (dnonce s) c.seq 0 1 []))))
    ∧ (¬ draws → exec .nonceDraw s = .next s)
    ∧ (draws → ∃ t, exec .nonceDraw s = .next t ∧ t.get F.HOST_STAT.nonce_ok = 1
      ∧ t.get (F.HOST_BNONCE.nonce 0) = port.getD 0 0 ∧ t.get (F.HOST_BNONCE.nonce 1) = port.getD 1 0)

/-- R387, R390, R392 to R394, R396, R397, R399: the SPI mode follows SCK at the frame's start; a cut frame is discarded and recorded;
a CAN FD request on the request identifier of the length in force is the request its bytes spell, and a recessive res bit marks a
protocol exception; a notification carries the status words while an
enabled bit was gained; a dropped frame, bus errors and the recovery from bus-off are recorded; the keyed, tagged host reset acts
after the answer. -/
def Obligations.HostForms : Prop :=
  ∀ (high fd ext res whole tagged : Bool) (ident : BitVec 29) (p0 p1 p2 : Byte) (payload : List Byte) (tec rec : BitVec 9) (key : Word)
    (s : State),
    let spi := LinkUp s ∧ s.get F.HOST_STAT.form = 0
    let can := LinkUp s ∧ s.get F.HOST_STAT.form = 1
    let id0 := if s.get F.HOST_STAT.plan_cfg = 0 ∨ s.get (F.HOST_CANID.id 0) = 0 then 0x6A0 else s.get (F.HOST_CANID.id 0)
    let framed := can ∧ fd = true ∧ s.get F.HOST_CANERR.state ≠ 2
    let hears := framed ∧ res = false ∧ ident.toNat = id0
      ∧ (ext = true ↔ s.get F.HOST_STAT.plan_cfg = 1 ∧ s.get F.HOST_CFG.ext_id = 1)
    let at_ := natBe [p0, p1, p2]
    let enabled := irqStat s &&& s.get F.HOST_IRQEN.en
    let notes := can ∧ s.get F.HOST_CFG.ntf_en = 1 ∧ enabled &&& (127 - s.host.ntfSeen % 128) ≠ 0
    let errs := if 256 ≤ tec.toNat then 2 else if 128 ≤ tec.toNat ∨ 128 ≤ rec.toNat then 1 else 0
    let fetch : HostReq := { tagBit := false, fix := false, cnt := 0, addr := p0 ++ p1 ++ p2, data := [], tag := 0, crc := 0 }
    (¬ spi → exec (.spiFrameStart high) s = .next s)
    ∧ (spi → ∃ t, exec (.spiFrameStart high) s = .next t ∧ t.get F.HOST_STAT.spi_mode = b2n high
      ∧ t.host = { s.host with frame := true, answer := none })
    ∧ (¬ LinkUp s ∨ s.host.frame = false → exec (.spiFrameEnd whole) s = .next s)
    ∧ (LinkUp s → s.host.frame = true →
      (∃ t, exec (.spiFrameEnd false) s = .next t ∧ t.get F.HOST_LAST.status = 2 ∧ t.get F.HOST_LAST.done = 0
        ∧ t.get F.HOST_LAST.cut = 1 ∧ t.host = { s.host with frame := false })
      ∧ (s.host.resetPend = false →
        exec (.spiFrameEnd true) s = .next { s with host := { s.host with frame := false } })
      ∧ (s.host.resetPend = true → s.host.answer ≠ none → ∃ t, exec (.spiFrameEnd true) s = .next t
        ∧ ChipReset s t F.RST_CAUSE.host))
    ∧ (¬ framed ∨ (res = false ∧ ¬ hears) → exec (.canRequestFrame ⟨fd, ext, res⟩ ident payload) s = .next s)
    ∧ (framed → res = true → ∃ t, exec (.canRequestFrame ⟨fd, ext, res⟩ ident payload) s = .next t
      ∧ t.get F.HOST_CANERR.pex = 1 ∧ { t with regs := s.regs } = s ∧ ∀ a, a ≠ F.HOST_CANERR.pex.addr → t.word a = s.word a)
    ∧ (hears → exec (.canRequestFrame ⟨fd, ext, res⟩ ident [0x40#8, p0, p1, p2]) s = exec (.hostRead fetch) s)
    ∧ (hears → s.host.checking = none → at_ ≤ 0xFF_FFFC → ∀ u c v, hostReadWord s false at_ = (u, c, v) → LinkUp u →
      ∃ t, exec (.canRequestFrame ⟨fd, ext, res⟩ ident [0x40#8, p0, p1, p2]) s = .next t ∧ LinkOnly u t
        ∧ (Stops c → Answered t c 0 [] none) ∧ (¬ Stops c → c < 256 → Answered t c 1 [v] none))
    ∧ (hears → s.host.checking = none → at_ ≤ 0xFF_FFFC →
      ∃ t, exec (.canRequestFrame ⟨fd, ext, res⟩ ident [0x00#8, p0, p1, p2]) s = .next t ∧ Answered t 0 0 [] none ∧ LinkOnly s t)
    ∧ (hears → payload.length < 4 → s.host.checking = none → ∃ t, exec (.canRequestFrame ⟨fd, ext, res⟩ ident payload) s = .next t
      ∧ Answered t 2 0 [] none ∧ LinkOnly s t)
    ∧ (¬ notes → exec .canNotify s = .next s)
    ∧ (notes → ∃ t, exec .canNotify s = .next t ∧ t.regs = s.regs ∧ t.host.ntfSeen = enabled ∧ t.host.note.length = 12
      ∧ t.host.note.drop 1 = [0#8, 0#8, 0#8] ++ bytesBe (irqStat s) 4 ++ bytesBe (s.word F.SESS_EVT.fail.addr).toNat 4)
    ∧ (¬ can → exec .canTxDrop s = .next s ∧ exec .canBusOffRecovery s = .next s ∧ exec (.canBusError tec rec) s = .next s)
    ∧ (can → ∃ t, exec .canTxDrop s = .next t ∧ t.get F.HOST_CANERR.tx_drop = 1 ∧ t.get F.HOST_IRQSTAT.can = 1
      ∧ t.host = { s.host with answer := none })
    ∧ (can → s.get F.HOST_CANERR.state = 2 → exec (.canBusError tec rec) s = .next s
      ∧ ∃ t, exec .canBusOffRecovery s = .next t ∧ t.get F.HOST_CANERR.state = 0 ∧ t.get F.HOST_CANERR.tec = 0
        ∧ t.get F.HOST_CANERR.rec = 0 ∧ t.get F.HOST_IRQSTAT.can = 1)
    ∧ (can → s.get F.HOST_CANERR.state ≠ 2 → exec .canBusOffRecovery s = .next s
      ∧ ∃ t, exec (.canBusError tec rec) s = .next t ∧ t.get F.HOST_CANERR.state = errs
        ∧ t.get F.HOST_CANERR.tec = min 255 tec.toNat ∧ t.get F.HOST_CANERR.rec = min 255 rec.toNat
        ∧ t.get F.HOST_CANERR.busoff = (if errs = 2 then min 255 (s.get F.HOST_CANERR.busoff + 1) else s.get F.HOST_CANERR.busoff)
        ∧ (errs ≠ s.get F.HOST_CANERR.state → t.get F.HOST_IRQSTAT.can = 1))
    ∧ (exec .irqReassert s = .next { s with host := { s.host with irqReleased := false } })
    ∧ (¬ LinkUp s ∨ tagged = false ∨ key ≠ 0x0000_A55A#32 → exec (.hostReset key tagged) s = .next s)
    ∧ (LinkUp s → exec (.hostReset 0x0000_A55A#32 true) s = .next { s with host := { s.host with resetPend := true } })
    ∧ (s.host.resetPend = false → exec .hostResetAct s = .next s)
    ∧ (s.host.resetPend = true → ∃ t, exec .hostResetAct s = .next t ∧ ChipReset s t F.RST_CAUSE.host)

/-! Test port and balls (20). -/

/-- R430, R480 to R482: without the debug strap the test port does nothing; with it each instruction is selected, EXTEST and
SAMPLE/PRELOAD shift the cells in, a reserved opcode stays itself, and leaving EXTEST, HIGHZ or CLAMP while no plan runs returns every
ball to its fuse map. A running plan leaves the balls to their blocks whatever the port holds, and no ball of the start lock is
ever driven high without an open START session. -/
def Obligations.TestPort : Prop :=
  ∀ (cells : BitVec 84) (op : BitVec 4) (k ir : Nat) (s : State),
    let holds := fun (ir : Nat) => ir = 0 ∨ ir = 3 ∨ ir = 4
    let fused := fun (ir : Nat) => if holds s.tap.ir ∧ s.yard.applied = false ∧ ¬ holds ir then 2 ^ 28 - 1 else s.tap.fused
    let aers := fun (ir : Nat) => if holds s.tap.ir ∧ s.yard.applied = false ∧ ¬ holds ir then 2 ^ 12 - 1 else s.tap.aer
    let reserved := 5 ≤ op.toNat ∧ op.toNat ≤ 14
    let scans := s.yard.applied = false ∧ holds s.tap.ir
    (s.get F.RST_STRAP.dbg = 0 → ∀ c ∈ ([.tapExtest cells, .tapSamplePreload cells, .tapIdcode, .tapHighz, .tapClamp, .tapBypass,
      .tapReserved op, .tapReset] : List Instr), exec c s = .next s)
    ∧ (s.get F.RST_STRAP.dbg = 1 →
      (∀ p ∈ [(Instr.tapExtest cells, 0), (.tapSamplePreload cells, 1)], exec p.1 s = .next { s with
        tap := { ir := p.2, cells := cells, fused := fused p.2, aer := aers p.2 } })
      ∧ (∀ p ∈ [(Instr.tapIdcode, 2), (.tapHighz, 3), (.tapClamp, 4), (.tapBypass, 15), (.tapReset, 2)], exec p.1 s = .next { s with
        tap := { s.tap with ir := p.2, fused := fused p.2, aer := aers p.2 } })
      ∧ (reserved → exec (.tapReserved op) s = .next { s with tap := { s.tap with
        ir := op.toNat, fused := fused op.toNat, aer := aers op.toNat } })
      ∧ (¬ reserved → exec (.tapReserved op) s = .next s))
    ∧ (s.yard.applied = true → ballDrive { s with tap := { s.tap with ir := ir, cells := cells } } k = ballDrive s k)
    ∧ (scans → s.tap.ir = 3 → ballDrive s k = .highZ)
    ∧ (scans → s.tap.ir ≠ 3 → ballDrive s k = if s.tap.cells.getLsbD (3 * k + 2) = false then .highZ
      else if k ≠ 25 ∧ k ≠ 26 ∧ s.tap.cells.getLsbD (3 * k + 1) = true then .high else .low)
    ∧ (ballDrive s 25 = .high ∨ ballDrive s 26 = .high → s.get F.SESS_STAT.start_open = 1)

/-! The whole block. -/

/-- Derived from the commands' table: a step takes the command at the front of the queue and runs it with the queue's rest. -/
def Obligations.StepRunsFront : Prop :=
  ∀ (c : Instr) (rest : List Instr) (s : State), step { s with pending := c :: rest } = exec c { s with pending := rest }

/-- R71, R122, R211, R223 to R225, R441, with log entry 2, the model's choice that a step on an empty queue is one AON tick: the
timestamp moves on by one, STMP by 975000 LSB and the synthesiser by its LFS cycles while their clocks run; a rung's dwell that
ends and a burst that falls due in the tick that ends act, unless polling is off or AON clock-good is awaited (R427); ranging that sends
opens its receivers. -/
def Obligations.IdleTick : Prop :=
  ∀ (s : State), s.pending = [] →
    let quietTick := s.msAcc + 1000 < 32768
    let cycles := (s.aonTs + 1) * 15625 / 32 - s.aonTs * 15625 / 32
    let polls := s.get F.POLL_CTRL.en = 1 ∧ s.get F.RST_STAT.aon_wait = 0
    (∃ t, step s = .next t ∧ t.aonTs = s.aonTs + 1 ∧ t.pending = [] ∧ t.msAcc = (s.msAcc + 1000) % 32768)
    ∧ (quietTick → ¬ polls → ∃ t, step s = .next t ∧ t.poll = s.poll ∧ t.txn = s.txn ∧ t.keys = s.keys
      ∧ t.sess = s.sess ∧ t.get F.POLL_STAT.rung = s.get F.POLL_STAT.rung
      ∧ t.uwb.stmp = (if domOn s 7 = true ∧ s.bitAt F.CLK_STAT.good 8 = true then s.uwb.stmp + 975000#40 else s.uwb.stmp)
      ∧ (s.get F.UWB_STAT.state = 4 → s.uwb.exch ≠ none → t.get F.UWB_STAT.state = 3)
      ∧ t.lf.acc = (if domOn s 1 = true ∧ s.bitAt F.CLK_STAT.good 5 = true
        then s.lf.acc + BitVec.ofNat 32 (cycles * if domOn s 2 = true then s.get F.LF_FTW.ftw else s.get (F.POLL_SHADOW.copy 24)) else s.lf.acc))
    ∧ (quietTick → polls → s.poll.dwellEnd = s.aonTs → s.poll.due ≠ s.aonTs →
      s.get F.POLL_STAT.rung < 7 → ∃ t, step s = .next t ∧ t.get F.POLL_STAT.rung = s.get F.POLL_STAT.rung + 1
        ∧ t.poll.due = s.poll.due)
    ∧ (quietTick → polls → s.poll.dwellEnd ≠ s.aonTs → s.poll.due = s.aonTs →
      s.get F.POLL_CFG.groups ≠ 0 → s.get F.LF_STAT.owner ≠ 0 → ∃ t, step s = .next t ∧ Skipped s t
        ∧ t.poll.due = s.aonTs + period s (s.get F.POLL_STAT.rung))

/-- R7, R421: after POR every field whose Reset column gives a number reads it, but for aon_wait, which R427 sets, and HLTH_NEXT, which
R441 sets to one default period; RST_CAUSE names POR; no plan runs, no work is open and nothing waits. -/
def Obligations.ResetValues : Prop :=
  (∀ w, w < 0x14 → ∀ r ∈ windowRows w, ∀ a ∈ rowAddrs r.base r.dims, ∀ f ∈ r.fields, ∀ v, f.rst = .num v →
      (a, f.lo) ≠ (0x01_0004, 18) → a ≠ 0x13_0020 → a ≠ 0x13_0024 → bitsOf (State.reset.word a) f.lo f.len = v)
    ∧ State.reset.get F.RST_CAUSE.por = 1 ∧ State.reset.get F.RST_STAT.aon_wait = 1
    ∧ State.reset.get F.HLTH_NEXT_LO.due_lo + 2 ^ 32 * State.reset.get F.HLTH_NEXT_HI.due_hi = 7 * 2831155200
    ∧ State.reset.aonTs = 0 ∧ State.reset.yard.applied = false ∧ State.reset.txn.open_ = false
    ∧ State.reset.lf.stage = .idle ∧ State.reset.keys.slots.all (fun h => !h.live) = true ∧ State.reset.pending = []

/-- The invariant holds of the reset state: every store is in canonical form, every collection has its size. -/
def Obligations.InvHoldsAtReset : Prop := Inv State.reset

/-- Whatever command stands in front, or none, a step from a state of the invariant leads to one: every store stays in canonical form,
so that equal contents stay equal data, and every collection keeps its size, which the premises on sizes elsewhere rest on. -/
def Obligations.InvKeptByStep : Prop := ∀ (s t : State), Inv s → step s = .next t → Inv t

/-- No command of the table ever stops the block: from every state a step answers a next state, and takes one command from the front of
the queue and leaves the rest as it stands. -/
def Obligations.StepNeverStops : Prop := ∀ (s : State), ∃ t, step s = .next t ∧ t.pending = s.pending.tail

/-- What every next state of a command keeps: the register words outside the windows `wins` (R29), and what `back` does not put
back, so that a state put back with the registers is the state before. -/
abbrev KeepsBut (c : Instr) (s : State) (wins : List Nat) (back : State → State) : Prop :=
  ∀ t, exec c s = .next t → { back t with regs := s.regs } = s ∧ ∀ a, a / 0x10000 ∉ wins → t.word a = s.word a

/-- R29, with the rules of each command (R362 to R371, R89, R90, R117, R242 to R257, R269 to R281, R285 to R300, R177, R178, R210
to R215, R316, R352, R480), the frame of thirteen groups of commands: the tally commands change the tally counters, event lines and the TALLY
window alone; the LF register events the synthesiser's unit and the LF window; the receivers' register events the receivers' state, the transaction and
the UHF window; the channel operations and key handles the cores, the key tree, event lines and the windows of CIPH and KEYS; the cores' dispatch and block ends the transaction's precomputations too, with
HLTH for a mismatch; the noise source and expander their own state, the pools, ports and event lines, and the windows RNG, TALLY and
HLTH; the Loft commands the Loft and its window; the sessions' ends the sessions, event lines and the SESS window; the solver's
commands the solver, the index of free values, and the windows SOLV and HLTH; the staging of a plan the feed store, the loader and
the windows YARD and HOST; an engine's event lines that engine alone; and the test port its own state alone. -/
def Obligations.CommandFrames : Prop :=
  ∀ s : State,
    (∀ c ∈ (List.finRange 16).flatMap (fun n => [Instr.tallyMatch n, .tallyCapture n, .tallyFreezeApply n, .tallyCntRead n,
        .tallyCapRead n false, .tallyCapRead n true, .tallyCmpApply n, .tallyEdge n]),
      KeepsBut c s [0xB] fun t => { t with tally := s.tally, eng := s.eng })
    ∧ (∀ (n : Fin 16) (v : BitVec 16), ∀ c ∈ [Instr.tallySwcap v, .tallyFreezeWrite v, .tallyCntWrite n v, .tallyCmpWrite n v],
      KeepsBut c s [0xB] fun t => { t with tally := s.tally, eng := s.eng })
    ∧ (∀ (d : Word) (b : Bank) (u : BitVec 10) (v : BitVec 8),
      ∀ c ∈ [Instr.lfFaultClear d, .bankCool b v, .trimPeriod u, .lfTrimRead, .vdrvOk v],
        KeepsBut c s [5] fun t => { t with lf := s.lf })
    ∧ (∀ (p : Placement) (rx v : Bool), ∀ c ∈ [Instr.syncDetect p, .uEnWrite rx v, .uhfStatClr],
      KeepsBut c s [6] fun t => { t with uhf := s.uhf, txn := s.txn })
    ∧ (∀ (e : Fin 8) (h : BitVec 16) (l : Fin 48) (b : Bool),
      ∀ c ∈ [Instr.enc e h, .dec e h, .kstream e h, .echOpReserved e, .echAbort e b, .deriveStart e, .handleFree e h, .handleRetire l],
        KeepsBut c s [0xC, 0xD, 0x13] fun t => { t with ciph := s.ciph, keys := s.keys, eng := s.eng })
    ∧ (∀ (k : Fin 4) (b : Bool), ∀ c ∈ [Instr.coreDispatch, .blockDone k b],
      KeepsBut c s [0xC, 0xD, 0x13] fun t => { t with ciph := s.ciph, keys := s.keys, eng := s.eng, txn := s.txn })
    ∧ (∀ (u : RngUser) (p : Option (Fin 8)) (b : Bool) (raw : List Bool) (bits : BitVec 1024),
      ∀ c ∈ [Instr.healthTestFail raw, .startupTestPass bits, .rngRequest u b, .queueRefill b, .portConsume p, .rngStretchRead,
          .rngEnWrite b, .forcedReseed, .qflush],
        KeepsBut c s [0xB, 0xE, 0x13] fun t =>
          { t with rng := s.rng, ciph := s.ciph, keys := s.keys, eng := s.eng, tally := s.tally })
    ∧ (∀ (src : Src) (b : Bool) (r : Fin 16),
      ∀ c ∈ [Instr.commit src, .gatherTimeout, .commitStart, .gabort src b, .loftStore src, .ringSlotWriteDone r, .vholdStoreStop],
        KeepsBut c s [0xF] fun t => { t with loft := s.loft })
    ∧ (∀ a b v : Bool,
      ∀ c ∈ [Instr.endEntry, .endStart, .sessEnWrite v, .sessionTimeout a, .slkBHalfPeriod, .slkReadbackSample a b, .slkFaultClear],
        KeepsBut c s [0xA] fun t => { t with sess := s.sess, eng := s.eng })
    ∧ (∀ (b : Bool) (n : Fin 8) (src : Src) (w : Option Word), ∀ c ∈ [Instr.fixIteration b, .fixDeadline n, .solvMdataAccess src w],
      KeepsBut c s [8, 0x13] fun t => { t with solv := s.solv, ctr := s.ctr })
    ∧ (∀ (b : Bool) (d : Word), ∀ c ∈ [Instr.begin b, .pdataWrite d b, .cancel b],
      KeepsBut c s [0x11, 0x12] fun t => { t with feed := s.feed, yard := s.yard })
    ∧ (∀ (e : Fin 8) (l : Fin 16), ∀ c ∈ [Instr.eventEdge e l, .timerCompare e],
      KeepsBut c s [] fun t => { t with eng := s.eng })
    ∧ (∀ (x : BitVec 84) (o : BitVec 4),
      ∀ c ∈ [Instr.tapExtest x, .tapSamplePreload x, .tapIdcode, .tapHighz, .tapClamp, .tapBypass, .tapReserved o, .tapReset],
        KeepsBut c s [] fun t => { t with tap := s.tap })
end

