-- ==== Sys2Proof/Laws/Store.lean ====
section
/-!
SUPPORT. What the stores do: a read after a write gives the value written, a write leaves every other cell alone, and every
operation keeps the canonical form.
-/
namespace Sys2Proof.Machine

@[simp] theorem Store.get_nil {w : Nat} (a : Nat) : Store.get ([] : Store w) a = 0 := rfl

theorem Store.get_cons {w : Nat} (b a : Nat) (v : BitVec w) (t : Store w) :
    Store.get ((b, v) :: t) a = if b = a then v else Store.get t a := rfl

theorem Store.get_erase {w : Nat} (m : Store w) (a b : Nat) :
    Store.get (Store.erase m a) b = if b = a then 0 else Store.get m b := by
  induction m with
  | nil => simp [Store.erase]
  | cons e t ih =>
    obtain ⟨c, v⟩ := e
    by_cases h : c = a <;> by_cases h' : b = a <;> by_cases h2 : c = b <;>
      simp_all [Store.erase, Store.get_cons]

theorem Store.get_insert {w : Nat} (m : Store w) (a b : Nat) (v : BitVec w) (h : Store.get m a = 0) (hn : ∀ e ∈ m, e.1 ≠ a) :
    Store.get (Store.insert m a v) b = if b = a then v else Store.get m b := by
  induction m with
  | nil => by_cases h' : b = a <;> simp_all [Store.insert, Store.get_cons, eq_comm]
  | cons e t ih =>
    obtain ⟨c, u⟩ := e
    have hc : c ≠ a := hn (c, u) (by simp)
    have ht : ∀ e ∈ t, e.1 ≠ a := fun e he => hn e (by simp [he])
    have h0 : Store.get t a = 0 := by simpa [Store.get_cons, hc] using h
    by_cases hl : a < c
    · by_cases h' : b = a
      · subst h'; simp [Store.insert, hl, Store.get_cons]
      · simp [Store.insert, hl, Store.get_cons, h', Ne.symm h']
    · by_cases h2 : c = b
      · subst h2; simp [Store.insert, hl, Store.get_cons, hc]
      · simp [Store.insert, hl, Store.get_cons, h2, ih h0 ht]

theorem Store.erase_ne {w : Nat} (m : Store w) (a : Nat) : ∀ e ∈ Store.erase m a, e.1 ≠ a := by
  induction m with
  | nil => simp [Store.erase]
  | cons e t ih =>
    obtain ⟨c, v⟩ := e
    by_cases h : c = a
    · simpa [Store.erase, h] using ih
    · intro e he
      simp only [Store.erase, h, if_false, List.mem_cons] at he
      rcases he with rfl | he
      · exact h
      · exact ih e he

/-- A read after a write. -/
theorem Store.get_put {w : Nat} (m : Store w) (a b : Nat) (v : BitVec w) :
    Store.get (Store.put m a v) b = if b = a then v else Store.get m b := by
  by_cases h : v = 0
  · simp [Store.put, h, Store.get_erase]
  · have h0 : Store.get (Store.erase m a) a = 0 := by simp [Store.get_erase]
    simp only [Store.put, h, if_false, Store.get_insert _ _ _ _ h0 (Store.erase_ne m a), Store.get_erase]
    by_cases h2 : b = a <;> simp [h2]

@[simp] theorem Store.get_put_same {w : Nat} (m : Store w) (a : Nat) (v : BitVec w) :
    Store.get (Store.put m a v) a = v := by simp [Store.get_put]

theorem Store.get_put_ne {w : Nat} (m : Store w) {a b : Nat} (v : BitVec w) (h : b ≠ a) :
    Store.get (Store.put m a v) b = Store.get m b := by simp [Store.get_put, h]

theorem Store.get_clear {w : Nat} (m : Store w) (lo n a : Nat) :
    Store.get (Store.clear m lo n) a = if lo ≤ a ∧ a < lo + n then 0 else Store.get m a := by
  induction m with
  | nil => simp [Store.clear]
  | cons e t ih =>
    obtain ⟨c, v⟩ := e
    simp only [Store.clear, List.filter_cons] at ih ⊢
    by_cases hc : c < lo ∨ lo + n ≤ c
    · have : (decide (c < lo) || decide (lo + n ≤ c)) = true := by simpa using hc
      simp only [this, if_true, Store.get_cons]
      by_cases h2 : c = a
      · subst h2
        have : ¬ (lo ≤ c ∧ c < lo + n) := by omega
        simp [this]
      · simp only [h2, if_false, ih]
    · have : (decide (c < lo) || decide (lo + n ≤ c)) = false := by simpa using hc
      simp only [this, Bool.false_eq_true, if_false, Store.get_cons]
      rw [ih]
      by_cases h2 : c = a
      · subst h2
        have : (lo ≤ c ∧ c < lo + n) := by omega
        simp [this]
      · simp [h2]

theorem Store.get_putList {w : Nat} (l : List (BitVec w)) (m : Store w) (a b : Nat) :
    Store.get (Store.putList m a l) b = if a ≤ b ∧ b < a + l.length then l.getD (b - a) 0 else Store.get m b := by
  induction l generalizing m a with
  | nil => rw [Store.putList, if_neg (by simp only [List.length_nil]; omega)]
  | cons v t ih =>
    simp only [Store.putList, ih, Store.get_put, List.length_cons]
    by_cases h1 : a + 1 ≤ b ∧ b < a + 1 + t.length
    · have h2 : a ≤ b ∧ b < a + (t.length + 1) := by omega
      have h3 : b - a = (b - (a + 1)) + 1 := by omega
      simp [h1, h2, h3]
    · by_cases hb : b = a
      · subst hb
        have : b ≤ b ∧ b < b + (t.length + 1) := by omega
        rw [if_neg h1, if_pos rfl, if_pos this]
        simp
      · have h2 : ¬ (a ≤ b ∧ b < a + (t.length + 1)) := by omega
        rw [if_neg h1, if_neg h2, if_neg hb]

/-- Above a bound. -/
theorem Store.wfFrom_mono {w : Nat} (m : Store w) {lo hi : Nat} (h : Store.wfFrom (some hi) m = true) (hl : lo ≤ hi) :
    Store.wfFrom (some lo) m = true := by
  cases m with
  | nil => rfl
  | cons e t => obtain ⟨b, v⟩ := e; simp [Store.wfFrom] at h ⊢; exact ⟨⟨by omega, h.1.2⟩, h.2⟩

theorem Store.wf_of_from {w : Nat} (m : Store w) {lo : Option Nat} (h : Store.wfFrom lo m = true) : Store.wf m = true := by
  cases m with
  | nil => rfl
  | cons e t => obtain ⟨b, v⟩ := e; cases lo <;> simp_all [Store.wf, Store.wfFrom]

theorem Store.wfFrom_filter {w : Nat} (p : Nat × BitVec w → Bool) (m : Store w) (lo : Option Nat)
    (h : Store.wfFrom lo m = true) : Store.wfFrom lo (m.filter p) = true := by
  induction m generalizing lo with
  | nil => simpa using h
  | cons e t ih =>
    obtain ⟨b, v⟩ := e
    simp only [Store.wfFrom, Bool.and_eq_true] at h
    by_cases hp : p (b, v) = true
    · simp only [List.filter_cons, hp, if_true, Store.wfFrom, Bool.and_eq_true]
      exact ⟨h.1, ih _ h.2⟩
    · simp only [List.filter_cons, hp]
      have := ih _ h.2
      cases lo with
      | none => exact Store.wf_of_from _ this
      | some l =>
        have hl : l < b := by simpa using h.1.1
        exact Store.wfFrom_mono _ this (by omega)

theorem Store.wf_filter {w : Nat} (p : Nat × BitVec w → Bool) (m : Store w) (h : Store.wf m = true) :
    Store.wf (m.filter p) = true := Store.wfFrom_filter p m none h

@[simp] theorem Store.wf_clear {w : Nat} (m : Store w) (lo n : Nat) (h : Store.wf m = true) : Store.wf (Store.clear m lo n) = true :=
  Store.wf_filter _ m h

theorem Store.erase_eq_filter {w : Nat} (m : Store w) (a : Nat) : Store.erase m a = m.filter fun e => decide (e.1 ≠ a) := by
  induction m with
  | nil => rfl
  | cons e t ih => obtain ⟨b, v⟩ := e; by_cases h : b = a <;> simp [Store.erase, h, ih]

theorem Store.wf_erase {w : Nat} (m : Store w) (a : Nat) (h : Store.wf m = true) : Store.wf (Store.erase m a) = true := by
  rw [Store.erase_eq_filter]; exact Store.wf_filter _ m h

theorem Store.wfFrom_insert {w : Nat} (m : Store w) (a : Nat) (v : BitVec w) (lo : Option Nat) (h : Store.wfFrom lo m = true)
    (hv : v ≠ 0) (hn : ∀ e ∈ m, e.1 ≠ a) (ha : ∀ l, lo = some l → l < a) : Store.wfFrom lo (Store.insert m a v) = true := by
  induction m generalizing lo with
  | nil => cases lo <;> simp_all [Store.insert, Store.wfFrom]
  | cons e t ih =>
    obtain ⟨b, u⟩ := e
    have hb : b ≠ a := hn (b, u) (by simp)
    have ht : ∀ e ∈ t, e.1 ≠ a := fun e he => hn e (by simp [he])
    simp only [Store.wfFrom, Bool.and_eq_true] at h
    by_cases hl : a < b
    · simp only [Store.insert, hl, if_true, Store.wfFrom, Bool.and_eq_true]
      refine ⟨⟨?_, decide_eq_true hv⟩, ⟨by simp, h.1.2⟩, h.2⟩
      cases lo with
      | none => rfl
      | some l => simpa using ha l rfl
    · simp only [Store.insert, hl, if_false, Store.wfFrom, Bool.and_eq_true]
      refine ⟨h.1, ih _ h.2 ht ?_⟩
      intro l hl'
      have : b = l := by simpa using hl'
      omega

/-- A write keeps the canonical form. -/
@[simp] theorem Store.wf_put {w : Nat} (m : Store w) (a : Nat) (v : BitVec w) (h : Store.wf m = true) :
    Store.wf (Store.put m a v) = true := by
  by_cases hv : v = 0
  · simp only [Store.put, hv, if_true]; exact Store.wf_erase m a h
  · simp only [Store.put, hv, if_false]
    exact Store.wfFrom_insert _ _ _ none (Store.wf_erase m a h) hv (Store.erase_ne m a) (by simp)

@[simp] theorem Store.wf_putList {w : Nat} (l : List (BitVec w)) (m : Store w) (a : Nat) (h : Store.wf m = true) :
    Store.wf (Store.putList m a l) = true := by
  induction l generalizing m a with
  | nil => exact h
  | cons v t ih => exact ih _ _ (Store.wf_put _ _ _ h)

theorem Store.wfFrom_mapCells {w : Nat} (f : Nat → BitVec w → BitVec w) (m : Store w) (lo : Option Nat)
    (h : Store.wfFrom lo m = true) : Store.wfFrom lo (Store.mapCells m f) = true := by
  induction m generalizing lo with
  | nil => rfl
  | cons e t ih =>
    obtain ⟨b, v⟩ := e
    simp only [Store.wfFrom, Bool.and_eq_true] at h
    have ih' := ih _ h.2
    simp only [Store.mapCells, List.map_cons, List.filter_cons] at ih' ⊢
    by_cases hp : f b v = 0
    · simp only [hp, ne_eq, not_true_eq_false, decide_false, Bool.false_eq_true, if_false]
      cases lo with
      | none => exact Store.wf_of_from _ ih'
      | some l =>
        have hl : l < b := by simpa using h.1.1
        exact Store.wfFrom_mono _ ih' (by omega)
    · simp only [ne_eq, hp, not_false_eq_true, decide_true, if_true, Store.wfFrom, Bool.and_eq_true]
      exact ⟨⟨h.1.1, trivial⟩, ih'⟩

@[simp] theorem Store.wf_mapCells {w : Nat} (m : Store w) (f : Nat → BitVec w → BitVec w) (h : Store.wf m = true) :
    Store.wf (Store.mapCells m f) = true := Store.wfFrom_mapCells f m none h

@[simp] theorem Store.wf_window {w : Nat} (m : Store w) (lo n : Nat) (h : Store.wf m = true) : Store.wf (Store.window m lo n) = true := by
  have hf : Store.wf (m.filter fun e => decide (lo ≤ e.1) && decide (e.1 < lo + n)) = true := Store.wf_filter _ m h
  have hlo : ∀ e ∈ (m.filter fun e => decide (lo ≤ e.1) && decide (e.1 < lo + n)), lo ≤ e.1 := by
    intro e he; have := (List.mem_filter.mp he).2; simp at this; exact this.1
  unfold Store.window
  generalize (m.filter fun e => decide (lo ≤ e.1) && decide (e.1 < lo + n)) = l at hf hlo
  suffices hs : ∀ (l : Store w) (p q : Option Nat), Store.wfFrom p l = true → (∀ e ∈ l, lo ≤ e.1) →
      (∀ x, q = some x → ∃ y, p = some y ∧ lo ≤ y ∧ x = y - lo) →
      Store.wfFrom q (l.map fun e => (e.1 - lo, e.2)) = true from hs l none none hf hlo (by simp)
  intro l
  induction l with
  | nil => intros; rfl
  | cons e t ih =>
    obtain ⟨b, v⟩ := e
    intro p q hw hl hq
    simp only [Store.wfFrom, Bool.and_eq_true] at hw
    simp only [List.map_cons, Store.wfFrom, Bool.and_eq_true]
    refine ⟨⟨?_, hw.1.2⟩, ih (some b) (some (b - lo)) hw.2 (fun e he => hl e (by simp [he])) ?_⟩
    · cases q with
      | none => rfl
      | some x =>
        obtain ⟨y, hy, hly, hx⟩ := hq x rfl
        subst hy
        have h1 : y < b := by simpa using hw.1.1
        have h2 : lo ≤ b := hl (b, v) (by simp)
        simp; omega
    · intro x hx
      exact ⟨b, rfl, hl (b, v) (by simp), by simpa using hx.symm⟩

@[simp] theorem Store.wf_copy {w : Nat} (dst src : Store w) (dest from_ n : Nat) (h : Store.wf dst = true) :
    Store.wf (Store.copy dst src dest from_ n) = true := by
  unfold Store.copy
  generalize Store.window src from_ n = l
  suffices hs : ∀ (l : Store w) (d : Store w), Store.wf d = true →
      Store.wf (l.foldl (fun d e => Store.put d (dest + e.1) e.2) d) = true from hs l _ (Store.wf_clear _ _ _ h)
  intro l
  induction l with
  | nil => intro d hd; exact hd
  | cons e t ih => intro d hd; exact ih _ (Store.wf_put _ _ _ hd)

@[simp] theorem Mem.wf_putWord (m : Mem) (a : Nat) (v : Word) (h : Store.wf m = true) : Store.wf (Mem.putWord m a v) = true :=
  Store.wf_put _ _ _ (Store.wf_put _ _ _ (Store.wf_put _ _ _ (Store.wf_put _ _ _ h)))

@[simp] theorem Mem.wf_putHalf (m : Mem) (a : Nat) (v : BitVec 16) (h : Store.wf m = true) : Store.wf (Mem.putHalf m a v) = true :=
  Store.wf_put _ _ _ (Store.wf_put _ _ _ h)

/-- A word written reads back (R4). -/
theorem Mem.word_putWord (m : Mem) (a : Nat) (v : Word) : Mem.word (Mem.putWord m a v) a = v := by
  have h1 : ∀ k, k < 4 → Store.get (Mem.putWord m a v) (a + k) = v.extractLsb' (8 * k) 8 := by
    intro k hk
    simp only [Mem.putWord, Store.get_put]
    have : k = 0 ∨ k = 1 ∨ k = 2 ∨ k = 3 := by omega
    rcases this with rfl | rfl | rfl | rfl <;> simp
  have h0 := h1 0 (by omega)
  simp only [Nat.add_zero, Nat.mul_zero] at h0
  simp only [Mem.word, h0, h1 1 (by omega), h1 2 (by omega), h1 3 (by omega)]
  apply BitVec.eq_of_getLsbD_eq
  intro i hi
  simp only [BitVec.getLsbD_append, BitVec.getLsbD_extractLsb']
  by_cases c1 : i < 8
  · simp [c1]
  · by_cases c2 : i < 16
    · have e : i - 8 < 8 := by omega
      have e2 : 8 + (i - 8) = i := by omega
      simp [c1, e, e2]
    · by_cases c3 : i < 24
      · have e : ¬ i - 8 < 8 := by omega
        have e1 : i - 8 - 8 < 8 := by omega
        have e2 : 16 + (i - 8 - 8) = i := by omega
        simp [c1, e, e1, e2]
      · have e : ¬ i - 8 < 8 := by omega
        have e1 : ¬ i - 8 - 8 < 8 := by omega
        have e2 : 24 + (i - 8 - 8 - 8) = i := by omega
        have e3 : i - 8 - 8 - 8 < 8 := by omega
        simp [c1, e, e1, e2, e3]

theorem Mem.get_putWord_other (m : Mem) (a b : Nat) (v : Word) (h : b < a ∨ a + 4 ≤ b) :
    Store.get (Mem.putWord m a v) b = Store.get m b := by
  simp only [Mem.putWord, Store.get_put]
  have h0 : b ≠ a := by omega
  have h1 : b ≠ a + 1 := by omega
  have h2 : b ≠ a + 2 := by omega
  have h3 : b ≠ a + 3 := by omega
  simp [h0, h1, h2, h3]

end Sys2Proof.Machine
end

