-- ==== Sys2Proof/Laws/Fields.lean ====
section
/-!
SUPPORT. What the register-field operations do: a field set reads back, every other field keeps its value, and nothing but the
register store changes.
-/
namespace Sys2Proof.Machine

theorem bitsOf_lt (w : Word) (lo len : Nat) : bitsOf w lo len < 2 ^ len := Nat.mod_lt _ (Nat.two_pow_pos len)

/-- A number below 2 ^ 32 cut at a field: what is below it, the field, what is above it. -/
theorem word_parts (w : Word) (lo len : Nat) (h : lo + len ≤ 32) :
    ∃ a c, w.toNat = a + bitsOf w lo len * 2 ^ lo + c * (2 ^ lo * 2 ^ len) ∧ a < 2 ^ lo
      ∧ c * (2 ^ lo * 2 ^ len) + 2 ^ lo * 2 ^ len ≤ 2 ^ 32 := by
  refine ⟨w.toNat % 2 ^ lo, w.toNat / 2 ^ lo / 2 ^ len, ?_, Nat.mod_lt _ (Nat.two_pow_pos lo), ?_⟩
  · have h1 := Nat.div_add_mod w.toNat (2 ^ lo)
    have h2 := Nat.div_add_mod (w.toNat / 2 ^ lo) (2 ^ len)
    unfold bitsOf
    generalize w.toNat / 2 ^ lo / 2 ^ len = c at *
    generalize w.toNat / 2 ^ lo % 2 ^ len = b at *
    rw [← h2, Nat.mul_add, Nat.mul_comm (2 ^ lo) b, ← Nat.mul_assoc, Nat.mul_comm (2 ^ lo * 2 ^ len) c] at h1
    omega
  · have hw := w.isLt
    have e : (2 : Nat) ^ 32 = 2 ^ (32 - (lo + len)) * (2 ^ lo * 2 ^ len) := by
      rw [← Nat.pow_add, ← Nat.pow_add]; congr 1; omega
    have hc : w.toNat / 2 ^ lo / 2 ^ len < 2 ^ (32 - (lo + len)) := by
      rw [Nat.div_div_eq_div_mul]
      apply Nat.div_lt_of_lt_mul
      rw [Nat.mul_comm, ← e]; exact hw
    have := Nat.mul_le_mul_right (2 ^ lo * 2 ^ len) hc
    rw [Nat.succ_mul] at this
    omega

/-- The word after a field is replaced, cut at the field. -/
theorem putBits_parts (w : Word) (lo len v : Nat) (h : lo + len ≤ 32) :
    ∃ a c, w.toNat = a + bitsOf w lo len * 2 ^ lo + c * (2 ^ lo * 2 ^ len) ∧ a < 2 ^ lo
      ∧ (putBits w lo len v).toNat = a + v % 2 ^ len * 2 ^ lo + c * (2 ^ lo * 2 ^ len) := by
  obtain ⟨a, c, hw, ha, hc⟩ := word_parts w lo len h
  refine ⟨a, c, hw, ha, ?_⟩
  have hv : (v % 2 ^ len + 1) * 2 ^ lo ≤ 2 ^ len * 2 ^ lo := Nat.mul_le_mul_right _ (Nat.mod_lt _ (Nat.two_pow_pos len))
  rw [Nat.add_mul, Nat.one_mul, Nat.mul_comm (2 ^ len)] at hv
  rw [putBits, BitVec.toNat_ofNat, Nat.mod_eq_of_lt (by omega)]
  omega

/-- A field below a part of a word does not see it. -/
theorem field_below (a v c lo len l n : Nat) (h : l + n ≤ lo) :
    (a + v * 2 ^ lo + c * (2 ^ lo * 2 ^ len)) / 2 ^ l % 2 ^ n = a / 2 ^ l % 2 ^ n := by
  have e : (a + v * 2 ^ lo + c * (2 ^ lo * 2 ^ len)) = a + 2 ^ l * (2 ^ n * (2 ^ (lo - (l + n)) * (v + c * 2 ^ len))) := by
    have : 2 ^ lo = 2 ^ l * (2 ^ n * 2 ^ (lo - (l + n))) := by
      rw [← Nat.pow_add, ← Nat.pow_add]; congr 1; omega
    have e2 : 2 ^ l * (2 ^ n * (2 ^ (lo - (l + n)) * (v + c * 2 ^ len))) = 2 ^ lo * (v + c * 2 ^ len) := by
      rw [this, Nat.mul_assoc, Nat.mul_assoc]
    rw [e2, Nat.mul_add, Nat.mul_comm (2 ^ lo) v, Nat.mul_left_comm, Nat.add_assoc]
  rw [e, Nat.add_mul_div_left _ _ (Nat.two_pow_pos l), Nat.add_mul_mod_self_left]

theorem bitsOf_putBits_same (w : Word) (lo len v : Nat) (h : lo + len ≤ 32) :
    bitsOf (putBits w lo len v) lo len = v % 2 ^ len := by
  obtain ⟨a, c, -, ha, hp⟩ := putBits_parts w lo len v h
  have e : a + v % 2 ^ len * 2 ^ lo + c * (2 ^ lo * 2 ^ len) = a + 2 ^ lo * (v % 2 ^ len + 2 ^ len * c) := by
    rw [Nat.mul_add, Nat.mul_comm (2 ^ lo) (v % _), ← Nat.mul_assoc (2 ^ lo) (2 ^ len) c, Nat.mul_comm c, Nat.add_assoc]
  rw [bitsOf, hp, e, Nat.add_mul_div_left _ _ (Nat.two_pow_pos lo), Nat.div_eq_of_lt ha, Nat.zero_add,
    Nat.add_mul_mod_self_left, Nat.mod_mod]

theorem bitsOf_putBits_ne (w : Word) (lo len v l n : Nat) (h : lo + len ≤ 32) (hd : l + n ≤ lo ∨ lo + len ≤ l) :
    bitsOf (putBits w lo len v) l n = bitsOf w l n := by
  obtain ⟨a, c, hw, ha, hp⟩ := putBits_parts w lo len v h
  rw [bitsOf, bitsOf, hp]
  rcases hd with hd | hd
  · rw [field_below _ _ _ _ _ _ _ hd, hw, field_below _ _ _ _ _ _ _ hd]
  · have key : ∀ x, x < 2 ^ len → (a + x * 2 ^ lo + c * (2 ^ lo * 2 ^ len)) / 2 ^ l = c / 2 ^ (l - (lo + len)) := by
      intro x hx
      have e : 2 ^ l = 2 ^ lo * 2 ^ len * 2 ^ (l - (lo + len)) := by
        rw [← Nat.pow_add, ← Nat.pow_add]; congr 1; omega
      have hx' : (x + 1) * 2 ^ lo ≤ 2 ^ len * 2 ^ lo := Nat.mul_le_mul_right _ hx
      rw [Nat.add_mul, Nat.one_mul, Nat.mul_comm (2 ^ len)] at hx'
      have hlt : a + x * 2 ^ lo < 2 ^ lo * 2 ^ len := by omega
      have h1 : (a + x * 2 ^ lo + c * (2 ^ lo * 2 ^ len)) / (2 ^ lo * 2 ^ len) = c := by
        rw [Nat.add_mul_div_right _ _ (Nat.mul_pos (Nat.two_pow_pos lo) (Nat.two_pow_pos len)), Nat.div_eq_of_lt hlt, Nat.zero_add]
      rw [e, ← Nat.div_div_eq_div_mul, h1]
    rw [key _ (Nat.mod_lt _ (Nat.two_pow_pos len)), hw, key _ (bitsOf_lt w lo len)]

theorem State.get_lt (s : State) (f : Fld) : s.get f < 2 ^ f.len := bitsOf_lt _ _ _

/-- A field set reads back. -/
theorem State.get_set_same (s : State) (f : Fld) (v : Nat) (h : f.fits = true) : (s.set f v).get f = v % 2 ^ f.len := by
  simp only [State.get, State.set, State.setWord, State.word, Store.get_put_same]
  exact bitsOf_putBits_same _ _ _ _ (by simpa [Fld.fits] using h)

/-- A field set leaves every other field alone. -/
theorem State.get_set_apart (s : State) (f g : Fld) (v : Nat) (h : f.fits = true) (hd : f.apart g = true) :
    (s.set f v).get g = s.get g := by
  simp only [State.get, State.set, State.setWord, State.word, Store.get_put]
  by_cases ha : g.addr = f.addr
  · rw [if_pos ha, ha]
    refine bitsOf_putBits_ne _ _ _ _ _ _ (by simpa [Fld.fits] using h) ?_
    simp only [Fld.apart, ha, ne_eq, not_true_eq_false, decide_false, Bool.false_or, Bool.or_eq_true, decide_eq_true_eq] at hd
    exact hd
  · rw [if_neg ha]

theorem State.word_set_ne (s : State) (f : Fld) (v a : Nat) (h : a ≠ f.addr) : (s.set f v).word a = s.word a := by
  simp [State.set, State.setWord, State.word, Store.get_put, h]

theorem State.word_setWord (s : State) (a b : Nat) (v : Word) : (s.setWord a v).word b = if b = a then v else s.word b := by
  simp [State.setWord, State.word, Store.get_put]

theorem State.wf_set (s : State) (f : Fld) (v : Nat) (h : Store.wf s.regs = true) : Store.wf (s.set f v).regs = true :=
  Store.wf_put _ _ _ h

end Sys2Proof.Machine
end

