-- ==== Sys2Proof/Laws/State.lean ====
section
/-!
SUPPORT. One lemma per field per update: what each basic update of the state leaves alone, each true by rfl, and the field
updates in terms of `State.set`.
-/
namespace Sys2Proof.Machine

@[simp] theorem State.put_eq (s : State) (f : Fld) (b : Bool) : s.put f b = s.set f (b2n b) := rfl
@[simp] theorem State.bump_eq (s : State) (f : Fld) : s.bump f = s.set f (satInc (2 ^ f.len - 1) (s.get f)) := rfl
@[simp] theorem State.wrapInc_eq (s : State) (f : Fld) : s.wrapInc f = s.set f (s.get f + 1) := rfl
@[simp] theorem State.putBit_eq (s : State) (f : Fld) (i : Nat) (b : Bool) :
    s.putBit f i b = s.set f (if b then setBit (s.get f) i else clrBit (s.get f) i) := rfl
@[simp] theorem State.sets_nil (s : State) : s.sets [] = s := rfl
@[simp] theorem State.sets_cons (s : State) (e : Fld × Nat) (l : List (Fld × Nat)) :
    s.sets (e :: l) = (s.set e.1 e.2).sets l := rfl
@[simp] theorem State.fresh_fst (s : State) : s.fresh.1 = s.ctr := rfl
@[simp] theorem State.fresh_snd (s : State) : s.fresh.2 = { s with ctr := s.ctr + 1 } := rfl
@[simp] theorem State.set_fuses (s : State) (f : Fld) (v : Nat) : (s.set f v).fuses = s.fuses := rfl
@[simp] theorem State.set_fuseSerial (s : State) (f : Fld) (v : Nat) : (s.set f v).fuseSerial = s.fuseSerial := rfl
@[simp] theorem State.set_fuseKey (s : State) (f : Fld) (v : Nat) : (s.set f v).fuseKey = s.fuseKey := rfl
@[simp] theorem State.set_aonTs (s : State) (f : Fld) (v : Nat) : (s.set f v).aonTs = s.aonTs := rfl
@[simp] theorem State.set_msAcc (s : State) (f : Fld) (v : Nat) : (s.set f v).msAcc = s.msAcc := rfl
@[simp] theorem State.set_ctr (s : State) (f : Fld) (v : Nat) : (s.set f v).ctr = s.ctr := rfl
@[simp] theorem State.set_keys (s : State) (f : Fld) (v : Nat) : (s.set f v).keys = s.keys := rfl
@[simp] theorem State.set_ciph (s : State) (f : Fld) (v : Nat) : (s.set f v).ciph = s.ciph := rfl
@[simp] theorem State.set_rng (s : State) (f : Fld) (v : Nat) : (s.set f v).rng = s.rng := rfl
@[simp] theorem State.set_loft (s : State) (f : Fld) (v : Nat) : (s.set f v).loft = s.loft := rfl
@[simp] theorem State.set_doms (s : State) (f : Fld) (v : Nat) : (s.set f v).doms = s.doms := rfl
@[simp] theorem State.set_man (s : State) (f : Fld) (v : Nat) : (s.set f v).man = s.man := rfl
@[simp] theorem State.set_yard (s : State) (f : Fld) (v : Nat) : (s.set f v).yard = s.yard := rfl
@[simp] theorem State.set_feed (s : State) (f : Fld) (v : Nat) : (s.set f v).feed = s.feed := rfl
@[simp] theorem State.set_eng (s : State) (f : Fld) (v : Nat) : (s.set f v).eng = s.eng := rfl
@[simp] theorem State.set_tally (s : State) (f : Fld) (v : Nat) : (s.set f v).tally = s.tally := rfl
@[simp] theorem State.set_sess (s : State) (f : Fld) (v : Nat) : (s.set f v).sess = s.sess := rfl
@[simp] theorem State.set_poll (s : State) (f : Fld) (v : Nat) : (s.set f v).poll = s.poll := rfl
@[simp] theorem State.set_rst (s : State) (f : Fld) (v : Nat) : (s.set f v).rst = s.rst := rfl
@[simp] theorem State.set_host (s : State) (f : Fld) (v : Nat) : (s.set f v).host = s.host := rfl
@[simp] theorem State.set_lf (s : State) (f : Fld) (v : Nat) : (s.set f v).lf = s.lf := rfl
@[simp] theorem State.set_uhf (s : State) (f : Fld) (v : Nat) : (s.set f v).uhf = s.uhf := rfl
@[simp] theorem State.set_uwb (s : State) (f : Fld) (v : Nat) : (s.set f v).uwb = s.uwb := rfl
@[simp] theorem State.set_txn (s : State) (f : Fld) (v : Nat) : (s.set f v).txn = s.txn := rfl
@[simp] theorem State.set_solv (s : State) (f : Fld) (v : Nat) : (s.set f v).solv = s.solv := rfl
@[simp] theorem State.set_hlth (s : State) (f : Fld) (v : Nat) : (s.set f v).hlth = s.hlth := rfl
@[simp] theorem State.set_tap (s : State) (f : Fld) (v : Nat) : (s.set f v).tap = s.tap := rfl
@[simp] theorem State.set_verdPulse (s : State) (f : Fld) (v : Nat) : (s.set f v).verdPulse = s.verdPulse := rfl
@[simp] theorem State.set_pending (s : State) (f : Fld) (v : Nat) : (s.set f v).pending = s.pending := rfl

@[simp] theorem State.setWord_fuses (s : State) (a : Nat) (v : Word) : (s.setWord a v).fuses = s.fuses := rfl
@[simp] theorem State.setWord_fuseSerial (s : State) (a : Nat) (v : Word) : (s.setWord a v).fuseSerial = s.fuseSerial := rfl
@[simp] theorem State.setWord_fuseKey (s : State) (a : Nat) (v : Word) : (s.setWord a v).fuseKey = s.fuseKey := rfl
@[simp] theorem State.setWord_aonTs (s : State) (a : Nat) (v : Word) : (s.setWord a v).aonTs = s.aonTs := rfl
@[simp] theorem State.setWord_msAcc (s : State) (a : Nat) (v : Word) : (s.setWord a v).msAcc = s.msAcc := rfl
@[simp] theorem State.setWord_ctr (s : State) (a : Nat) (v : Word) : (s.setWord a v).ctr = s.ctr := rfl
@[simp] theorem State.setWord_keys (s : State) (a : Nat) (v : Word) : (s.setWord a v).keys = s.keys := rfl
@[simp] theorem State.setWord_ciph (s : State) (a : Nat) (v : Word) : (s.setWord a v).ciph = s.ciph := rfl
@[simp] theorem State.setWord_rng (s : State) (a : Nat) (v : Word) : (s.setWord a v).rng = s.rng := rfl
@[simp] theorem State.setWord_loft (s : State) (a : Nat) (v : Word) : (s.setWord a v).loft = s.loft := rfl
@[simp] theorem State.setWord_doms (s : State) (a : Nat) (v : Word) : (s.setWord a v).doms = s.doms := rfl
@[simp] theorem State.setWord_man (s : State) (a : Nat) (v : Word) : (s.setWord a v).man = s.man := rfl
@[simp] theorem State.setWord_yard (s : State) (a : Nat) (v : Word) : (s.setWord a v).yard = s.yard := rfl
@[simp] theorem State.setWord_feed (s : State) (a : Nat) (v : Word) : (s.setWord a v).feed = s.feed := rfl
@[simp] theorem State.setWord_eng (s : State) (a : Nat) (v : Word) : (s.setWord a v).eng = s.eng := rfl
@[simp] theorem State.setWord_tally (s : State) (a : Nat) (v : Word) : (s.setWord a v).tally = s.tally := rfl
@[simp] theorem State.setWord_sess (s : State) (a : Nat) (v : Word) : (s.setWord a v).sess = s.sess := rfl
@[simp] theorem State.setWord_poll (s : State) (a : Nat) (v : Word) : (s.setWord a v).poll = s.poll := rfl
@[simp] theorem State.setWord_rst (s : State) (a : Nat) (v : Word) : (s.setWord a v).rst = s.rst := rfl
@[simp] theorem State.setWord_host (s : State) (a : Nat) (v : Word) : (s.setWord a v).host = s.host := rfl
@[simp] theorem State.setWord_lf (s : State) (a : Nat) (v : Word) : (s.setWord a v).lf = s.lf := rfl
@[simp] theorem State.setWord_uhf (s : State) (a : Nat) (v : Word) : (s.setWord a v).uhf = s.uhf := rfl
@[simp] theorem State.setWord_uwb (s : State) (a : Nat) (v : Word) : (s.setWord a v).uwb = s.uwb := rfl
@[simp] theorem State.setWord_txn (s : State) (a : Nat) (v : Word) : (s.setWord a v).txn = s.txn := rfl
@[simp] theorem State.setWord_solv (s : State) (a : Nat) (v : Word) : (s.setWord a v).solv = s.solv := rfl
@[simp] theorem State.setWord_hlth (s : State) (a : Nat) (v : Word) : (s.setWord a v).hlth = s.hlth := rfl
@[simp] theorem State.setWord_tap (s : State) (a : Nat) (v : Word) : (s.setWord a v).tap = s.tap := rfl
@[simp] theorem State.setWord_verdPulse (s : State) (a : Nat) (v : Word) : (s.setWord a v).verdPulse = s.verdPulse := rfl
@[simp] theorem State.setWord_pending (s : State) (a : Nat) (v : Word) : (s.setWord a v).pending = s.pending := rfl

@[simp] theorem State.zero_fuses (s : State) (a n : Nat) : (s.zero a n).fuses = s.fuses := rfl
@[simp] theorem State.zero_fuseSerial (s : State) (a n : Nat) : (s.zero a n).fuseSerial = s.fuseSerial := rfl
@[simp] theorem State.zero_fuseKey (s : State) (a n : Nat) : (s.zero a n).fuseKey = s.fuseKey := rfl
@[simp] theorem State.zero_aonTs (s : State) (a n : Nat) : (s.zero a n).aonTs = s.aonTs := rfl
@[simp] theorem State.zero_msAcc (s : State) (a n : Nat) : (s.zero a n).msAcc = s.msAcc := rfl
@[simp] theorem State.zero_ctr (s : State) (a n : Nat) : (s.zero a n).ctr = s.ctr := rfl
@[simp] theorem State.zero_keys (s : State) (a n : Nat) : (s.zero a n).keys = s.keys := rfl
@[simp] theorem State.zero_ciph (s : State) (a n : Nat) : (s.zero a n).ciph = s.ciph := rfl
@[simp] theorem State.zero_rng (s : State) (a n : Nat) : (s.zero a n).rng = s.rng := rfl
@[simp] theorem State.zero_loft (s : State) (a n : Nat) : (s.zero a n).loft = s.loft := rfl
@[simp] theorem State.zero_doms (s : State) (a n : Nat) : (s.zero a n).doms = s.doms := rfl
@[simp] theorem State.zero_man (s : State) (a n : Nat) : (s.zero a n).man = s.man := rfl
@[simp] theorem State.zero_yard (s : State) (a n : Nat) : (s.zero a n).yard = s.yard := rfl
@[simp] theorem State.zero_feed (s : State) (a n : Nat) : (s.zero a n).feed = s.feed := rfl
@[simp] theorem State.zero_eng (s : State) (a n : Nat) : (s.zero a n).eng = s.eng := rfl
@[simp] theorem State.zero_tally (s : State) (a n : Nat) : (s.zero a n).tally = s.tally := rfl
@[simp] theorem State.zero_sess (s : State) (a n : Nat) : (s.zero a n).sess = s.sess := rfl
@[simp] theorem State.zero_poll (s : State) (a n : Nat) : (s.zero a n).poll = s.poll := rfl
@[simp] theorem State.zero_rst (s : State) (a n : Nat) : (s.zero a n).rst = s.rst := rfl
@[simp] theorem State.zero_host (s : State) (a n : Nat) : (s.zero a n).host = s.host := rfl
@[simp] theorem State.zero_lf (s : State) (a n : Nat) : (s.zero a n).lf = s.lf := rfl
@[simp] theorem State.zero_uhf (s : State) (a n : Nat) : (s.zero a n).uhf = s.uhf := rfl
@[simp] theorem State.zero_uwb (s : State) (a n : Nat) : (s.zero a n).uwb = s.uwb := rfl
@[simp] theorem State.zero_txn (s : State) (a n : Nat) : (s.zero a n).txn = s.txn := rfl
@[simp] theorem State.zero_solv (s : State) (a n : Nat) : (s.zero a n).solv = s.solv := rfl
@[simp] theorem State.zero_hlth (s : State) (a n : Nat) : (s.zero a n).hlth = s.hlth := rfl
@[simp] theorem State.zero_tap (s : State) (a n : Nat) : (s.zero a n).tap = s.tap := rfl
@[simp] theorem State.zero_verdPulse (s : State) (a n : Nat) : (s.zero a n).verdPulse = s.verdPulse := rfl
@[simp] theorem State.zero_pending (s : State) (a n : Nat) : (s.zero a n).pending = s.pending := rfl

@[simp] theorem State.modEng_regs (s : State) (e : Nat) (f : Engine → Engine) : (s.modEng e f).regs = s.regs := rfl
@[simp] theorem State.modEng_fuses (s : State) (e : Nat) (f : Engine → Engine) : (s.modEng e f).fuses = s.fuses := rfl
@[simp] theorem State.modEng_fuseSerial (s : State) (e : Nat) (f : Engine → Engine) : (s.modEng e f).fuseSerial = s.fuseSerial := rfl
@[simp] theorem State.modEng_fuseKey (s : State) (e : Nat) (f : Engine → Engine) : (s.modEng e f).fuseKey = s.fuseKey := rfl
@[simp] theorem State.modEng_aonTs (s : State) (e : Nat) (f : Engine → Engine) : (s.modEng e f).aonTs = s.aonTs := rfl
@[simp] theorem State.modEng_msAcc (s : State) (e : Nat) (f : Engine → Engine) : (s.modEng e f).msAcc = s.msAcc := rfl
@[simp] theorem State.modEng_ctr (s : State) (e : Nat) (f : Engine → Engine) : (s.modEng e f).ctr = s.ctr := rfl
@[simp] theorem State.modEng_keys (s : State) (e : Nat) (f : Engine → Engine) : (s.modEng e f).keys = s.keys := rfl
@[simp] theorem State.modEng_ciph (s : State) (e : Nat) (f : Engine → Engine) : (s.modEng e f).ciph = s.ciph := rfl
@[simp] theorem State.modEng_rng (s : State) (e : Nat) (f : Engine → Engine) : (s.modEng e f).rng = s.rng := rfl
@[simp] theorem State.modEng_loft (s : State) (e : Nat) (f : Engine → Engine) : (s.modEng e f).loft = s.loft := rfl
@[simp] theorem State.modEng_doms (s : State) (e : Nat) (f : Engine → Engine) : (s.modEng e f).doms = s.doms := rfl
@[simp] theorem State.modEng_man (s : State) (e : Nat) (f : Engine → Engine) : (s.modEng e f).man = s.man := rfl
@[simp] theorem State.modEng_yard (s : State) (e : Nat) (f : Engine → Engine) : (s.modEng e f).yard = s.yard := rfl
@[simp] theorem State.modEng_feed (s : State) (e : Nat) (f : Engine → Engine) : (s.modEng e f).feed = s.feed := rfl
@[simp] theorem State.modEng_tally (s : State) (e : Nat) (f : Engine → Engine) : (s.modEng e f).tally = s.tally := rfl
@[simp] theorem State.modEng_sess (s : State) (e : Nat) (f : Engine → Engine) : (s.modEng e f).sess = s.sess := rfl
@[simp] theorem State.modEng_poll (s : State) (e : Nat) (f : Engine → Engine) : (s.modEng e f).poll = s.poll := rfl
@[simp] theorem State.modEng_rst (s : State) (e : Nat) (f : Engine → Engine) : (s.modEng e f).rst = s.rst := rfl
@[simp] theorem State.modEng_host (s : State) (e : Nat) (f : Engine → Engine) : (s.modEng e f).host = s.host := rfl
@[simp] theorem State.modEng_lf (s : State) (e : Nat) (f : Engine → Engine) : (s.modEng e f).lf = s.lf := rfl
@[simp] theorem State.modEng_uhf (s : State) (e : Nat) (f : Engine → Engine) : (s.modEng e f).uhf = s.uhf := rfl
@[simp] theorem State.modEng_uwb (s : State) (e : Nat) (f : Engine → Engine) : (s.modEng e f).uwb = s.uwb := rfl
@[simp] theorem State.modEng_txn (s : State) (e : Nat) (f : Engine → Engine) : (s.modEng e f).txn = s.txn := rfl
@[simp] theorem State.modEng_solv (s : State) (e : Nat) (f : Engine → Engine) : (s.modEng e f).solv = s.solv := rfl
@[simp] theorem State.modEng_hlth (s : State) (e : Nat) (f : Engine → Engine) : (s.modEng e f).hlth = s.hlth := rfl
@[simp] theorem State.modEng_tap (s : State) (e : Nat) (f : Engine → Engine) : (s.modEng e f).tap = s.tap := rfl
@[simp] theorem State.modEng_verdPulse (s : State) (e : Nat) (f : Engine → Engine) : (s.modEng e f).verdPulse = s.verdPulse := rfl
@[simp] theorem State.modEng_pending (s : State) (e : Nat) (f : Engine → Engine) : (s.modEng e f).pending = s.pending := rfl

@[simp] theorem State.sets_fuses (s : State) (l : List (Fld × Nat)) : (s.sets l).fuses = s.fuses := by
  induction l generalizing s with
  | nil => rfl
  | cons e l ih => exact ih _
@[simp] theorem State.sets_fuseSerial (s : State) (l : List (Fld × Nat)) : (s.sets l).fuseSerial = s.fuseSerial := by
  induction l generalizing s with
  | nil => rfl
  | cons e l ih => exact ih _
@[simp] theorem State.sets_fuseKey (s : State) (l : List (Fld × Nat)) : (s.sets l).fuseKey = s.fuseKey := by
  induction l generalizing s with
  | nil => rfl
  | cons e l ih => exact ih _
@[simp] theorem State.sets_aonTs (s : State) (l : List (Fld × Nat)) : (s.sets l).aonTs = s.aonTs := by
  induction l generalizing s with
  | nil => rfl
  | cons e l ih => exact ih _
@[simp] theorem State.sets_msAcc (s : State) (l : List (Fld × Nat)) : (s.sets l).msAcc = s.msAcc := by
  induction l generalizing s with
  | nil => rfl
  | cons e l ih => exact ih _
@[simp] theorem State.sets_ctr (s : State) (l : List (Fld × Nat)) : (s.sets l).ctr = s.ctr := by
  induction l generalizing s with
  | nil => rfl
  | cons e l ih => exact ih _
@[simp] theorem State.sets_keys (s : State) (l : List (Fld × Nat)) : (s.sets l).keys = s.keys := by
  induction l generalizing s with
  | nil => rfl
  | cons e l ih => exact ih _
@[simp] theorem State.sets_ciph (s : State) (l : List (Fld × Nat)) : (s.sets l).ciph = s.ciph := by
  induction l generalizing s with
  | nil => rfl
  | cons e l ih => exact ih _
@[simp] theorem State.sets_rng (s : State) (l : List (Fld × Nat)) : (s.sets l).rng = s.rng := by
  induction l generalizing s with
  | nil => rfl
  | cons e l ih => exact ih _
@[simp] theorem State.sets_loft (s : State) (l : List (Fld × Nat)) : (s.sets l).loft = s.loft := by
  induction l generalizing s with
  | nil => rfl
  | cons e l ih => exact ih _
@[simp] theorem State.sets_doms (s : State) (l : List (Fld × Nat)) : (s.sets l).doms = s.doms := by
  induction l generalizing s with
  | nil => rfl
  | cons e l ih => exact ih _
@[simp] theorem State.sets_man (s : State) (l : List (Fld × Nat)) : (s.sets l).man = s.man := by
  induction l generalizing s with
  | nil => rfl
  | cons e l ih => exact ih _
@[simp] theorem State.sets_yard (s : State) (l : List (Fld × Nat)) : (s.sets l).yard = s.yard := by
  induction l generalizing s with
  | nil => rfl
  | cons e l ih => exact ih _
@[simp] theorem State.sets_feed (s : State) (l : List (Fld × Nat)) : (s.sets l).feed = s.feed := by
  induction l generalizing s with
  | nil => rfl
  | cons e l ih => exact ih _
@[simp] theorem State.sets_eng (s : State) (l : List (Fld × Nat)) : (s.sets l).eng = s.eng := by
  induction l generalizing s with
  | nil => rfl
  | cons e l ih => exact ih _
@[simp] theorem State.sets_tally (s : State) (l : List (Fld × Nat)) : (s.sets l).tally = s.tally := by
  induction l generalizing s with
  | nil => rfl
  | cons e l ih => exact ih _
@[simp] theorem State.sets_sess (s : State) (l : List (Fld × Nat)) : (s.sets l).sess = s.sess := by
  induction l generalizing s with
  | nil => rfl
  | cons e l ih => exact ih _
@[simp] theorem State.sets_poll (s : State) (l : List (Fld × Nat)) : (s.sets l).poll = s.poll := by
  induction l generalizing s with
  | nil => rfl
  | cons e l ih => exact ih _
@[simp] theorem State.sets_rst (s : State) (l : List (Fld × Nat)) : (s.sets l).rst = s.rst := by
  induction l generalizing s with
  | nil => rfl
  | cons e l ih => exact ih _
@[simp] theorem State.sets_host (s : State) (l : List (Fld × Nat)) : (s.sets l).host = s.host := by
  induction l generalizing s with
  | nil => rfl
  | cons e l ih => exact ih _
@[simp] theorem State.sets_lf (s : State) (l : List (Fld × Nat)) : (s.sets l).lf = s.lf := by
  induction l generalizing s with
  | nil => rfl
  | cons e l ih => exact ih _
@[simp] theorem State.sets_uhf (s : State) (l : List (Fld × Nat)) : (s.sets l).uhf = s.uhf := by
  induction l generalizing s with
  | nil => rfl
  | cons e l ih => exact ih _
@[simp] theorem State.sets_uwb (s : State) (l : List (Fld × Nat)) : (s.sets l).uwb = s.uwb := by
  induction l generalizing s with
  | nil => rfl
  | cons e l ih => exact ih _
@[simp] theorem State.sets_txn (s : State) (l : List (Fld × Nat)) : (s.sets l).txn = s.txn := by
  induction l generalizing s with
  | nil => rfl
  | cons e l ih => exact ih _
@[simp] theorem State.sets_solv (s : State) (l : List (Fld × Nat)) : (s.sets l).solv = s.solv := by
  induction l generalizing s with
  | nil => rfl
  | cons e l ih => exact ih _
@[simp] theorem State.sets_hlth (s : State) (l : List (Fld × Nat)) : (s.sets l).hlth = s.hlth := by
  induction l generalizing s with
  | nil => rfl
  | cons e l ih => exact ih _
@[simp] theorem State.sets_tap (s : State) (l : List (Fld × Nat)) : (s.sets l).tap = s.tap := by
  induction l generalizing s with
  | nil => rfl
  | cons e l ih => exact ih _
@[simp] theorem State.sets_verdPulse (s : State) (l : List (Fld × Nat)) : (s.sets l).verdPulse = s.verdPulse := by
  induction l generalizing s with
  | nil => rfl
  | cons e l ih => exact ih _
@[simp] theorem State.sets_pending (s : State) (l : List (Fld × Nat)) : (s.sets l).pending = s.pending := by
  induction l generalizing s with
  | nil => rfl
  | cons e l ih => exact ih _

theorem State.get_modEng (s : State) (e : Nat) (f : Engine → Engine) (g : Fld) : (s.modEng e f).get g = s.get g := rfl

@[simp] theorem State.engine_set (s : State) (f : Fld) (v n : Nat) : (s.set f v).engine n = s.engine n := rfl

/-- A fold of steps that each keep a quantity keeps it. -/
theorem foldl_keeps {α β γ : Type} (p : α → γ) (f : α → β → α) (h : ∀ a b, p (f a b) = p a) (l : List β) (a : α) :
    p (l.foldl f a) = p a := by
  induction l generalizing a with
  | nil => rfl
  | cons b l ih => exact (ih _).trans (h a b)

/-- A fold of steps that each keep a property keeps it. -/
theorem foldl_inv {α β : Type} (p : α → Prop) (f : α → β → α) (h : ∀ a b, p a → p (f a b)) (l : List β) (a : α) (ha : p a) :
    p (l.foldl f a) := by
  induction l generalizing a with
  | nil => exact ha
  | cons b l ih => exact ih _ (h a b ha)

end Sys2Proof.Machine
end

