-- ==== Sys2Proof/Laws/Groom.lean ====
section
/-!
SUPPORT. What the shared operations of the engines do: one engine changes, cycles pass, the pc moves, a result is written.
-/
namespace Sys2Proof.Machine

theorem State.engine_modEng_ne (s : State) (e n : Nat) (f : Engine → Engine) (h : n ≠ e) :
    (s.modEng e f).engine n = s.engine n := by
  simp [State.engine, State.modEng, Ne.symm h]

theorem State.engine_modEng_same (s : State) (e : Nat) (f : Engine → Engine) (h : e < s.eng.length) :
    (s.modEng e f).engine e = f (s.engine e) := by
  simp [State.engine, State.modEng, List.getElem?_eq_getElem h]

@[simp] theorem State.length_modEng (s : State) (e : Nat) (f : Engine → Engine) : (s.modEng e f).eng.length = s.eng.length := by
  simp [State.modEng]

/-- An engine that is not there fetches zeros. -/
theorem fetchWord_absent (s : State) (e : Nat) (h : s.eng.length ≤ e) : fetchWord s e = 0#32 := by
  have : s.engine e = {} := by simp [State.engine, List.getElem?_eq_none h]
  rw [fetchWord, this]; simp [Mem.word, Store.get]

/-- An engine that issues an instruction is there. -/
theorem issues_there (s : State) (e : Nat) (w : Word) (h : issues s e w = true) (hw : w ≠ 0#32) : e < s.eng.length := by
  rcases Nat.lt_or_ge e s.eng.length with h' | h'
  · exact h'
  · have := fetchWord_absent s e h'
    simp [issues, this] at h
    exact absurd h.2.symm hw

theorem issues_state (s : State) (e : Nat) (w : Word) (h : issues s e w = true) : engState s e = gRun := by
  simp [issues] at h; exact h.1.1.1.2

/-- Cycles pass: only CYCLE and line 4 of the engine change (R306, R316). -/
theorem addCycles_engine (s : State) (e n : Nat) (h : e < s.eng.length) :
    (addCycles s e n).engine e
      = { s.engine e with cyc8 := (s.engine e).cyc8 + n, evpend := ((addCycles s e n).engine e).evpend }
    ∧ (((addCycles s e n).engine e).evpend = (s.engine e).evpend
        ∨ ((addCycles s e n).engine e).evpend = setBit (s.engine e).evpend 4) := by
  generalize hb : tcmpHit s e n = b
  have : addCycles s e n = s.modEng e fun g => { g with cyc8 := g.cyc8 + n, evpend := if b then setBit g.evpend 4 else g.evpend } := by
    rw [← hb]; rfl
  rw [this, State.engine_modEng_same _ _ _ h]
  cases b <;> simp

theorem addCycles_rest (s : State) (e n : Nat) : { addCycles s e n with eng := s.eng } = s := rfl

theorem addCycles_other (s : State) (e n m : Nat) (h : m ≠ e) : (addCycles s e n).engine m = s.engine m :=
  State.engine_modEng_ne _ _ _ _ h

@[simp] theorem addCycles_length (s : State) (e n : Nat) : (addCycles s e n).eng.length = s.eng.length :=
  State.length_modEng _ _ _

/-- A fetch inside IMEM is no fault. -/
theorem fetchCheck_inside (s : State) (e : Nat) (h : (s.engine e).pc.toNat < 0x8000) : fetchCheck s e = s := by
  have h2 : pcInImem (s.engine e).pc = true := decide_eq_true h
  unfold fetchCheck
  exact if_neg fun h' => h'.2.2 h2

/-- An instruction that goes on inside IMEM: its engine's pc and cycles change, and line 4 may rise. -/
theorem finishAt_engine (s : State) (e : Nat) (pc : Word) (c : Nat) (h : e < s.eng.length) (hp : pc.toNat < 0x8000) :
    finishAt s e pc c = setPc (addCycles s e (8 * c)) e pc := by
  apply fetchCheck_inside
  rw [setPc, State.engine_modEng_same _ _ _ (by simpa using h)]
  exact hp

theorem getX_setX (g : Engine) (r q : BitVec 4) (v : Word) :
    (g.setX r v).getX q = if q = r ∧ q ≠ 0#4 then v else g.getX q := by
  unfold Engine.setX Engine.getX
  by_cases hq : q = 0#4
  · simp [hq]
  · by_cases hr : r = 0#4
    · subst hr; simp [hq]
    · have : (q.toNat = r.toNat) ↔ q = r := BitVec.toNat_inj
      simp [hq, hr, Store.get_put, this]

theorem setX_fields (g : Engine) (r : BitVec 4) (v : Word) : g.setX r v = { g with x := (g.setX r v).x } := by
  unfold Engine.setX; split <;> rfl

theorem getX_congr (g h : Engine) (hx : g.x = h.x) (q : BitVec 4) : g.getX q = h.getX q := by simp [Engine.getX, hx]

/-- What an engine is after an instruction that goes on inside IMEM. -/
def Engine.doneAt (g : Engine) (x : Store 32) (pc : Word) (c ev : Nat) : Engine :=
  { g with x := x, pc := pc, cyc8 := g.cyc8 + 8 * c, evpend := ev }

/-- Everything `finishAt` does to its engine. -/
theorem finishAt_spec (s : State) (e : Nat) (pc : Word) (c : Nat) (h : e < s.eng.length) (hp : pc.toNat < 0x8000) :
    ∃ ev, (ev = (s.engine e).evpend ∨ ev = setBit (s.engine e).evpend 4)
      ∧ (finishAt s e pc c).engine e = (s.engine e).doneAt (s.engine e).x pc c ev
      ∧ { finishAt s e pc c with eng := s.eng } = s
      ∧ ∀ n, n ≠ e → (finishAt s e pc c).engine n = s.engine n := by
  obtain ⟨h2, h3⟩ := addCycles_engine s e (8 * c) h
  refine ⟨_, h3, ?_, ?_, ?_⟩
  · rw [finishAt_engine _ _ _ _ h hp, setPc, State.engine_modEng_same _ _ _ (by simpa using h), h2]
    simp [Engine.doneAt]
  · rw [finishAt_engine _ _ _ _ h hp]; rfl
  · intro n hn
    rw [finishAt_engine _ _ _ _ h hp, setPc, State.engine_modEng_ne _ _ _ _ hn, addCycles_other _ _ _ _ hn]

/-- Everything `result` does to its engine. -/
theorem result_spec (s : State) (e : Nat) (rd : BitVec 4) (v : Word) (c : Nat) (h : e < s.eng.length)
    (hp : ((s.engine e).pc + 4#32).toNat < 0x8000) :
    ∃ ev, (ev = (s.engine e).evpend ∨ ev = setBit (s.engine e).evpend 4)
      ∧ (result s e rd v c).engine e = (s.engine e).doneAt ((s.engine e).setX rd v).x ((s.engine e).pc + 4#32) c ev
      ∧ { result s e rd v c with eng := s.eng } = s
      ∧ ∀ n, n ≠ e → (result s e rd v c).engine n = s.engine n := by
  have h1 : (setXOf s e rd v).engine e = (s.engine e).setX rd v := State.engine_modEng_same _ _ _ h
  have hl : e < (setXOf s e rd v).eng.length := by simpa [setXOf] using h
  have hpc : ((setXOf s e rd v).engine e).pc = (s.engine e).pc := by rw [h1, setX_fields]
  have hev : ((setXOf s e rd v).engine e).evpend = (s.engine e).evpend := by rw [h1, setX_fields]
  have hp' : (((setXOf s e rd v).engine e).pc + 4#32).toNat < 0x8000 := by rw [hpc]; exact hp
  obtain ⟨ev, h3, h4, h5, h6⟩ := finishAt_spec (setXOf s e rd v) e _ c hl hp'
  refine ⟨ev, by rw [← hev]; exact h3, ?_, ?_, ?_⟩
  · show (finishAt (setXOf s e rd v) e (((setXOf s e rd v).engine e).pc + 4#32) c).engine e = _
    rw [h4, h1, setX_fields (s.engine e)]
    simp [Engine.doneAt]
  · show { finishAt (setXOf s e rd v) e (((setXOf s e rd v).engine e).pc + 4#32) c with eng := s.eng } = s
    have := congrArg (fun t : State => { t with eng := s.eng }) h5
    exact this
  · intro n hn
    show (finishAt (setXOf s e rd v) e (((setXOf s e rd v).engine e).pc + 4#32) c).engine n = _
    rw [h6 n hn]
    exact State.engine_modEng_ne _ _ _ _ hn

end Sys2Proof.Machine
end

