-- ==== Sys2Proof/Laws/Ops.lean ====
section
/-!
SUPPORT. What the shared operations over events, faults and tally queues can do, said once each, and that they and the basic
updates keep the invariant.
-/
namespace Sys2Proof.Machine

/-- One event line: only EVPEND of that engine changes. -/
theorem raiseLine_spec (s : State) (e l : Nat) :
    ∃ g, raiseLine s e l = { s with eng := g } ∧ g.length = s.eng.length
      ∧ ∀ k, ∃ v, g.getD k {} = { s.eng.getD k {} with evpend := v } := by
  refine ⟨_, rfl, List.length_modify .., fun k => ?_⟩
  by_cases hk : k < s.eng.length
  · by_cases he : e = k
    · subst he; exact ⟨setBit (s.eng.getD e {}).evpend l, by simp [hk]⟩
    · exact ⟨(s.eng.getD k {}).evpend, by simp [hk, he]⟩
  · exact ⟨0, by simp [Nat.le_of_not_lt hk]⟩

/-- Folds of steps that change EVPEND bits only change EVPEND bits only. -/
theorem foldl_lines {β : Type} (f : State → β → State)
    (h : ∀ s b, ∃ g, f s b = { s with eng := g } ∧ g.length = s.eng.length
      ∧ ∀ k, ∃ v, g.getD k {} = { s.eng.getD k {} with evpend := v }) (l : List β) (s : State) :
    ∃ g, l.foldl f s = { s with eng := g } ∧ g.length = s.eng.length
      ∧ ∀ k, ∃ v, g.getD k {} = { s.eng.getD k {} with evpend := v } := by
  refine foldl_inv (fun t => ∃ g, t = { s with eng := g } ∧ g.length = s.eng.length
      ∧ ∀ k, ∃ v, g.getD k {} = { s.eng.getD k {} with evpend := v }) f ?_ l s ⟨s.eng, rfl, rfl, fun k => ⟨_, rfl⟩⟩
  rintro _ b ⟨g, rfl, hl, hg⟩
  obtain ⟨g', h', hl', hg'⟩ := h { s with eng := g } b
  refine ⟨g', h', hl'.trans hl, fun k => ?_⟩
  obtain ⟨v, hv⟩ := hg k
  obtain ⟨v', hv'⟩ := hg' k
  exact ⟨v', by rw [hv']; simp only [hv]⟩

/-- An event source: EVPEND bits, and nothing else (R316). -/
theorem raiseSource_spec (s : State) (code : Nat) :
    ∃ g, raiseSource s code = { s with eng := g } ∧ g.length = s.eng.length
      ∧ ∀ k, ∃ v, g.getD k {} = { s.eng.getD k {} with evpend := v } := by
  refine foldl_lines _ (fun t e => ?_) _ s
  dsimp only
  split
  · exact foldl_lines _ (fun u l => raiseLine_spec u e l) _ t
  · exact ⟨t.eng, rfl, rfl, fun k => ⟨_, rfl⟩⟩

/-- A tally match: EVPEND bits, and nothing else (R372). -/
theorem raiseTallyMatch_spec (s : State) (n : Nat) :
    ∃ g, raiseTallyMatch s n = { s with eng := g } ∧ g.length = s.eng.length
      ∧ ∀ k, ∃ v, g.getD k {} = { s.eng.getD k {} with evpend := v } := by
  refine foldl_lines _ (fun t e => ?_) _ s
  dsimp only
  split
  · exact foldl_lines _ (fun u l => raiseLine_spec u e l) _ t
  · exact ⟨t.eng, rfl, rfl, fun k => ⟨_, rfl⟩⟩

/-- A tally queue: one queue or a dropped event, and nothing else (R360). -/
theorem tallyPush_spec (s : State) (n : Nat) (cap : Bool) :
    ∃ r y, tallyPush s n cap = { s with regs := r, tally := y } ∧ y.length = s.tally.length
      ∧ (Store.wf s.regs = true → Store.wf r = true) := by
  simp only [tallyPush]
  generalize (if cap = true then (s.tally.getD n {}).capq else (s.tally.getD n {}).evq) = level
  split
  · exact ⟨s.regs, _, rfl, List.length_set .., id⟩
  · exact ⟨_, s.tally, rfl, rfl, fun h => Store.wf_put _ _ _ h⟩

/-- A tally event: queues and lost bits, and nothing else (R360, R367). -/
theorem tallyEvent_spec (s : State) (code : Nat) :
    ∃ r y, tallyEvent s code = { s with regs := r, tally := y } ∧ y.length = s.tally.length
      ∧ (Store.wf s.regs = true → Store.wf r = true) := by
  refine foldl_inv (fun t => ∃ r y, t = { s with regs := r, tally := y } ∧ y.length = s.tally.length
      ∧ (Store.wf s.regs = true → Store.wf r = true)) _ ?_ _ s ⟨s.regs, s.tally, rfl, rfl, id⟩
  have step : ∀ (t : State) (n : Nat) (cap : Bool),
      (∃ r y, t = { s with regs := r, tally := y } ∧ y.length = s.tally.length ∧ (Store.wf s.regs = true → Store.wf r = true)) →
      ∃ r y, tallyPush t n cap = { s with regs := r, tally := y } ∧ y.length = s.tally.length
        ∧ (Store.wf s.regs = true → Store.wf r = true) := by
    rintro _ n cap ⟨r, y, rfl, hl, hw⟩
    obtain ⟨r', y', h, hl', hw'⟩ := tallyPush_spec { s with regs := r, tally := y } n cap
    exact ⟨r', y', h, hl'.trans hl, fun w => hw' (hw w)⟩
  intro t n ht
  dsimp only
  have h1 : ∀ (c : Prop) [Decidable c] (u : State) (cap : Bool),
      (∃ r y, u = { s with regs := r, tally := y } ∧ y.length = s.tally.length ∧ (Store.wf s.regs = true → Store.wf r = true)) →
      ∃ r y, (if c then tallyPush u n cap else u) = { s with regs := r, tally := y } ∧ y.length = s.tally.length
        ∧ (Store.wf s.regs = true → Store.wf r = true) := by
    intro c _ u cap hu
    split
    · exact step u n cap hu
    · exact hu
  exact h1 _ _ _ (h1 _ _ _ ht)

/-! The invariant through the basic updates. -/

/-- Only the register store changes, and stays canonical. -/
theorem Inv_regs (s : State) (r : Store 32) (h : Inv s) (hr : Store.wf r = true) : Inv { s with regs := r } :=
  ⟨⟨hr, h.1.2⟩, h.2⟩

theorem Inv_setWord (s : State) (a : Nat) (v : Word) (h : Inv s) : Inv (s.setWord a v) :=
  Inv_regs _ _ h (Store.wf_put _ _ _ h.1.1)

theorem Inv_set (s : State) (f : Fld) (v : Nat) (h : Inv s) : Inv (s.set f v) := Inv_setWord _ _ _ h

theorem Inv_sets (s : State) (l : List (Fld × Nat)) (h : Inv s) : Inv (s.sets l) :=
  foldl_inv Inv _ (fun t e ht => Inv_set t e.1 e.2 ht) l s h

theorem Inv_zero (s : State) (a n : Nat) (h : Inv s) : Inv (s.zero a n) :=
  Inv_regs _ _ h (Store.wf_clear _ _ _ h.1.1)

theorem Inv_fresh (s : State) (h : Inv s) : Inv s.fresh.2 := h

theorem Inv_healthFault (s : State) (f : Fld) (h : Inv s) : Inv (healthFault s f) := Inv_set _ _ _ (Inv_set _ _ _ h)

theorem Inv_driftBit (s : State) (f : Fld) (i : Nat) (h : Inv s) : Inv (driftBit s f i) := by
  unfold driftBit
  split
  · exact h
  · exact Inv_set _ _ _ (Inv_set _ _ _ h)

/-- Engines of the same number, each with canonical memories, keep the invariant. -/
theorem Inv_eng (s : State) (g : List Engine) (h : Inv s) (hl : g.length = s.eng.length) (hg : g.all Engine.wf = true) :
    Inv { s with eng := g } :=
  ⟨⟨h.1.1, h.1.2.1, h.1.2.2.1, h.1.2.2.2.1, h.1.2.2.2.2.1, h.1.2.2.2.2.2.1, h.1.2.2.2.2.2.2.1, h.1.2.2.2.2.2.2.2.1,
    h.1.2.2.2.2.2.2.2.2.1, h.1.2.2.2.2.2.2.2.2.2.1, h.1.2.2.2.2.2.2.2.2.2.2.1, hg⟩, hl.trans h.2.1, h.2.2⟩

/-- Every engine of a state with the invariant has canonical memories, one that is not there too. -/
theorem Inv_engine (s : State) (e : Nat) (h : Inv s) : (s.eng.getD e {}).wf = true := by
  by_cases he : e < s.eng.length
  · have := List.all_eq_true.mp h.1.2.2.2.2.2.2.2.2.2.2.2 (s.eng[e]) (List.getElem_mem he)
    simpa [he] using this
  · rw [List.getD_eq_getElem?_getD, List.getElem?_eq_none (Nat.le_of_not_lt he)]; rfl

theorem Inv_modEng (s : State) (e : Nat) (f : Engine → Engine) (h : Inv s) (hf : (f (s.engine e)).wf = true) :
    Inv (s.modEng e f) := by
  refine Inv_eng s _ h (List.length_modify ..) (List.all_eq_true.mpr fun g hg => ?_)
  obtain ⟨k, hk, rfl⟩ := List.mem_iff_getElem.mp hg
  rw [List.getElem_modify]
  have hk' : k < s.eng.length := by simpa using hk
  split
  · rename_i he; subst he; simpa [State.engine, hk'] using hf
  · exact List.all_eq_true.mp h.1.2.2.2.2.2.2.2.2.2.2.2 _ (List.getElem_mem hk')

/-- EVPEND bits are no part of the invariant. -/
theorem Inv_lines (s t : State) (h : Inv s)
    (ht : ∃ g, t = { s with eng := g } ∧ g.length = s.eng.length
      ∧ ∀ k, ∃ v, g.getD k {} = { s.eng.getD k {} with evpend := v }) : Inv t := by
  obtain ⟨g, rfl, hl, hg⟩ := ht
  refine Inv_eng s g h hl (List.all_eq_true.mpr fun x hx => ?_)
  obtain ⟨k, hk, rfl⟩ := List.mem_iff_getElem.mp hx
  obtain ⟨v, hv⟩ := hg k
  have : g.getD k {} = g[k] := by simp [hk]
  rw [← this, hv]
  exact Inv_engine s k h

theorem Inv_raiseLine (s : State) (e l : Nat) (h : Inv s) : Inv (raiseLine s e l) := Inv_lines s _ h (raiseLine_spec s e l)

theorem Inv_raiseSource (s : State) (code : Nat) (h : Inv s) : Inv (raiseSource s code) :=
  Inv_lines s _ h (raiseSource_spec s code)

theorem Inv_raiseTallyMatch (s : State) (n : Nat) (h : Inv s) : Inv (raiseTallyMatch s n) :=
  Inv_lines s _ h (raiseTallyMatch_spec s n)

theorem Inv_sessEvent (s : State) (f : Fld) (h : Inv s) : Inv (sessEvent s f) := Inv_raiseSource _ _ (Inv_set _ _ _ h)

theorem Inv_tallyEvent (s : State) (code : Nat) (h : Inv s) : Inv (tallyEvent s code) := by
  obtain ⟨r, y, e, hl, hw⟩ := tallyEvent_spec s code
  rw [e]
  exact ⟨⟨hw h.1.1, h.1.2⟩, h.2.1, hl.trans h.2.2.1, h.2.2.2⟩

theorem Inv_setPlanState (s : State) (v : Nat) (h : Inv s) : Inv (setPlanState s v) := by
  unfold setPlanState
  split
  · exact h
  · exact Inv_set _ _ _ (Inv_set _ _ _ h)

theorem Inv_onDom (s t : State) (d : Nat) (h : Inv s) (ht : Inv t) : Inv (onDom s d t) := by
  unfold onDom
  split
  · exact ht
  · exact h

theorem Inv_onControl (s t : State) (h : Inv s) (ht : Inv t) : Inv (onControl s t) := by
  unfold onControl
  split
  · exact ht
  · exact h

end Sys2Proof.Machine
end

