-- ==== Sys2Proof/Laws/InvBase.lean ====
section
/-!
SUPPORT. The invariant through an update of one field of the state: a field that the invariant does not mention keeps it, and the
others keep it when their store stays canonical or their collection keeps its size.
-/
namespace Sys2Proof.Machine

@[simp] theorem Inv.regs {s : State} (h : Inv s) : Store.wf s.regs = true := h.1.1
@[simp] theorem Inv.fuses {s : State} (h : Inv s) : Store.wf s.fuses = true := h.1.2.1
@[simp] theorem Inv.feed {s : State} (h : Inv s) : Store.wf s.feed = true := h.1.2.2.1
@[simp] theorem Inv.front {s : State} (h : Inv s) : Store.wf s.loft.front = true := h.1.2.2.2.1
@[simp] theorem Inv.copyA {s : State} (h : Inv s) : Store.wf s.loft.copyA.mem = true := h.1.2.2.2.2.1
@[simp] theorem Inv.copyB {s : State} (h : Inv s) : Store.wf s.loft.copyB.mem = true := h.1.2.2.2.2.2.1
@[simp] theorem Inv.rings {s : State} (h : Inv s) : Store.wf s.loft.rings = true := h.1.2.2.2.2.2.2.1
@[simp] theorem Inv.model {s : State} (h : Inv s) : Store.wf s.solv.model = true := h.1.2.2.2.2.2.2.2.1
@[simp] theorem Inv.quar {s : State} (h : Inv s) : Store.wf s.uhf.quar = true := h.1.2.2.2.2.2.2.2.2.1
@[simp] theorem Inv.planRegs {s : State} (h : Inv s) : Store.wf s.yard.planRegs = true := h.1.2.2.2.2.2.2.2.2.2.1
@[simp] theorem Inv.waits {s : State} (h : Inv s) : s.loft.frontWait.all (fun w => Store.wf w.2.2) = true := h.1.2.2.2.2.2.2.2.2.2.2.1
@[simp] theorem Inv.engs {s : State} (h : Inv s) : s.eng.all Engine.wf = true := h.1.2.2.2.2.2.2.2.2.2.2.2
@[simp] theorem Inv.eng8 {s : State} (h : Inv s) : s.eng.length = 8 := h.2.1
@[simp] theorem Inv.tally16 {s : State} (h : Inv s) : s.tally.length = 16 := h.2.2.1
@[simp] theorem Inv.doms10 {s : State} (h : Inv s) : s.doms.length = 10 := h.2.2.2.1
@[simp] theorem Inv.roots5 {s : State} (h : Inv s) : s.keys.roots.length = 5 := h.2.2.2.2.1
@[simp] theorem Inv.slots48 {s : State} (h : Inv s) : s.keys.slots.length = 48 := h.2.2.2.2.2.1
@[simp] theorem Inv.cores4 {s : State} (h : Inv s) : s.ciph.cores.length = 4 := h.2.2.2.2.2.2.1
@[simp] theorem Inv.pools4 {s : State} (h : Inv s) : s.ciph.pools.length = 4 := h.2.2.2.2.2.2.2.1
@[simp] theorem Inv.pch4 {s : State} (h : Inv s) : s.ciph.pch.length = 4 := h.2.2.2.2.2.2.2.2.1
@[simp] theorem Inv.txn8 {s : State} (h : Inv s) : s.txn.slots.length = 8 := h.2.2.2.2.2.2.2.2.2.1
@[simp] theorem Inv.sts8 {s : State} (h : Inv s) : s.uwb.sts.length = 8 := h.2.2.2.2.2.2.2.2.2.2.1
@[simp] theorem Inv.hs8 {s : State} (h : Inv s) : s.poll.hsRun.length = 8 := h.2.2.2.2.2.2.2.2.2.2.2.1
@[simp] theorem Inv.ds8 {s : State} (h : Inv s) : s.poll.dsRun.length = 8 := h.2.2.2.2.2.2.2.2.2.2.2.2.1
@[simp] theorem Inv.tmp4 {s : State} (h : Inv s) : s.hlth.tmpRun.length = 4 := h.2.2.2.2.2.2.2.2.2.2.2.2.2.1
@[simp] theorem Inv.lfsr2 {s : State} (h : Inv s) : s.hlth.lfsr.length = 2 := h.2.2.2.2.2.2.2.2.2.2.2.2.2.2.1
@[simp] theorem Inv.win12 {s : State} (h : Inv s) : s.man.badWin.length = 12 := h.2.2.2.2.2.2.2.2.2.2.2.2.2.2.2.1
@[simp] theorem Inv.queue8 {s : State} (h : Inv s) : ∀ j ∈ s.solv.queue, j < 8 := h.2.2.2.2.2.2.2.2.2.2.2.2.2.2.2.2

/-- The invariant of a state written out. -/
theorem Inv_mk {regs fuses fuseSerial fuseKey aonTs msAcc ctr keys ciph rng loft doms man yard feed eng tally sess poll rst host lf uhf uwb
    txn solv hlth tap verdPulse pending} :
    Inv (State.mk regs fuses fuseSerial fuseKey aonTs msAcc ctr keys ciph rng loft doms man yard feed eng
      tally sess poll rst host lf uhf uwb txn solv hlth tap verdPulse pending)
      ↔ (Store.wf regs = true ∧ Store.wf fuses = true ∧ Store.wf feed = true ∧ Store.wf loft.front = true
        ∧ Store.wf loft.copyA.mem = true ∧ Store.wf loft.copyB.mem = true ∧ Store.wf loft.rings = true
        ∧ Store.wf solv.model = true ∧ Store.wf uhf.quar = true ∧ Store.wf yard.planRegs = true
        ∧ loft.frontWait.all (fun w => Store.wf w.2.2) = true ∧ eng.all Engine.wf = true)
      ∧ eng.length = 8 ∧ tally.length = 16 ∧ doms.length = 10 ∧ keys.roots.length = 5 ∧ keys.slots.length = 48
      ∧ ciph.cores.length = 4 ∧ ciph.pools.length = 4 ∧ ciph.pch.length = 4 ∧ txn.slots.length = 8
      ∧ uwb.sts.length = 8 ∧ poll.hsRun.length = 8 ∧ poll.dsRun.length = 8 ∧ hlth.tmpRun.length = 4
      ∧ hlth.lfsr.length = 2 ∧ man.badWin.length = 12 ∧ ∀ j ∈ solv.queue, j < 8 := Iff.rfl

/-- An update of one engine that keeps its memories canonical. -/
theorem Inv_engine_upd {s : State} {e : Nat} {f : Engine → Engine} (h : Inv s)
    (hf : ∀ g : Engine, g.wf = true → (f g).wf = true) : Inv (s.modEng e f) := Inv_modEng s e f h (hf _ (Inv_engine s e h))

/-- A choice between two states. -/
theorem Inv_ite {c : Prop} [Decidable c] {s t : State} (hs : c → Inv s) (ht : ¬c → Inv t) : Inv (if c then s else t) := by
  split
  · exact hs ‹_›
  · exact ht ‹_›

/-- A named intermediate state. -/
theorem Inv_cut {P : Prop} (t : State) (h : Inv t) (hp : Inv t → P) : P := hp h

theorem Inv_rst {s : State} (x : RstState) (h : Inv s) : Inv { s with rst := x } := h
theorem Inv_put {s : State} (f : Fld) (b : Bool) (h : Inv s) : Inv (s.put f b) := Inv_set _ _ _ h
theorem Inv_bump {s : State} (f : Fld) (h : Inv s) : Inv (s.bump f) := Inv_set _ _ _ h
theorem Inv_wrapInc {s : State} (f : Fld) (h : Inv s) : Inv (s.wrapInc f) := Inv_set _ _ _ h
theorem Inv_putBit {s : State} (f : Fld) (i : Nat) (b : Bool) (h : Inv s) : Inv (s.putBit f i b) := Inv_set _ _ _ h
theorem Inv_fresh_eq {s t : State} {k : Nat} (e : s.fresh = (k, t)) (h : Inv s) : Inv t := by
  injection e with _ e; subst e; exact h

@[simp] theorem Store.wf_nil (w : Nat) : Store.wf ([] : Store w) = true := rfl

/-- A fold that keeps the length keeps it. -/
theorem length_foldl {α β : Type} (f : List α → β → List α) (h : ∀ l b, (f l b).length = l.length) (l : List β) (m : List α) :
    (l.foldl f m).length = m.length := foldl_keeps List.length f h l m

@[simp] theorem wf_resetRange (m : Store 32) (lo n : Nat) (p : FRow → Bool) (h : Store.wf m = true) :
    Store.wf (resetRange m lo n p) = true := by
  unfold resetRange
  refine foldl_inv (fun m => Store.wf m = true) _ (fun m i hm => ?_) _ _ (Store.wf_mapCells _ _ h)
  exact foldl_inv (fun m => Store.wf m = true) _ (fun m r hm => foldl_inv (fun m => Store.wf m = true) _ (fun m x hm => by
    first | exact Store.wf_put _ _ _ hm | (split <;> first | exact Store.wf_put _ _ _ hm | exact hm)) _ _ hm) _ _ hm

end Sys2Proof.Machine
end

