-- ==== Sys2Proof/WellFormed.lean ====
section
/-!
DEFINITION. Well-formed commands: operands of the sizes their rules give them. Meanings are total and do not rest on it.
-/
namespace Sys2Proof

/-- A request carries the words its command byte names, and only a WRITE carries any (R375). -/
def reqWf (op : Nat) (r : HostReq) : Bool :=
  if op = 2 then decide (r.data.length = r.cnt.toNat + 1) else r.data.isEmpty

/-- One measurement per aerial (R89). -/
def measWf (l : List AerMeas) : Bool := decide (l.length = 12)

/-- One reception per port W0 to W3, with 512 STS taps and 1 016 preamble taps (R134) and a PSDU of at most 4 octets (R121). -/
def portsWf (l : List PortRx) : Bool :=
  decide (l.length = 4) && l.all fun x =>
    decide (x.hSts.length = 512) && decide (x.hPre.length = 1016) && decide (x.psdu.length ≤ 4)

/-- Sixteen POLL captures, each with one capture per port (R141). -/
def capsWf (l : List (Stmp × List Stmp)) : Bool := decide (l.length = 16) && l.all fun e => decide (e.2.length = 4)

/-- A 32-entry table for each of the eight capture channels (R124, R125). -/
def tablesWf (l : List (List (BitVec 5))) : Bool := decide (l.length = 8) && l.all fun t => decide (t.length = 32)

/-- Double-bit errors name words of the Loft (R293). -/
def recallWf (e : RecallEcc) : Bool :=
  match e with
  | .double l => !l.isEmpty && l.all fun a => decide (a < 0x8_0000) && decide (a % 4 = 0)
  | _ => true

/-- Well-formedness of a command. -/
def Instr.wf (i : Instr) : Bool :=
  match i with
  | .registerWrite _ addr _ => decide (addr.toNat % 4 = 0)
  | .hostStatus r => reqWf 0 r
  | .hostRead r => reqWf 1 r
  | .hostWrite r => reqWf 2 r
  | .hostOpReserved r => reqWf 3 r
  | .bindRequest _ _ => true
  | .hostBindUnbind _ _ _ => true
  | .hostTagCheckDone _ => true
  | .nonceDraw => true
  | .spiFrameStart _ => true
  | .spiFrameEnd _ => true
  | .canRequestFrame bits ident payload => decide (payload.length ≤ 64) && (bits.ext || decide (ident.toNat < 2048))
  | .canNotify => true
  | .canTxDrop => true
  | .canBusOffRecovery => true
  | .irqReassert => true
  | .hostReset _ _ => true
  | .hostResetAct => true
  | .txnStart _ _ => true
  | .wakeStart _ => true
  | .wakeEnd _ meas => measWf meas
  | .patternLatch _ _ => true
  | .patternGap meas => measWf meas
  | .ackPhaseEnd => true
  | .challengePreface _ => true
  | .tCb _ => true
  | .tEnd _ _ meas => measWf meas
  | .lfChalWrite _ _ => true
  | .synEnWrite _ => true
  | .bankEnWrite _ _ => true
  | .lfAbort _ => true
  | .calStart => true
  | .calStepEnd _ _ _ => true
  | .hpStart _ => true
  | .hpCarrierStart _ => true
  | .hpReqStart => true
  | .tHp _ meas => measWf meas.aerials
  | .hpReplyStart _ => true
  | .hpReplyEnd halves => decide (halves.length = 128)
  | .hpTimeout => true
  | .lfFaultClear _ => true
  | .overCurrent _ => true
  | .bankWarm _ _ => true
  | .bankHot _ _ => true
  | .bankCool _ _ => true
  | .vdrvLow _ => true
  | .vdrvHigh _ => true
  | .trimPeriod _ => true
  | .lfTrimRead => true
  | .huntWindowOpen _ => true
  | .huntWindowClose _ _ => true
  | .syncDetect _ => true
  | .frameTruncated _ _ _ bytes _ _ => decide (bytes.length ≤ 128)
  | .uhfFrameEnd _ _ _ bytes _ _ _ => decide (bytes.length ≤ 128)
  | .uhfQchkWrite _ _ _ => true
  | .uEnWrite _ _ => true
  | .uhfStatClr => true
  | .pollLatchCopy => true
  | .presenceCheckDone _ => true
  | .rfEnWrite _ => true
  | .uwbAbort _ => true
  | .uwbCalStart => true
  | .uwbCalDone caps => capsWf caps
  | .tscalStart => true
  | .tscalDone _ found => tablesWf found.tables
  | .stmpLoRead => true
  | .pollTx _ _ => true
  | .rr1ListenEnd ports _ => portsWf ports
  | .finalTx _ => true
  | .rr2ListenEnd w0 w1 w23 => portsWf [w0, w1, w23.1, w23.2]
  | .uwbWindowClose _ => true
  | .precomputeDone _ => true
  | .fixStart => true
  | .fixIteration _ => true
  | .fixDone _ => true
  | .fixDeadline _ => true
  | .solvEnWrite _ => true
  | .solvAbort _ => true
  | .solvMdataAccess _ _ => true
  | .verdictPublish _ => true
  | .startSessionOpen _ => true
  | .txnGapEnd => true
  | .verdEnWrite _ => true
  | .verdAbort _ => true
  | .verdictPulseEnd => true
  | .sessStartCmd _ _ => true
  | .endEntry => true
  | .endStart => true
  | .sessEnWrite _ => true
  | .sessionTimeout _ => true
  | .slkBHalfPeriod => true
  | .slkReadbackSample _ _ => true
  | .slkFaultClear => true
  | .burstDue => true
  | .dwellExpiry => true
  | .burstWakePStart _ => true
  | .burstListenStart _ meas => measWf meas
  | .burstListenEnd => true
  | .pollEnWrite _ => true
  | .sleep _ => true
  | .standbyEnter => true
  | .hostWakeWrite => true
  | .pollCntClr => true
  | .hsScan counts => decide (counts.length = 8)
  | .dsSample _ => true
  | .hostWakePin => true
  | .wakeEvent _ => true
  | .coreDispatch => true
  | .blockDone _ _ => true
  | .enc _ _ => true
  | .dec _ _ => true
  | .kstream _ _ => true
  | .echOpReserved _ => true
  | .echAbort _ _ => true
  | .deriveStart _ => true
  | .handleFree _ _ => true
  | .handleRetire _ => true
  | .keyRenew _ => true
  | .rootFillStep _ => true
  | .goField _ => true
  | .goShop _ => true
  | .retire _ _ => true
  | .lcCmdRefused cmd _ => decide (cmd = 0#4) || decide (4 ≤ cmd.toNat)
  | .lcStateProgram => true
  | .keysImpWrite _ _ _ => true
  | .keysWrapStart _ _ _ => true
  | .keysWoutRead => true
  | .keysClear _ => true
  | .healthTestFail raw => decide (raw.length ≤ 1152)
  | .startupTestPass _ => true
  | .seedComplete _ => true
  | .rngRequest _ _ => true
  | .queueRefill _ => true
  | .portConsume _ => true
  | .rngStretchRead => true
  | .rngEnWrite _ => true
  | .forcedReseed => true
  | .qflush => true
  | .loftWindowWrite _ off _ => decide (off.toNat % 4 = 0)
  | .commit _ => true
  | .gatherTimeout => true
  | .commitStart => true
  | .commitEnd => true
  | .gabort _ _ => true
  | .loftStore _ => true
  | .storeStart => true
  | .storeDone => true
  | .droopMeasureEnd _ => true
  | .ringChange _ _ _ => true
  | .ringSlotWriteDone _ => true
  | .sealTagDone _ => true
  | .recallStart => true
  | .recallDone ecc => recallWf ecc
  | .pfTrip _ => true
  | .vholdBelowCutoff words => decide (words.toNat ≤ 1024)
  | .vholdStoreStop => true
  | .add _ _ _ _ => true
  | .sub _ _ _ _ => true
  | .and _ _ _ _ => true
  | .or _ _ _ _ => true
  | .xor _ _ _ _ => true
  | .shl _ _ _ _ => true
  | .shr _ _ _ _ => true
  | .sra _ _ _ _ => true
  | .slt _ _ _ _ => true
  | .sltu _ _ _ _ => true
  | .mul _ _ _ _ => true
  | .mulh _ _ _ _ => true
  | .min _ _ _ _ => true
  | .max _ _ _ _ => true
  | .clz _ _ _ _ => true
  | .qmul _ _ _ _ => true
  | .qdiv _ _ _ _ => true
  | .qsqrt _ _ _ _ => true
  | .addi _ _ _ _ => true
  | .andi _ _ _ _ => true
  | .ori _ _ _ _ => true
  | .xori _ _ _ _ => true
  | .shli _ _ _ _ => true
  | .shri _ _ _ _ => true
  | .srai _ _ _ _ => true
  | .slti _ _ _ _ => true
  | .lui _ _ _ => true
  | .ldw _ _ _ _ _ => true
  | .ldh _ _ _ _ _ => true
  | .ldhu _ _ _ _ _ => true
  | .ldb _ _ _ _ _ => true
  | .ldbu _ _ _ _ _ => true
  | .stw _ _ _ _ => true
  | .sth _ _ _ _ => true
  | .stb _ _ _ _ => true
  | .swapw _ _ _ _ _ => true
  | .addw _ _ _ _ _ => true
  | .beq _ _ _ _ => true
  | .bne _ _ _ _ => true
  | .blt _ _ _ _ => true
  | .bge _ _ _ _ => true
  | .bltu _ _ _ _ => true
  | .bgeu _ _ _ _ => true
  | .jmp _ _ => true
  | .call _ _ => true
  | .jr _ _ _ _ => true
  | .wait _ _ _ _ => true
  | .iret _ => true
  | .csrr _ _ _ _ => true
  | .csrw _ _ _ _ => true
  | .illegalOpcode _ => true
  | .eventEdge _ _ => true
  | .interruptTaken _ => true
  | .waitWake _ => true
  | .timerCompare _ => true
  | .watchdogExpiry _ => true
  | .restartClear _ => true
  | .groomDoorbell _ _ => true
  | .halt _ _ => true
  | .resume _ _ => true
  | .step _ _ => true
  | .reload _ _ => true
  | .move _ _ _ => true
  | .groomMdataAccess _ _ _ => true
  | .stallRestart _ => true
  | .stallInstallDone _ _ => true
  | .begin _ => true
  | .pdataWrite _ _ => true
  | .apply _ => true
  | .cancel _ => true
  | .useLoft _ => true
  | .planLoadStart => true
  | .planVerifyDone _ => true
  | .planApply => true
  | .overlayApply => true
  | .tallyMatch _ => true
  | .tallyCapture _ => true
  | .tallySwcap _ => true
  | .tallyFreezeWrite _ => true
  | .tallyFreezeApply _ => true
  | .tallyCntWrite _ _ => true
  | .tallyCntRead _ => true
  | .tallyCapRead _ _ => true
  | .tallyCmpWrite _ _ => true
  | .tallyCmpApply _ => true
  | .grantDeadline _ => true
  | .derateTick _ _ => true
  | .vdd33Sense _ _ => true
  | .domainSwitchOn d => decide (d.val ≠ 0)
  | .powerGood _ => true
  | .clockGood _ => true
  | .domainSwitchOff d => decide (d.val ≠ 0)
  | .domainOffProceed d => decide (d.val ≠ 0)
  | .autoHoldExpiry d => decide (d.val ≠ 0)
  | .clockCheckWindow _ _ => true
  | .por => true
  | .bor33 _ => true
  | .bor18 => true
  | .nrstAssert => true
  | .nrstRelease => true
  | .sysWdogExpiry => true
  | .rstWdkick _ => true
  | .rstCtrlWrite _ _ => true
  | .rstBlockWrite _ _ => true
  | .blockResetRelease _ => true
  | .strapDone _ => true
  | .trimLoadDone _ => true
  | .domainReleaseGap => true
  | .clockGoodTimeout => true
  | .aonClockTimeout => true
  | .tamperHaltResume => true
  | .farrierDue => true
  | .farrStart _ => true
  | .farrierPassStart => true
  | .farrierStepDone slow => decide (slow.length = 12)
  | .farrierTimeout => true
  | .scrub err => match err with | none => true | some e => decide (1 ≤ e.1.val)
  | .tmpSample _ => true
  | .meshStep => true
  | .meshSample _ => true
  | .voltageGlitch _ => true
  | .clockGlitch => true
  | .tempSample _ => true
  | .glitchLiveEnd _ => true
  | .tmpLatchClear _ _ => true
  | .hlthTsRead => true
  | .tapExtest _ => true
  | .tapSamplePreload _ => true
  | .tapIdcode => true
  | .tapHighz => true
  | .tapClamp => true
  | .tapBypass => true
  | .tapReserved op => decide (5 ≤ op.toNat) && decide (op.toNat ≤ 14)
  | .tapReset => true
  | .brownOutRelease _ => true
  | .canBusError _ _ => true
  | .tallyEdge _ => true
  | .vdrvOk _ => true

end Sys2Proof
end

