-- ==== Sys2Proof/Tests/Slice0.lean ====
section
/-!
SUPPORT. The model's own tests: an ill-formed command for every check of WellFormed, the spec's worked examples, and for the statements
with hypotheses a concrete state and operands that meet them, clause by clause.
-/
open Sys2Proof Sys2Proof.Machine

namespace Sys2Proof.Tests

set_option Elab.async false

/-- Every domain on, every clock good, and the given fields. -/
def st (l : List (Fld × Nat)) : State :=
  ({ doms := List.replicate 10 { phase := .on } } : State).sets ([(F.PWR_DOM_STAT.run, 0x3FF), (F.CLK_STAT.good, 0xFFF)] ++ l)

/-- Five root slots filled. -/
def roots : KeysState :=
  { roots := (List.range 5).map fun i => { key := 100 + i, programmed := true, marker := true } }

/-- Engine 0 runs with the given word at its pc 0. -/
def groom (w : Word) (l : List (Fld × Nat) := []) : State :=
  let s := st ([(F.GROOM_STAT.state 0, 2)] ++ l)
  { s with eng := s.eng.set 0 { imem := Mem.putWord [] 0 w } }

/-- What holds after a command that answers a next state. -/
def after (o : Host.Outcome State Fault Refusal) (p : State → Bool) : Bool :=
  match o with
  | .next t => p t
  | _ => false

/-! Groom engines. -/

theorem wit_GroomArithmetic :
    ([encR 0x01 1#4 2#4 3#4, encR 0x0E 0#4 2#4 2#4, encR 0x0F 1#4 2#4 0#4, encI 0x18 1#4 2#4 0x3FFFF#18, encI 0x1C 1#4 2#4 31#18,
      encU 0x20 1#4 0x3FFFFF#22].all fun w => decide (Claims.Issues (groom w) 0 w (Claims.nextPc (groom w) 0))) = true := by
  decide +kernel

/-- QMUL of the worked example of R315, a divisor 0 and a root of a negative number. -/
def fixed (w a b : Word) : State := let s := groom w; setXOf (setXOf s 0 4#4 a) 0 5#4 b

theorem wit_GroomFixedPoint :
    decide (Claims.Issues (fixed (encR 0x10 3#4 4#4 5#4) 0x18000#32 0xFFFDC000#32) 0 (encR 0x10 3#4 4#4 5#4) 4#32)
    && decide (Claims.Issues (fixed (encR 0x11 3#4 4#4 5#4) 1#32 0#32) 0 (encR 0x11 3#4 4#4 5#4) 4#32)
    && decide (Claims.Issues (fixed (encR 0x12 3#4 4#4 0#4) 0x80000000#32 0#32) 0 (encR 0x12 3#4 4#4 0#4) 4#32) = true := by
  decide +kernel

/-- A groom whose stall has one writable feed window at 0. -/
def feeder (w : Word) : State :=
  let s := groom w [(F.GROOM_STAT.stall 0, 2)]
  { s with yard := { s.yard with routes := s.yard.routes.set 2 { feed := [{ base := 0, size := 1, access := 2 }] } } }

theorem wit_GroomMemory :
    (let p := setXOf (groom (encI 0x25 1#4 2#4 2#18)) 0 2#4 0x10001FFC#32
     placeOf p 0 (effAddr p 0 2#4 2#18).toNat 2 false false = .dmem 0x1FFE
      ∧ Claims.Issues p 0 (encI 0x25 1#4 2#4 2#18) 4#32)
    ∧ (let p := setXOf (groom (encI 0x29 1#4 2#4 0#18)) 0 2#4 0x10001FFC#32
       placeOf p 0 (effAddr p 0 2#4 0#18).toNat 4 true false = .dmem 0x1FFC ∧ Claims.Issues p 0 (encI 0x29 1#4 2#4 0#18) 4#32)
    ∧ (let p := setXOf (groom (encI 0x2C 1#4 2#4 0#18)) 0 2#4 0x10000000#32
       placeOf p 0 (effAddr p 0 2#4 0#18).toNat 4 true true = .dmem 0 ∧ Claims.Issues p 0 (encI 0x2C 1#4 2#4 0#18) 4#32) := by
  decide +kernel

/-- Feed windows: a store into the last word of the window, an atomic on its first. -/
theorem wit_GroomFeed :
    (let p := setXOf (feeder (encI 0x29 1#4 2#4 0#18)) 0 2#4 0x20000FFC#32
     placeOf p 0 (effAddr p 0 2#4 0#18).toNat 4 true false = .feed 0xFFC ∧ Claims.Issues p 0 (encI 0x29 1#4 2#4 0#18) 4#32)
    ∧ (let p := setXOf (feeder (encI 0x2D 1#4 2#4 0#18)) 0 2#4 0x20000000#32
       placeOf p 0 (effAddr p 0 2#4 0#18).toNat 4 true true = .feed 0 ∧ Claims.Issues p 0 (encI 0x2D 1#4 2#4 0#18) 4#32) := by
  decide +kernel

theorem wit_GroomControlFlow :
    Claims.Issues (groom (encB 0x30 1#4 1#4 0x1FFF#18)) 0 (encB 0x30 1#4 1#4 0x1FFF#18) 0x7FFC#32
    ∧ Claims.Issues (groom (encB 0x31 1#4 1#4 5#18)) 0 (encB 0x31 1#4 1#4 5#18) 4#32
    ∧ Claims.Issues (groom (encJ 0x36 0x1FFF#26)) 0 (encJ 0x36 0x1FFF#26) 0x7FFC#32
    ∧ Claims.Issues (groom (encJ 0x37 2#26)) 0 (encJ 0x37 2#26) 8#32
    ∧ Claims.Issues (groom (encR 0x38 1#4 2#4 0#4)) 0 (encR 0x38 1#4 2#4 0#4) 0#32
    ∧ Claims.Issues (groom (encR 0x3A 0#4 0#4 0#4)) 0 (encR 0x3A 0#4 0#4 0#4) 0#32 := by decide +kernel

theorem wit_GroomCsrs :
    Claims.Issues (groom (encI 0x3B 1#4 0#4 8#18)) 0 (encI 0x3B 1#4 0#4 8#18) 4#32
    ∧ (let p := setXOf (groom (encI 0x3C 0#4 2#4 7#18)) 0 2#4 0x5A#32
       Claims.Issues p 0 (encI 0x3C 0#4 2#4 7#18) 4#32 ∧ xOf p 0 2#4 = 0x5A#32) := by decide +kernel

/-- Engine 0 with events pending, waiting or running. -/
def evented (state : Nat) (g : Engine) : State :=
  let s := st [(F.GROOM_STAT.state 0, state)]
  { s with eng := s.eng.set 0 g }

theorem wit_GroomWait :
    (let p := setXOf ({ groom (encR 0x39 1#4 2#4 0#4) with } : State) 0 2#4 0xFFFF8000#32
     let q := p.modEng 0 fun g => { g with evpend := 0x8000 }
     Claims.Issues q 0 (encR 0x39 1#4 2#4 0#4) 4#32 ∧ bit ((q.engine 0).evpend &&& (xOf q 0 2#4).toNat % 65536) 15 = true
       ∧ Claims.Issues p 0 (encR 0x39 1#4 2#4 0#4) 4#32 ∧ (p.engine 0).evpend &&& (xOf p 0 2#4).toNat % 65536 = 0)
    ∧ (let p := evented 3 { evpend := 0x8001, waitMask := 0x8000, waitRd := 3 }
       p.get (F.GROOM_STAT.state 0) = 3 ∧ (Claims.nextPc p 0).toNat < 0x8000
         ∧ bit ((p.engine 0).evpend &&& (p.engine 0).waitMask) 15 = true) := by decide +kernel

theorem wit_GroomInterrupt :
    (let p := evented 2 { evpend := 1, evmask := 1, ie := true, ivec := 0x7FFC }
     p.get (F.GROOM_STAT.state 0) = 2 ∧ (p.engine 0).ie = true ∧ (p.engine 0).ivec.toNat < 0x8000
       ∧ bit ((p.engine 0).evpend &&& (p.engine 0).evmask) 0 = true)
    ∧ (let p := evented 3 { evpend := 0x8000, evmask := 0x8000, ie := true }
       p.get (F.GROOM_STAT.state 0) = 3 ∧ (p.engine 0).ie = true ∧ bit ((p.engine 0).evpend &&& (p.engine 0).evmask) 15 = true)
    ∧ ((evented 2 { evpend := 1, evmask := 2 }).engine 0).ie = false := by decide +kernel

theorem wit_GroomEvents :
    domOn (st []) 2 = true ∧ 7 < (st []).eng.length ∧ (st []).get (F.GROOM_STAT.stall 0) ≠ 15
    ∧ (st []).get (F.GROOM_STAT.state 0) ≠ 1 := by decide +kernel

theorem wit_GroomFaults :
    (let w := 0xFFFFFFFF#32
     issues (groom w) 0 (fetchWord (groom w) 0) = true ∧ notInstr (fetchWord (groom w) 0) = true
       ∧ (groom w).yard.stalls = [] ∧ domOn (groom w) 2 = true ∧ (groom w).get (F.GROOM_STAT.state 0) = 2)
    ∧ (∃ imm : BitVec 18, 32 ≤ imm.toNat ∧ issues (groom (encI 0x1C 1#4 2#4 imm)) 0 (encI 0x1C 1#4 2#4 imm) = true)
    ∧ issues (groom (encR 0x0F 1#4 2#4 1#4)) 0 (encR 0x0F 1#4 2#4 1#4) = true
    ∧ (issues (groom (encI 0x3C 0#4 2#4 7#18)) 0 (encI 0x3C 0#4 2#4 7#18) = true
       ∧ xOf (groom (encI 0x3C 0#4 2#4 7#18)) 0 2#4 ≠ 0x5A#32) :=
  ⟨by decide +kernel, ⟨32#18, by decide +kernel⟩, by decide +kernel, by decide +kernel⟩

/-- Each fault code of an access: misaligned, a store into IMEM, and no place at all. -/
theorem wit_GroomAccessFaults :
    placeOf (groom 0#32) 0 0x10000002 4 false false = .bad 2
    ∧ placeOf (groom 0#32) 0 0x7FFC 4 true false = .bad 4
    ∧ (let p := setXOf (groom (encI 0x24 1#4 2#4 0#18)) 0 2#4 0x10002000#32
       placeOf p 0 (effAddr p 0 2#4 0#18).toNat 4 false false = .bad 3 ∧ issues p 0 (encI 0x24 1#4 2#4 0#18) = true) := by
  decide +kernel

/-- The debug strap in MAKER, engine 0 in the given state with the given word at its pc. -/
def debug (state : Nat) (g : Engine) (l : List (Fld × Nat) := []) : State :=
  let s := st ([(F.RST_STRAP.dbg, 1), (F.KEYS_LC.state, 1), (F.GROOM_STAT.state 0, state)] ++ l)
  { s with eng := s.eng.set 0 g }

theorem wit_GroomDebug :
    (let p := debug 4 {}
     domOn p 2 = true ∧ p.flag F.RST_STRAP.dbg = true ∧ p.get F.KEYS_LC.state = 1 ∧ p.get (F.GROOM_STAT.state 0) = 4
       ∧ (p.engine 0).pc.toNat < 0x8000 ∧ irqMask (p.engine 0) = 0)
    ∧ (let p := debug 4 { ie := true, evpend := 1, evmask := 1 }
       p.get (F.GROOM_STAT.state 0) = 4 ∧ (p.engine 0).ivec.toNat < 0x8000 ∧ irqMask (p.engine 0) ≠ 0)
    ∧ (debug 2 {}).get (F.GROOM_STAT.state 0) = 2 ∧ (debug 3 {}).get (F.GROOM_STAT.state 0) = 3
    ∧ domOn (st []) 2 = true ∧ (st []).flag F.RST_STRAP.dbg = false := by decide +kernel

theorem wit_GroomHostRequests :
    (let p := debug 4 {} [(F.GROOM_MADDR.space 0, 1), (F.GROOM_MADDR.addr 0, 0x1FFC)]
     domOn p 2 = true ∧ p.get (F.GROOM_STAT.stall 0) ≠ 15 ∧ p.get (F.GROOM_STAT.state 7) = 0 ∧ p.flag F.RST_STRAP.dbg = true
       ∧ p.get F.KEYS_LC.state = 1 ∧ p.get (F.GROOM_STAT.state 0) = 4 ∧ p.get (F.GROOM_MADDR.space 0) = 1) := by decide +kernel

/-! Register access and tally counters. -/

theorem wit_RegisterAccess :
    domOn (st []) 2 = true ∧ domOn ({} : State) (addrDomain 0x09_0004) = false ∧ addrMapped 0x15_0000 = false
    ∧ addrMapped 0x30_0000 = false ∧ (st [(F.YARD_PSTAT.locked, 1)]).get F.YARD_PSTAT.locked = 1
    ∧ yardAllowed (st []) 0 0x09_0004 true = false ∧ yardAllowed (st []) 0 0x0C_0100 true = true := by decide +kernel

/-- Counters 0 and 1 form a chain on AON, counter 0 about to carry, its compare value the count it reaches. -/
def chain : State :=
  let s := st [(F.TALLY_CFG.mode 0, 1), (F.TALLY_CFG.mode 1, 3), (F.TALLY_EN.en, 3), (F.TALLY_CNT.count 0, 0xFFFF)]
  { s with tally := s.tally.set 1 { cmp := 1 } }

theorem wit_TallyCounting :
    tallyCounts chain 0 = true ∧ tallyNext chain 0 = tallyCompare chain 0 ∧ tallyNext chain 0 = 0x10000
    ∧ tallyCounts (st []) 0 = false ∧ tallyClkRuns chain (tallyBase chain 1) = true
    ∧ (st [(F.TALLY_STAT.frozen, 0x8000)]).bitAt F.TALLY_STAT.frozen 15 = true
    ∧ inChain chain 1 = true ∧ tallyStopped chain 1 = false ∧ tallyStopped (st []) 15 = true := by decide +kernel

/-- Counter 15 with triggers queued and an unread capture. -/
def captures (n : Nat) : State :=
  let s := st [(F.TALLY_CFG.mode 15, 1), (F.TALLY_CMP.cmp_pend 15, 1)]
  { s with tally := s.tally.set 15 { capq := n, unread := true } }

theorem wit_TallyCapturesAndCompares :
    (captures 4).tally.length = 16 ∧ tallyHigher (captures 4) 15 = false ∧ ((captures 3).tally.getD 15 {}).capq < 4
    ∧ 4 ≤ ((captures 4).tally.getD 15 {}).capq ∧ captureDue (captures 4) 15 = true
    ∧ (captures 4).get (F.TALLY_CMP.cmp_pend 15) = 1 ∧ tallyClkRuns (captures 4) 15 = true := by decide +kernel

/-! Noise source, cipher cores, keys. -/

/-- The expander runs, instantiated and seeded, with the given fields and queue. -/
def rng (r : RngState) (l : List (Fld × Nat)) : State :=
  { st ([(F.RNG_CTRL.en, 1), (F.RNG_STAT.seeded, 1)] ++ l) with rng := r }

/-- 1 152 raw bits that alternate, and 1 024 of them. -/
def altRaw : Nat := (2 ^ 1152 - 1) / 3

/-- The source at work with the cutoffs of the spec. -/
def noise (r : RngState) (l : List (Fld × Nat) := []) : State :=
  rng { r with osc := true } ([(F.RNG_HT.rct_cut, 41), (F.RNG_HT.apt_cut, 800)] ++ l)

/-- Whether raw bits pass both health tests. -/
def passes (s : State) (l : List Bool) : Bool := (rngTest s l).2.1 == false && (rngTest s l).2.2 == false

theorem wit_NoiseSource_tests :
    (let p := noise {} [(F.RNG_STAT.run, 7)]
     domOn p 3 = true ∧ p.rng.osc = true ∧ p.get F.RNG_STAT.run = 7 ∧ passes p (List.replicate 41 true) = false
       ∧ passes p (List.replicate 40 true) = true ∧ p.rng.ht = {} ∧ 41 = p.get F.RNG_HT.rct_cut ∧ 41 ≤ p.get F.RNG_HT.apt_cut
       ∧ p.rng.tested = false ∧ passes p (rawBits 1024 (altRaw % 2 ^ 1024)) = true ∧ passes p (rawBits 1024 0) = false) := by
  decide +kernel

theorem wit_NoiseSource_seeds :
    passes (noise {}) (rawBits 1152 altRaw) = true ∧ passes (noise {}) (rawBits 1152 0) = false
    ∧ (let p := noise { tested := true }
       domOn p 3 = true ∧ p.rng.osc = true ∧ p.rng.tested = true ∧ p.rng.seed = none ∧ p.rng.held = [] ∧ p.rng.inst = false)
    ∧ (let p := noise { tested := true, inst := true } [(F.RNG_RSCNT.count, 2 ^ 10)]
       p.rng.inst = true ∧ 2 ^ 10 ≤ p.get F.RNG_RSCNT.count)
    ∧ (let p := noise { tested := true, inst := true } [(F.RNG_RSCNT.count, 2 ^ 10 - 1)]
       p.rng.inst = true ∧ p.rng.forced = false ∧ p.get F.RNG_RSCNT.count < 2 ^ 10) := by decide +kernel

theorem wit_RngService :
    (let p := rng { inst := true, queue := [7, 8] } [(F.RNG_CFG.rt_swp, 1)]
     p.flag F.RNG_HPORT_W0.valid = false ∧ p.flag F.RNG_CFG.rt_swp = true ∧ p.flag F.RNG_CTRL.en = true ∧ p.rng.forced = false
       ∧ heldCount p .hostPort = 0 ∧ p.rng.queue = [7, 8])
    ∧ (let p := rng { inst := true, tested := true } [(F.RNG_RSCNT.count, 2 ^ 10 - 1)]
       rngLive p = true ∧ p.flag F.RNG_CFG.rt_uwb = false ∧ p.rng.forced = false ∧ p.get F.RNG_RSCNT.count < 2 ^ 10
         ∧ p.rng.held = [] ∧ heldCount p .uwbCheck = 0 ∧ p.rng.seed = none ∧ p.rng.queue.length < 64)
    ∧ (let p := rng { inst := true, tested := true, seed := some 9 } []
       rngLive p = true ∧ p.rng.forced = false ∧ p.rng.held = [] ∧ p.rng.seed = some 9)
    ∧ (rngLive (rng {} []) = false ∧ heldCount (rng {} []) .uwbCheck = 0)
    ∧ (let p := rng {} [(F.RNG_HPORT_W0.valid, 1)]
       portValid p none = true ∧ p.rng.inst = false ∧ p.flag F.RNG_CFG.rt_swp = false ∧ heldCount p .hostPort = 0
         ∧ portValid p (some 7) = false)
    ∧ (let p := rng { planned := true } []
       p.rng.planned = true ∧ p.rng.seed = none ∧ p.rng.held = [] ∧ (rng {} []).rng.planned = false) := by decide +kernel

/-- Roots filled in FIELD, engine 0's key in slot 5 with tag 0x123 (the worked example of R249) with the given use count and limit
exponent. -/
def keyed (uses limE : Nat) (l : List (Fld × Nat) := []) : State :=
  { st ([(F.KEYS_LC.state, 2)] ++ l) with
    keys := { roots with slots := roots.slots.set 5 { live := true, tag := 0x123, key := 77, uses := uses, limE := limE } } }

/-- An operation of engine 0's channel on core 0. -/
def ciphering (ending : Option Nat) (cores : List (Option KeyUser)) : State :=
  { keyed 0 20 [(F.CIPH_ECH_W4.status 0, 1)] with
    ciph := { ops := [{ who := .ech 0, left := 1, slot := 5, ending := ending }], cores := cores, pools := [1, 1, 1, 1] } }

theorem wit_CipherStarts :
    (st [(F.CIPH_ECH_W4.status 0, 1)]).get (F.CIPH_ECH_W4.status 0) = 1
    ∧ (st [(F.KEYS_STAT.blocked, 1)]).get F.KEYS_STAT.blocked = 1 ∧ activeRoot (st []) = none
    ∧ activeRoot (keyed 0 20) ≠ none ∧ slotOfHandle (keyed 0 20) 0 0 = none
    ∧ slotOfHandle (keyed 0 20) 0x48C5 0 = some 5
    ∧ 2 ^ (keySlot (keyed 8 3) 5).limE ≤ (keySlot (keyed 8 3) 5).uses
    ∧ (keySlot (keyed 7 3) 5).uses < 2 ^ (keySlot (keyed 7 3) 5).limE := by decide +kernel

theorem wit_CipherBlocks :
    (let p := ciphering none [none, none, none, none]
     let o := (nextOp p).getD { who := .verd, left := 0 }
     verdKick p = p ∧ o.who = .ech 0 ∧ (freeCores p).head? = some 0 ∧ p.ciph.pools.getD 0 0 ≠ 0
       ∧ (freeCores { p with ciph := { p.ciph with pools := [0, 0, 0, 0] } }).head? = some 0)
    ∧ (let p := ciphering none [some (.ech 0), none, none, none]
       (opOf p (.ech 0)).map (fun o => (o.ending, o.left)) = some (none, 1) ∧ p.ciph.cores.getD 0 none = some (.ech 0)
         ∧ p.get (F.CIPH_ECH_W4.status 0) = 1) := by decide +kernel

theorem wit_CipherAborts :
    (let p := ciphering none [none, none, none, none]
     (opOf p (.ech 0)).isSome = true ∧ (p.ciph.cores.all fun c => c != some (.ech 0)) = true)
    ∧ (let p := ciphering none [some (.ech 0), none, none, none]
       (opOf p (.ech 0)).map (·.ending) = some none ∧ some (.ech 0) ∈ p.ciph.cores)
    ∧ (opOf (st [(F.CIPH_ECH_W4.status 0, 2)]) (.ech 0) = none
       ∧ (st [(F.CIPH_ECH_W4.status 0, 2)]).get (F.CIPH_ECH_W4.status 0) = 2) := by decide +kernel

/-- A derivation of the token key, id 5, from the active root. -/
def deriving5 : State :=
  keyed 0 20 [(F.KEYS_DER_W0.parent 0, 0xFFF0), (F.KEYS_DER_W0.id 0, 5), (F.KEYS_DER_W4.ctx_len 0, 1)]

theorem wit_KeyDerivation :
    domOn deriving5 3 = true ∧ deriving5.keys.slots.length = 48
    ∧ (st [(F.KEYS_DER_W28.status 0, 1)]).get (F.KEYS_DER_W28.status 0) = 1
    ∧ deriving5.get (F.KEYS_DER_W28.status 0) ≠ 1 ∧ (derResolve deriving5 0).toOption.isSome = true
    ∧ (derResolve (st [(F.KEYS_STAT.blocked, 1)]) 0).toOption = none := by decide +kernel

/-- A child key of slot 5. -/
def deriving7 : State :=
  let s := keyed 0 20 [(F.KEYS_DER_W0.parent 0, 0x48C5), (F.KEYS_DER_W0.id 0, 7), (F.KEYS_DER_W4.ctx_len 0, 1)]
  { s with keys := { s.keys with slots := s.keys.slots.set 5 { keySlot s 5 with id := 5 } } }

/-- The derivation of engine 0 in its last block on core 0. -/
def derivingLast : State :=
  { deriving5 with ciph := { ops := [{ who := .der 0, left := 1, derId := 5, derCtx := [3] }], cores := [some (.der 0), none, none, none] } }

theorem wit_KeyDerivationBlocks :
    ((derResolve deriving7 0).toOption.map (·.slot)) = some 5
    ∧ derivingLast.ciph.cores.getD 0 none = some (.der 0)
    ∧ (opOf derivingLast (.der 0)).map (fun o => (o.ending, o.left)) = some (none, 1)
    ∧ freeSlot (dropOp derivingLast (.der 0)) = some 0 := by decide +kernel

theorem wit_KeyHandles :
    slotOfHandle (keyed 0 20) 0x48C5 0 = some 5 ∧ slotOfHandle (keyed 0 20) 0x48C5 1 = none ∧ (keySlot (keyed 8 3) 5).owner < 8
    ∧ (keyed 0 20).get (F.KEYS_DER_W28.status 1) ≠ 1
    ∧ (keySlot (keyed 8 3) 5).live = true ∧ (keySlot (keyed 8 3) 5).uses = 2 ^ (keySlot (keyed 8 3) 5).limE
    ∧ slotInUse (keyed 8 3) 5 = false
    ∧ (({ keyed 8 3 with keys := { (keyed 8 3).keys with tombs := List.replicate 32 { print := 0, gen := none } } } : State).keys.tombs.length
      = 32) := by decide +kernel

/-- HAUTH's key stands in slot 5, used half its limit. -/
def renewing (uses : Nat) : State :=
  let s := keyed uses 20 [(F.KEYS_LIMIT.max_e, 20)]
  { s with ciph := { s.ciph with pch := [some 5, none, none, none] } }

theorem wit_PrivilegedKeyRenewal :
    (let p := renewing (2 ^ 19)
     p.ciph.pch.length = 4 ∧ p.ciph.pch.getD 0 none = some 5 ∧ 2 ^ ((keySlot p 5).limE - 1) ≤ (keySlot p 5).uses
       ∧ slotInUse p 5 = false ∧ activeRoot p ≠ none ∧ freeSlot (freeSlotTree p 5) ≠ none)
    ∧ (let p := renewing (2 ^ 19 - 1)
       (keySlot p 5).uses < 2 ^ ((keySlot p 5).limE - 1)) := by decide +kernel

/-- BLANK with the given number of complete root slots and 256 bits delivered. -/
def filling (n : Nat) : State :=
  { st [] with keys := { roots := (List.range 5).map fun i => { programmed := decide (i < n), marker := decide (i < n) }, rootBuf := [1, 2] } }

theorem wit_RootFilling :
    (filling 2).keys.roots.length = 5 ∧ (filling 2).get F.KEYS_LC.state = 0 ∧ (filling 2).keys.rootBuf = [1, 2]
    ∧ usableRoots (filling 2) = [2, 3, 4] ∧ ((filling 2).keys.roots.getD 2 {}).marker = false
    ∧ (completedRoots (filling 2)).length = 2 ∧ (completedRoots (filling 1)).length < 2 := by decide +kernel

theorem wit_LifeCycle :
    (st [(F.KEYS_LC.state, 4)]).get F.KEYS_LC.state ≠ 1 ∧ (st [(F.KEYS_LC.state, 4)]).get F.KEYS_LC.state ≠ 3
    ∧ (let p := st [(F.KEYS_LC.state, 2), (F.KEYS_LC.shop_cnt, 256)]
       p.get F.KEYS_LC.state = 2 ∧ 256 ≤ p.get F.KEYS_LC.shop_cnt)
    ∧ (let p := st [(F.KEYS_LC.state, 2), (F.KEYS_LC.shop_cnt, 255)]
       p.get F.KEYS_LC.state = 2 ∧ p.get F.KEYS_LC.shop_cnt < 256 ∧ p.get F.KEYS_STAT.blocked = 0
         ∧ p.get F.LOFT_STAT.gen_end = 0 ∧ lcBusy p = false)
    ∧ (let p := st [(F.KEYS_LC.state, 3)]
       p.get F.KEYS_LC.state = 3 ∧ p.get F.KEYS_STAT.blocked = 0 ∧ p.get F.LOFT_STAT.gen_end = 0 ∧ lcBusy p = false)
    ∧ activeRoot (keyed 0 20) ≠ none ∧ lcBusy (keyed 0 20) = false
    ∧ (let p := { keyed 0 20 with keys := { (keyed 0 20).keys with lcPend := some .shop } }
       p.keys.lcPend = some .shop ∧ p.keys.lcWait = false ∧ storeOver p wtLife = true ∧ p.get F.LOFT_STAT.gen_end = 0) := by
  decide +kernel

/-- KT delivered whole, in FIELD. -/
def exporting (mask : Nat) : State := { keyed 0 20 with keys := { roots with kt := 5, ktMask := mask } }

/-- The export's last block on core 3, its key in slot 7. -/
def exportLast : State :=
  { exporting 15 with ciph := { ops := [{ who := .exp, left := 1, slot := 7 }], cores := [none, none, none, some .exp] } }

theorem wit_KeyExport :
    (exporting 7).get F.KEYS_LC.state ≠ 4 ∧ opOf (exporting 7) .exp = none ∧ (exporting 7).get F.KEYS_STAT.blocked = 0
    ∧ (exporting 7).keys.ktMask ≠ 15
    ∧ (exporting 15).get F.KEYS_LC.state = 2 ∧ (exporting 15).keys.ktMask = 15 ∧ activeRoot (exporting 15) ≠ none
    ∧ (exporting 15).keys.slots.length = 48 ∧ freeSlot (exporting 15) = some 0
    ∧ exportLast.ciph.cores.getD 3 none = some .exp
    ∧ (opOf exportLast .exp).map (fun o => (o.ending, o.left)) = some (none, 1)
    ∧ latchedLive (exporting 15) = false
    ∧ latchedLive (st [(F.HLTH_TMP_LATCH.latch, 1), (F.HLTH_TMP_LIVE.live, 1)]) = true := by decide +kernel

/-! The Loft. -/

/-- The Loft open, with the given contents. -/
def loft (l : LoftState) (fs : List (Fld × Nat) := []) : State := { st ([(F.LOFT_STAT.state, 2)] ++ fs) with loft := l }

/-- A gather of the host of one word at the first writable offset, and its state when its commit is due. -/
def gather0 : Gather := { owner := 0, start := 0x4_0000, words := [7] }

theorem wit_LoftGathering :
    loftClosed (st [(F.LOFT_STAT.state, 1)]) = true
    ∧ (let p := loft {}
       loftClosed p = false ∧ sealUnverified p 0x4_0000 = false ∧ loftProtected p 0x4_0000 = false ∧ loftProtected p 0x3_FFFC = true
         ∧ p.loft.gather = none ∧ p.loft.commit = none)
    ∧ (let p := loft { gather := some gather0 }
       gather0.owner ≠ loftOwner (.engine 0) ∧ gather0.owner = loftOwner (.host true) ∧ 0x4_0004 = gatherNext gather0
         ∧ gather0.words.length < 1023 ∧ gather0.waiting = false ∧ storeRuns p = false ∧ p.loft.commit = none
         ∧ loftProtected p 0x4_0004 = false)
    ∧ (let p := loft {} [(F.LOFT_SEAL.page 0, 0x500), (F.LOFT_SEAL.npg 0, 1)]
       sealUnverified p 0x5_0000 = true ∧ sealUnverified p 0x5_0100 = false)
    ∧ (let p := loft { gather := some gather0, store := some { begun := true } }
       0x4_0008 ≠ gatherNext gather0 ∧ p.loft.due = none ∧ storeRuns p = true) := by decide +kernel

/-- Engine 0, whose stall has the Loft window and the Loft's registers among its routes. -/
def routed : State :=
  let s := loft {} [(F.GROOM_STAT.stall 0, 2)]
  { s with yard := { s.yard with routes := s.yard.routes.set 2 { wr := 0x8000 } } }

theorem wit_Loft_engine :
    yardAllowed routed 0 0x44_0000 true = true ∧ yardAllowed routed 0 F.LOFT_CTRL.store.addr true = true
    ∧ yardAllowed routed 0 (F.LOFT_RVAL_W4.val_hi 0).addr true = true ∧ domOn routed 9 = true := by decide +kernel

theorem wit_LoftCommits :
    (let p := loft { gather := some { gather0 with waiting := true } }
     gather0.owner = loftOwner (.host false) ∧ p.loft.due = none ∧ p.loft.tctrWait = [] ∧ p.keys.lcWait = false ∧ storeRuns p = false ∧ commitHeld p gather0 = false ∧ p.loft.commit = none)
    ∧ storeRuns (loft { store := some { begun := true } }) = true
    ∧ (loft { commit := some gather0 }).loft.commit = some gather0 := by decide +kernel

theorem wit_LoftStores :
    loftClosed (st [(F.LOFT_STAT.state, 1)]) = true ∧ loftClosed (loft {}) = false ∧ (loft {}).loft.store = none
    ∧ (let p := loft { store := some {}, copyA := { start := 0xFFFF_FFFD, commit := some (0xFFFF_FFFD, {}) } }
       p.loft.commit = none ∧ newestGen p = 0xFFFF_FFFD ∧ newestGen p < 0xFFFF_FFFE ∧ copyValid p.loft.copyA ≠ none)
    ∧ newestGen (loft { store := some {}, copyB := { start := 0xFFFF_FFFE, commit := some (0xFFFF_FFFE, {}) } }) = 0xFFFF_FFFE
    ∧ (loft { store := some { begun := true, gnew := 5 } } [(F.LOFT_STAT.store_pend, 1)]).loft.store
      = some { begun := true, refused := false, pf := false, gnew := 5 } := by decide +kernel

theorem wit_LoftRecalls :
    (let p := st [(F.LOFT_STAT.state, 1)]
     domOn p 9 = true ∧ p.get F.LOFT_STAT.state = 1 ∧ p.loft.heldReq = false ∧ p.keys.lcWait = false ∧ p.loft.recallFrom = none)
    ∧ (let p := { st [(F.LOFT_STAT.state, 1)] with
         loft := { recallFrom := some true, copyA := { start := 3, commit := some (3, {}) }, copyB := { start := 4, commit := some (4, {}) } } }
       p.loft.recallFrom = some true ∧ newestCopy p = some true ∧ copyValid p.loft.copyA ≠ none) := by decide +kernel

/-- Ring 0 of the host with four slots and a change in every `n`. -/
def ring (n pend : Nat) : List (Fld × Nat) :=
  [(F.LOFT_RCFG.nslots 0, 4), (F.LOFT_RCFG.owner 0, 1), (F.LOFT_RCFG.n 0, n), (F.LOFT_RVAL_WC.pend 0, pend)]

theorem wit_LoftRingsAndSeals :
    ringOwned (loft {} (ring 3 2)) (.host false) 0 = false ∧ ringOwned (loft {} (ring 3 2)) (.host true) 0 = true
    ∧ ringN (loft {} (ring 3 2)) 0 ≤ satInc 255 ((loft {} (ring 3 2)).get (F.LOFT_RVAL_WC.pend 0))
    ∧ satInc 255 ((loft {} (ring 3 1)).get (F.LOFT_RVAL_WC.pend 0)) < ringN (loft {} (ring 3 1)) 0
    ∧ (loft { ringWrites := [(0, 9)] } (ring 1 0)).loft.ringWrites = [(0, 9)]
    ∧ (loft {} [(F.LOFT_RVAL_W8.seq 0, 0xFFFF_FFFE)]).get (F.LOFT_RVAL_W8.seq 0) ≠ 0xFFFF_FFFF
    ∧ (let p := { loft {} [(F.LOFT_SEAL.page 0, 0x500), (F.LOFT_SEAL.npg 0, 1), (F.LOFT_SEAL.resealing 0, 1), (F.KEYS_LC.state, 1)] with
         keys := roots, ciph := { ops := [{ who := .seal 0, left := 3 }] } }
       (activeRoot p).isSome = true ∧ p.keys.lcPend = none ∧ domOn p 3 = true ∧ sealRegion p 0 = some (0x5_0000, 256)
         ∧ p.get (F.LOFT_SEAL.resealing 0) = 1 ∧ (opOf p (.seal 0)).map (·.ending) = some none ∧ storeRuns p = false) := by decide +kernel

theorem wit_LoftPowerFail :
    (st []).get F.LOFT_CFG.pf_en = 0
    ∧ (let p := loft { gather := some gather0 } [(F.LOFT_CFG.pf_en, 1)]
       p.get F.LOFT_CFG.pf_en = 1 ∧ loftClosed p = false)
    ∧ (let p := loft { commit := some gather0, pf := true }
       p.loft.commit = some gather0 ∧ p.loft.pf = true ∧ 0 < gather0.words.length)
    ∧ (loft { store := some { pf := true } }).loft.store = some { pf := true }
    ∧ (loft { store := some { begun := true } }).loft.store = some { begun := true, pf := false } := by decide +kernel

/-! The stall plan and the yard. An image that passes the first pass takes the kernel minutes to check: NOTES.md says how it was run. -/

/-- The loader in a state, in MAKER, with the given fields. -/
def loader (n : Nat) (l : List (Fld × Nat) := []) : State :=
  { st ([(F.KEYS_LC.state, 1), (F.YARD_PSTAT.state, n), (F.LOFT_STAT.state, 2)] ++ l) with keys := roots }

theorem wit_PlanImports :
    domOn (loader 4) 2 = true ∧ (loader 6).get F.YARD_PSTAT.state = 6
    ∧ (let p := loader 4 [(F.YARD_PADDR.addr, 258044)]
       p.get F.YARD_PSTAT.state = 4 ∧ p.get F.YARD_PADDR.addr < 258048)
    ∧ 258048 ≤ (loader 4 [(F.YARD_PADDR.addr, 258048)]).get F.YARD_PADDR.addr
    ∧ firstPass (loader 4) (stagedImage (loader 4)) true none = some (1, 0)
    ∧ (loader 5).get F.YARD_PSTAT.state ∈ [4, 5] ∧ (activeRoot (loader 4)).isSome = true ∧ (loader 4).get F.KEYS_STAT.blocked = 0
    ∧ Store.wf (loader 4).feed = true := by decide +kernel

/-- A load of the region's image. -/
def regionLoad (startup : Bool) : State :=
  { loader 1 with yard := { load := some { staged := false, startup := startup } }, ciph := { ops := [{ who := .seal 4, left := 3 }] } }

theorem wit_PlanSources :
    (let p := loader 0 [(F.RNG_STAT.seeded, 1)]
     p.get F.YARD_PSTAT.state = 0 ∧ domOn p 2 = true ∧ loftClosed p = false ∧ p.flag F.RNG_STAT.seeded = true ∧ lifeState p ≠ 0
       ∧ p.get F.KEYS_STAT.blocked = 0 ∧ p.get F.RST_STRAP.src = 0 ∧ p.yard.ignoreLoft = false)
    ∧ (loader 0 [(F.RST_STRAP.src, 1)]).get F.RST_STRAP.src ≠ 0 ∧ (loader 0).poll.planRan = false
    ∧ (let p := loader 3 [(F.RST_STRAP.src, 1)]
       p.get F.YARD_PSTAT.state = 3 ∧ p.get F.RST_STRAP.src = 1 ∧ p.yard.ignoreLoft = false)
    ∧ (let p := regionLoad false
       p.yard.load.isSome = true ∧ tapHolds p = false ∧ (opOf p (.seal 4)).map (·.ending) = some none
         ∧ firstPass p (regionImage p) false (regionTag p (regionImage p)).1 = some (1, 0))
    ∧ (let p := regionLoad true
       p.yard.load = some { staged := false, startup := true } ∧ tapHolds p = false
         ∧ firstPass p (regionImage p) false (regionTag p (regionImage p)).1 = some (1, 0))
    ∧ tapHolds { regionLoad true with tap := { ir := 4 } } = true := by decide +kernel

/-- A checked load that waits for its quiet point. -/
def readyLoad (l : List (Fld × Nat)) : State :=
  { loader 5 l with yard := { load := some { staged := true, startup := false, ready := true } } }

/-- An overlay that waits, with the mask of its one entry. -/
def overlaid (mask : Nat) : State :=
  { loader 2 with yard := { applied := true, overlay := some [{ addr := F.VERD_WIN.guard.addr, mask := mask, value := 33 }] } }

theorem wit_PlanApplies :
    (quiet (readyLoad []) = true ∧ regionFree (readyLoad []) = true ∧ (readyLoad []).yard.installing = false
      ∧ (readyLoad []).get F.SYS_GATE_STAT.plan_apply = 0 ∧ pchRefusal (readyLoad []) 2 1 = none ∧ tapHolds (readyLoad []) = false)
    ∧ quiet (readyLoad [(F.SESS_STAT.txn_open, 1)]) = false
    ∧ (let p := overlaid 0xFF
       (activeRoot p).isSome = true ∧ quiet p = true ∧ regionFree p = true ∧ p.yard.load = none ∧ p.yard.applied = true
         ∧ pchRefusal p 2 (12 + 12 * 1) = none ∧ p.yard.ovlOld = [] ∧ p.loft.store = none
         ∧ ((p.yard.overlay.getD []).any fun e => outside e.mask (planMask e.addr)) = false)
    ∧ (((overlaid 0x100FF).yard.overlay.getD []).any fun e => outside e.mask (planMask e.addr)) = true := by decide +kernel

/-- A descriptor of stall 3 without image or data; under its tag it may run. -/
def desc : StallDesc :=
  { index := 3, plane := 1, engine := 0, policy := 0, rmax := 0, essential := false, wd := 0, check := true, entry := 0, imgOff := 0,
    imgLen := 0, datOff := 0, datLen := 0, itag := 0 }

/-- The install of stall 3 runs on engine 0. -/
def installing (d : StallDesc) : State :=
  { loader 2 with
    yard := { applied := true, stalls := [d], installs := [{ stall := 3, engine := 0, running := true }] }
    ciph := { ops := [{ who := .seal 8, left := 3 }] } }

theorem wit_StallInstalls :
    (installing desc).yard.installs.find? (fun i => i.running && i.engine == 0) = some { stall := 3, engine := 0, running := true }
    ∧ stallDesc (installing desc) 3 = some desc ∧ (installing desc).yard.installing = false ∧ (installing desc).sess.trigs = []
    ∧ (installing desc).eng.length = 8 ∧ desc.index < 15 ∧ (opOf (installing desc) (.seal 8)).map (·.ending) = some none
    ∧ stallDesc (installing { desc with essential := true }) 3 = some { desc with essential := true }
    ∧ (let p := { loader 2 [(F.GROOM_STAT.stall 0, 3), (F.GROOM_STAT.reload_pend 0, 1), (F.GROOM_STAT.state 0, 2)] with yard := { applied := true } }
       quiet p = true ∧ p.yard.applied = true ∧ p.yard.load = none ∧ p.get F.SYS_GATE_STAT.plan_apply = 0 ∧ p.get F.KEYS_STAT.blocked = 0
         ∧ p.yard.installs = [] ∧ p.get (F.GROOM_STAT.stall 0) ≠ 15 ∧ p.get (F.GROOM_STAT.reload_pend 0) = 1
         ∧ p.get (F.GROOM_STAT.state 0) ∈ [2, 3]) := by decide +kernel

/-- Both outcomes of the tag check: the descriptor that carries the tag computed, and one that carries another number. -/
theorem wit_StallInstalls_tag :
    (∃ d root, activeRoot (installing d) = some root ∧ itagOf (regionImage (installing d)) root d = d.itag)
    ∧ itagOf [] 100 desc ≠ desc.itag :=
  ⟨⟨{ desc with itag := itagOf [] 100 desc }, 100, by decide +kernel, by decide +kernel⟩, by decide +kernel⟩

/-! LF field synthesis. -/

/-- The synthesiser at work: its state, its owner, and the given fields. -/
def lf (l : LfState) (owner : Nat) (fs : List (Fld × Nat) := []) : State :=
  { st ([(F.LF_CTRL.syn_en, 1), (F.LF_STAT.owner, owner), (F.LF_SWEEP_DEF.npat 0, 2), (F.PWR_REQ.state 0, 2), (F.UWB_STAT.ts_ready, 1)] ++ fs) with
    lf := l }

/-- Each latch of R76 may come, and the cost of aerial 11 as the last one. -/
theorem wit_EffectivePhase :
    (let p := lf { stage := .wait, npat := 2 } 1
     p.get F.LF_STAT.owner = 1 ∧ p.lf.stage = .wait ∧ p.get (F.PWR_REQ.state 0) = 2 ∧ p.lf.gap = false ∧ p.get F.UWB_STAT.ts_ready = 1
       ∧ p.txn.pres = none ∧ txnDomainsUp p p.lf.base p.lf.npat = true)
    ∧ (let p := lf { stage := .sweep, k := 32, npat := 32, nextJ := 31 } 1
       p.lf.stage = .sweep ∧ p.lf.nextJ < p.lf.k ∧ p.lf.nextJ < p.lf.npat ∧ p.lf.sweepCut = false ∧ p.lf.unitOver = false
         ∧ p.lf.cut = none ∧ p.lf.noChal = false)
    ∧ (let p := { lf { stage := .sweep, k := 2, nextJ := 2 } 1 [(F.VERD_STAT.ready, 1)] with txn := { open_ := true, ackEnd := true } }
       p.lf.nextJ = p.lf.k ∧ p.txn.ackEnd = true ∧ p.lf.sweepCut = false ∧ p.get F.VERD_STAT.ready = 1)
    ∧ (let p := { st [(F.LF_STAT.owner, 2), (F.PWR_REQ.state 1, 2), (F.POLL_CFG.groups, 15)] with poll := { burst := .due } }
       p.poll.burst = .due ∧ burstReady p = true ∧ domOn p 2 = true)
    ∧ (let p := lf { stage := .calStep, calAer := 11, calMask := 0x800 } 3
       p.get F.LF_STAT.owner = 3 ∧ p.lf.stage = .calStep ∧ p.lf.calMask = 2 ^ p.lf.calAer ∧ p.lf.unitOver = false ∧ p.lf.cut = none) := by
  decide +kernel

theorem wit_LfTransactionStarts :
    (let p := lf {} 0
     domOn p 1 = true ∧ p.lf.txnWait = false ∧ p.lf.next = none ∧ lifeState p ≠ 4 ∧ p.get F.LF_CTRL.syn_en ≠ 0 ∧ p.get F.LF_STAT.owner = 0
       ∧ p.txn.open_ = false ∧ p.get (F.LF_SWEEP_DEF.npat 0) = 2)
    ∧ (lf {} 0 [(F.KEYS_LC.state, 4)]).get F.KEYS_LC.state = 4 ∧ (lf {} 1).get F.LF_STAT.owner = 1
    ∧ (st []).get (F.LF_SWEEP_DEF.npat 3) = 0 ∧ (lf { stage := .wait } 2).get F.LF_STAT.owner = 2
    ∧ (lf { stage := .wait } 3).lf.stage = .wait ∧ (lf { stage := .wait } 3).get F.LF_STAT.owner = 3
    ∧ (lf { stage := .calStep } 3).get F.LF_STAT.owner = 3 ∧ (lf { stage := .calStep } 3).lf.stage ≠ .wait
    ∧ ({ lf {} 0 with txn := { open_ := true } } : State).txn.open_ = true := by decide +kernel

theorem wit_LfWake :
    (let p := { lf { stage := .wait, npat := 2 } 1 with sess := { cur := some { source := 16, kind := 1, mask := 0 } } }
     p.get F.LF_STAT.owner = 1 ∧ p.lf.stage = .wait ∧ p.get (F.PWR_REQ.state 0) = 2 ∧ p.lf.gap = false ∧ p.get F.UWB_STAT.ts_ready = 1
       ∧ p.txn.pres = none ∧ txnDomainsUp p p.lf.base p.lf.npat = true ∧ p.sess.cur.isSome = true)
    ∧ (lf { gap := true } 1).lf.gap = true
    ∧ (let p := lf { stage := .wake } 1
       p.lf.stage = .wake ∧ p.lf.unitOver = false ∧ p.lf.cut = none ∧ domOn p 7 = true) := by decide +kernel

theorem wit_LfSweep :
    (let p := lf { stage := .sweep, k := 2, npat := 1 } 1
     p.lf.stage = .sweep ∧ p.lf.nextJ < p.lf.k ∧ p.lf.nextJ < p.lf.npat ∧ p.lf.cut = none ∧ p.lf.noChal = false ∧ p.lf.unitOver = false)
    ∧ (let p := lf { stage := .sweep, k := 2, npat := 1, nextJ := 1 } 1
       p.lf.nextJ < p.lf.k ∧ p.lf.npat ≤ p.lf.nextJ)
    ∧ (let p := lf { stage := .pattern, k := 32, npat := 31, nextJ := 31 } 1
       p.lf.stage = .pattern ∧ p.lf.nextJ < 32 ∧ p.lf.npat ≤ p.lf.nextJ)
    ∧ (let p := lf { stage := .pattern, k := 32, npat := 32, nextJ := 31 } 1 [(F.LF_AER_CFG.installed 11, 1)]
       p.lf.stage = .pattern ∧ p.lf.nextJ < 32 ∧ p.lf.nextJ < p.lf.npat ∧ p.lf.sweepCut = false
         ∧ p.get (F.LF_AER_CFG.installed 11) = 1)
    ∧ (let p := lf { stage := .sweep, k := 2, gap := true, cut := some 9 } 1
       p.lf.gap = true ∧ p.lf.txnWait = false ∧ p.lf.next = none ∧ p.lf.stage = .sweep ∧ p.lf.nextJ < p.lf.k ∧ p.lf.cut = some 9)
    ∧ (let p := lf { stage := .sweep, k := 2, gap := true, noChal := true } 1
       p.lf.cut = none ∧ p.lf.noChal = true ∧ p.lf.unitOver = false) := by decide +kernel

/-- The air of a transaction after WAKE_END, slot 0 tracked or not. -/
def acked (tracked : Bool) : State :=
  { lf { gap := true } 1 [(F.UWB_CTRL.rf_en, 1)] with
    txn := { open_ := true, woke := true, wakeEnd := true, slots := (List.replicate 8 {}).set 0 { tracked := tracked } } }

theorem wit_LfChallenge :
    (let p := acked true
     p.lf.gap = true ∧ p.lf.txnWait = false ∧ p.lf.next = none ∧ p.get F.RST_BLOCK.verd = 0 ∧ p.txn.open_ = true ∧ p.txn.hp = false ∧ p.txn.wakeEnd = true ∧ p.txn.ackEnd = false
       ∧ p.txn.lfOver = false ∧ ((List.range 8).all fun i => p.get (F.UHF_REC_W0.qstate i) != 2) = true
       ∧ p.txn.slots.any (·.tracked) = true ∧ p.txn.tsLost = false ∧ p.uwb.later = none ∧ p.get F.UWB_CTRL.rf_en = 1)
    ∧ (acked false).txn.slots.any (·.tracked) = false
    ∧ (let p := { lf { gap := true, stage := .sweep, k := 2, nextJ := 2 } 1 [(F.VERD_STAT.ready, 1)] with txn := { open_ := true, ackEnd := true } }
       p.lf.stage = .sweep ∧ p.get F.LF_STAT.owner = 1 ∧ p.lf.nextJ = p.lf.k ∧ p.txn.ackEnd = true ∧ p.lf.unitOver = false ∧ p.lf.cut = none
         ∧ p.lf.noChal = false ∧ p.lf.sweepCut = false ∧ p.get F.VERD_STAT.ready = 1)
    ∧ (lf {} 1).get F.VERD_STAT.ready = 0
    ∧ (let p := lf { gap := true, stage := .frame } 1
       p.lf.stage = .frame ∧ p.get F.LF_STAT.owner = 1 ∧ domOn p 7 = true ∧ p.lf.unitOver = false ∧ p.lf.cut = none ∧ p.lf.sweepCut = false
         ∧ p.lf.unitLost = false)
    ∧ (let p := lf { gap := true, stage := .frame, unitLost := true } 1
       p.lf.unitLost = true ∧ p.txn.hp = false) := by decide +kernel

theorem wit_LfControls :
    domOn (lf {} 0) 1 = true
    ∧ (let p := { lf { cLoaded := true } 1 with txn := { open_ := true, slots := (List.replicate 8 {}).set 0 { tracked := true }, order := [0] } }
       p.lf.cLoaded = true ∧ p.txn.preface = false ∧ pendSlots p ≠ [])
    ∧ (let p := lf { stage := .sweep } 1 [(F.LF_CTRL.lfa_en, 1)]
       p.get F.LF_CTRL.syn_en = 1 ∧ p.get (bankEn .lfa) = 1 ∧ p.lf.txnWait = false ∧ p.lf.cut ≠ some 9 ∧ p.lf.stage = .sweep)
    ∧ (lf { stage := .frame } 1).lf.stage = .frame ∧ (lf {} 0).lf.stage = .idle
    ∧ (lf {} 0 [(F.LF_TXN_STAT.code, 2)]).get F.LF_TXN_STAT.code = 2 := by decide +kernel

theorem wit_LfProtection :
    (st []).get (F.LF_AER_CFG.installed 0) = 0 ∧ (lf { stage := .pattern } 1 [(F.LF_AER_CFG.installed 11, 1)]).get (F.LF_AER_CFG.installed 11) = 1
    ∧ (let p := lf { stage := .pattern, gap := true } 1 [(F.PWR_REQ.grant 0, 100)]
       p.get F.LF_STAT.owner = 1 ∧ p.lf.stage = .pattern ∧ p.lf.stage ≠ .wait ∧ p.lf.cut = none ∧ p.lf.gap = true ∧ p.lf.txnWait = false
         ∧ p.lf.next = none ∧ p.get (F.PWR_REQ.grant 0) = 100) := by decide +kernel

theorem wit_LfCalibration :
    (let p := lf {} 0
     p.lf.txnWait = false ∧ domOn p 1 = true ∧ p.get F.LF_STAT.owner = 0)
    ∧ (lf {} 2).get F.LF_STAT.owner ≠ 0
    ∧ (let p := lf { stage := .calStep, calAer := 11, calMask := 0x800, cut := some 9 } 3
       p.get F.LF_STAT.owner = 3 ∧ p.lf.calAer < 12 ∧ lowestSet (clrBit p.lf.calMask p.lf.calAer) 12 = none ∧ p.lf.cut = some 9)
    ∧ lowestSet (clrBit (lf { stage := .calStep, calMask := 0x801 } 3).lf.calMask 0) 12 = some 11
    ∧ (let p := lf { stage := .calEnv } 3
       p.get F.LF_STAT.owner = 3 ∧ p.lf.stage = .calEnv ∧ p.lf.unitOver = false ∧ p.lf.cut = none) := by decide +kernel

/-- The body of a reply of index 3 with its CRC. -/
def reply3 : List Byte :=
  let b : List Byte := 0x30#8 :: List.replicate 12 0#8
  b ++ bytesBe (crc16 b) 2

/-- A hitching exchange at a stage, the reply expected of index 3. -/
def hitch (stage : LfStage) (fs : List (Fld × Nat) := []) : State :=
  { lf { stage := stage, cLoaded := true, hpMean := 1000 } 4 fs with
    txn := { open_ := true, hp := true, hpExpect := [(3, reply3)] }
    keys := roots }

theorem wit_HitchingPost :
    (let p := lf {} 0 [(F.LF_AER_CFG.installed 0, 1), (F.LF_CTRL.lfa_en, 1)]
     p.lf.txnWait = false ∧ p.lf.next = none ∧ p.sess.trigs = [] ∧ p.lf.unitOver = false ∧ p.lf.cut = none ∧ p.get F.RST_BLOCK.verd = 0
       ∧ domOn p 1 = true ∧ p.get F.LF_STAT.owner = 0 ∧ p.get F.LF_HP_CFG.hp_aer = 0 ∧ p.get F.LF_CTRL.syn_en ≠ 0
       ∧ p.get F.LF_CTRL.lfa_en ≠ 0 ∧ p.get (F.LF_AER_CFG.installed 0) ≠ 0 ∧ p.txn.open_ = false)
    ∧ 12 ≤ (lf {} 0 [(F.LF_HP_CFG.hp_aer, 12)]).get F.LF_HP_CFG.hp_aer
    ∧ (let p := hitch .wait [(F.LF_HP_CFG.hp_aer, 11)]
       p.lf.stage = .wait ∧ p.get F.LF_STAT.owner = 4 ∧ p.get (F.PWR_REQ.state 0) = 2 ∧ p.get F.UWB_STAT.ts_ready = 1
         ∧ 6 ≤ p.get F.LF_HP_CFG.hp_aer ∧ domUp p 5 = true)
    ∧ ((hitch .hpCharge).lf.stage = .hpCharge ∧ (hitch .hpCharge).get F.LF_STAT.owner = 4 ∧ hpExpected (hitch .hpCharge) = none)
    ∧ (hpExpected (hitch .hpCharge [(F.VERD_CTRL.en, 1), (F.KEYS_LC.state, 1)])).isSome = true
    ∧ (hitch .hpFrame).lf.stage = .hpFrame ∧ (hitch .hpListen).lf.stage = .hpListen ∧ (hitch .hpReply).lf.stage = .hpReply
    ∧ (hitch .hpListen).lf.hpMean + 8 * 1 < (1009#16).toNat ∧ ¬ (hitch .hpListen).lf.hpMean + 8 * 1 < (1008#16).toNat
    ∧ ¬ (992#16).toNat + 8 * 1 < (hitch .hpListen).lf.hpMean
    ∧ ((hitch .hpReply [(F.LF_HP_STAT.start_per, 123)]).get F.LF_HP_STAT.start_per < 124
      ∧ 124 ≤ (hitch .hpReply [(F.LF_HP_STAT.start_per, 132)]).get F.LF_HP_STAT.start_per
      ∧ (hitch .hpReply [(F.LF_HP_STAT.start_per, 132)]).get F.LF_HP_STAT.start_per ≤ 132) := by decide +kernel

/-- The half-bits that carry bytes, the load of a 1 first. -/
def halvesOf (fr : List Byte) : List (BitVec 16 × BitVec 16) :=
  (List.range 128).map fun i => if (fr.getD (i / 8) 0).getLsbD (7 - i % 8) then (2#16, 1#16) else (1#16, 2#16)

/-- A frame whose bytes are those of the reply expected, one whose bytes are not, and half-bits that carry the first. -/
theorem wit_HitchingPost_reply :
    (let fr := 0x00#8 :: reply3
     let body := (fr.drop 1).take 15
     fr.length = 16 ∧ crc16 (body.take 13) = natBe (body.drop 13) ∧ (fr.getD 1 0).toNat / 4 % 4 = 0
       ∧ ((fr.getD 1 0).toNat / 16, body) ∈ (hitch .hpReply).txn.hpExpect ∧ (hitch .hpReply).lf.hpLow = false
       ∧ ((List.range 128).all fun i =>
         let h := (halvesOf fr).getD i (0, 0)
         h.1 != h.2 && (fr.getD (i / 8) 0).getLsbD (7 - i % 8) == decide (h.2.toNat < h.1.toNat)) = true)
    ∧ (3, 0x30#8 :: List.replicate 14 0#8) ∉ (hitch .hpReply).txn.hpExpect := by decide +kernel

/-! Receivers, ranging, solver. -/

/-- The ACK phase of a transaction of index 3's slot, with the given placements. -/
def air (u : UhfState) (fs : List (Fld × Nat) := []) : State :=
  { st ([(F.UHF_CTRL.u0_en, 1), (F.UHF_CTRL.u1_en, 1)] ++ fs) with
    uhf := u, yard := { enrolMap := 8 }, txn := { open_ := true, woke := true, wakeEnd := true } }

/-- An ACK frame of index 3 with its CRC. -/
def ack3 : List Byte :=
  let b : List Byte := [0x10, 0x30] ++ List.replicate 8 0#8
  b ++ bytesBe (crc16 b) 2

/-- The slot that index 3 answers in. -/
def slot3 : Fin 8 := Fin.ofNat 8 (slotOfIndex 0 3)

theorem wit_UhfPlacements :
    (let p := air {}
     domOn p 2 = true ∧ windowDue p (.ack slot3) = true ∧ placementCut p (.ack slot3) = false ∧ Placement.ack slot3 ∉ p.uhf.open_
       ∧ p.get F.UHF_CFG.mode = 0 ∧ p.get F.UHF_CTRL.u0_en = 1 ∧ p.get F.UHF_CTRL.u1_en = 1 ∧ p.uhf.cut0 = false ∧ p.uhf.cut1 = false)
    ∧ (air {} [(F.UHF_CFG.mode, 1)]).get F.UHF_CFG.mode = 1
    ∧ placementCut (air { cut0 := true, cut1 := true }) (.ack slot3) = true ∧ windowDue (st []) (.ack slot3) = false
    ∧ (let p := air { open_ := [.ack slot3], sync := [.ack slot3] }
       Placement.ack slot3 ∈ p.uhf.open_ ∧ Placement.ack slot3 ∈ p.uhf.sync ∧ ack3.length ≥ frameLen p (.ack slot3) ack3
         ∧ crcOk (ack3.take (frameLen p (.ack slot3) ack3)) = true ∧ hdrVersion ack3 = 0 ∧ typeCarried (.ack slot3) (hdrType ack3) = true
         ∧ p.txn.open_ = true ∧ p.txn.wakeEnd = true ∧ p.txn.ackEnd = false ∧ (p.slotT slot3).ackOver = false
         ∧ bit p.yard.enrolMap (hdrIndex ack3) = true ∧ slotOfIndex p.lf.w (hdrIndex ack3) = slot3.val)
    ∧ slotOfIndex 0 (hdrIndex ack3) ≠ (slot3 + 1).val := by decide +kernel

/-- Energy of exactly eight bit times at the threshold, eight below the floor, and a window without a sync. -/
theorem wit_UhfPlacements_rssi :
    (let p := air { open_ := [.ack slot3] } [(F.UHF_CFG.busy_thr, 40), (F.UHF_CFG.floor, 20)]
     let at_ := fun (n v : Nat) => carrierEnergy p (rssiBits p (.ack slot3) { avg := 0, bits := List.replicate n (BitVec.ofNat 8 v) } { avg := 0, bits := [] })
     let weak := fun (n v : Nat) => belowFloor p (rssiBits p (.ack slot3) { avg := 0, bits := List.replicate n (BitVec.ofNat 8 v) } { avg := 0, bits := [] })
     Placement.ack slot3 ∈ p.uhf.open_ ∧ Placement.ack slot3 ∉ p.uhf.sync ∧ at_ 8 40 = true ∧ at_ 7 40 = false ∧ at_ 8 39 = false
       ∧ weak 8 19 = true ∧ weak 7 19 = false ∧ weak 8 20 = false ∧ ack3.length - 1 < frameLen p (.ack slot3) (ack3.take 11)
       ∧ p.get F.RST_BLOCK.verd = 0) := by decide +kernel

/-- A response frame of 16 bytes with its CRC. -/
def response : List Byte :=
  let b : List Byte := 0x30#8 :: List.replicate 13 0#8
  b ++ bytesBe (crc16 b) 2

theorem wit_UhfPlacements_response :
    (let p := { air { open_ := [.response 7], sync := [.response 7] } with
       txn := { open_ := true, tEnd := true, slots := (List.replicate 8 {}).set 7 { tracked := true } } }
     Placement.response 7 ∈ p.uhf.sync ∧ response.length ≥ frameLen p (.response 7) response
       ∧ crcOk (response.take (frameLen p (.response 7) response)) = true ∧ hdrVersion response = 0
       ∧ typeCarried (.response 7) (hdrType response) = true ∧ p.txn.open_ = true ∧ (p.slotT 7).tracked = true
       ∧ (p.slotT 7).published = false ∧ (p.slotT 7).rsp = none) := by decide +kernel

/-- The checking stall 3 runs on engine 1; entry `k` waits for its check; slot 0's ACK carries a TCTR. -/
def checking (k tctr : Nat) : State :=
  { st [(F.GROOM_STAT.stall 1, 3), (F.UHF_REC_W0.qstate k, 2)] with
    yard := { stalls := [{ desc with engine := 1 }], tctrOff := 0x4_0000 }
    txn := { open_ := true, woke := true, slots := (List.replicate 8 {}).set 0 { tctr := tctr } } }

theorem wit_UhfChecks :
    isCheckEngine (checking 0 1) 0 = false ∧ isCheckEngine (checking 0 1) 1 = true ∧ (checking 0 1).get (F.UHF_REC_W0.qstate 1) ≠ 2
    ∧ (checking 0 1).txn.slots.length = 8
    ∧ (let p := checking 0 1
       p.get (F.UHF_REC_W0.qstate 0) = 2 ∧ p.txn.open_ = true ∧ p.txn.woke = true
         ∧ keptTctr p (p.slotT 0).idx < (p.slotT 0).tctr)
    ∧ ¬ keptTctr (checking 0 0) 0 < ((checking 0 0).slotT 0).tctr
    ∧ (checking 15 1).get (F.UHF_REC_W0.qstate 15) = 2
    ∧ (let p := { checking 15 1 with uhf := { quar := [(128 * 15, 0x40), (128 * 15 + 2, 5)] } }
       hdrType (quarBytes p 15 3) = 4 ∧ ((quarBytes p 15 3).getD 2 0).toNat = 5) := by decide +kernel

theorem wit_UhfChecks_presence :
    (let p := { st [] with sess := { presCheck := 1 }, uhf := { quar := [(2, 1)] } }
     p.sess.presCheck = 1 ∧ keptTctr p (p.get F.VERD_PRES.index) < natBe ((quarBytes p (p.get F.VERD_PRES.p) 6).drop 2))
    ∧ natBe ((quarBytes (st []) 0 6).drop 2) ≤ keptTctr (st []) 0
    ∧ (st []).sess.presCheck ≠ 1
    ∧ ({ st [] with uhf := { pollLatch := some (ack3, 3) } } : State).uhf.pollLatch = some (ack3, 3)
    ∧ domOn (st []) 6 = true
    ∧ (let p := air {} [(F.UHF_CFG.mode, 1)]
       p.txn.open_ = true ∧ p.txn.woke = true ∧ p.txn.ackEnd = false ∧ p.get F.UHF_CFG.mode = 1) := by decide +kernel

/-- Slot 7 is tracked and may range, or an exchange of it is in progress. -/
def ranging (e : Option UwbExch) : State :=
  { st [(F.UWB_STRB_W4.valid 2, 1), (F.PWR_REQ.state 3, 2), (F.UWB_CTRL.rf_en, 1), (F.UWB_CFG.profile, 0x20), (F.UWB_CFG.port_en, 15)] with
    txn := { open_ := true, slots := (List.replicate 8 {}).set 7 { tracked := true } }, uwb := { exch := e } }

/-- Taps whose edge meets the threshold at a whole LSB: the peak fraction 3250 lies five 65ths above tap 0. -/
def edge : List Nat := [0, 65, 100, 65] ++ List.replicate 256 0

/-- A port that heard a sound frame. -/
def heardPort : PortRx :=
  { heard := true, tap0 := 1000, hSts := edge, hPre := edge, preShift := 0, q := 255, fp := 3, pk := 9
    psdu := psduOf kRr1 0 7, fpRe := 1, fpIm := 0 }

/-- A port that heard nothing. -/
def silentPort : PortRx := { heardPort with heard := false }

theorem wit_RangingExchange :
    (let p := ranging none
     p.txn.slots.length = 8 ∧ p.txn.open_ = true ∧ (p.slotT 7).tracked = true ∧ (p.slotT 7).uwbOver = false ∧ (p.slotT 7).winOver = false ∧ p.uwb.exch = none
       ∧ p.get (F.UWB_STRB_W4.valid 2) = 1 ∧ p.get (F.PWR_REQ.state 3) = 2 ∧ p.get F.UWB_CTRL.rf_en = 1 ∧ domOn p 7 = true
       ∧ ((List.range 7).all fun j => !(p.slotT j).tracked) = true)
    ∧ (let p := ranging (some { slot := 7, poll := 5 })
       let e : UwbExch := { slot := 7, poll := 5 }
       p.uwb.exch = some e ∧ e.rr1Done = false ∧ e.fin = none ∧ e.ending = none
         ∧ (receiveExch p 2 e []).1.any (·.ok) = false ∧ (receiveExch p 2 e [heardPort]).1.any (·.ok) = true
         ∧ (receiveExch p 2 e [{ heardPort with psdu := psduOf kRr1 0 6 }]).1.any (·.ok) = false)
    ∧ (earliestRr1 { slot := 7, poll := 5, rr1Done := true, rr1 := [{ heard := true, ok := true, raw := 77 }] }).isSome = true
    ∧ (let e : UwbExch := { slot := 7, poll := 5, rr1Done := true, fin := some 9, rr1 := [{ heard := true, ok := true }] }
       let p := { ranging (some e) with uwb := { exch := some e } }
       rstatOf p e.rr1 (receiveExch p 4 e [{ heardPort with psdu := psduOf kRr2 0 7 }, silentPort, silentPort, silentPort]).1 = 1
         ∧ rstatOf p e.rr1 (receiveExch p 4 e [silentPort, silentPort, silentPort, silentPort]).1 ≠ 1) := by decide +kernel

theorem wit_RangingControls :
    domOn (st []) 7 = true ∧ (st []).txn.open_ = false ∧ (st []).uwb.calRun = false
    ∧ (let p := { ranging (some { slot := 7, poll := 5 }) with
         txn := { open_ := true, woke := true, ackEnd := true, slots := ((List.replicate 8 ({} : Slot)).set 6 { tracked := true }) } }
       p.txn.open_ = true ∧ p.txn.hp = false ∧ p.txn.woke = true ∧ (p.slotT 6).tracked = true
         ∧ p.uwb.exch = some { slot := 7, poll := 5, ending := none })
    ∧ ({ ranging none with txn := { open_ := true } } : State).uwb.exch = none
    ∧ (let p := { st [(F.PWR_REQ.state 4, 2), (F.UWB_STAT.ts_ready, 1), (F.UWB_CFG.port_en, 15)] with
         uwb := { calRun := true, tscalRun := true } }
       p.uwb.calRun = true ∧ p.get (F.PWR_REQ.state 4) = 2 ∧ heldCount p .uwbCheck = 0 ∧ portOn p 3 = true ∧ p.uwb.tscalRun = true
         ∧ p.get F.UWB_STAT.ts_ready = 1 ∧ quiet p = true)
    ∧ quiet (ranging none) = false
    ∧ (st []).get F.UWB_STAT.ts_ready = 0 ∧ (st []).uwb.tablesNext = none := by decide +kernel

/-- A fit of slot 7 in progress or ended, slot 1 queued. -/
def fitting (f : Fit) : State := { st [] with solv := { queue := [1], fit := some f }, txn := { tEnd := true } }

theorem wit_SolverFixes :
    (let p := { st [] with solv := { queue := [7] } }
     p.solv.fit = none ∧ p.solv.queue = [7] ∧ (p.solv.queue.all (· < 8)) = true ∧ domOn p 2 = true)
    ∧ (fitting { slot := 7 }).solv.fit = some { slot := 7, ended := false, fstat := 3, first := none, second := none }
    ∧ (fitting { slot := 7, ended := true, fstat := 4 }).solv.fit = some { slot := 7, ended := true, fstat := 4 }
    ∧ (fitting { slot := 7 }).txn.tEnd = true ∧ (st []).txn.tEnd = false := by decide +kernel

/-- Paddock 23 is a box and paddock 22 an ellipsoid, both reaching 100 along x. -/
def padded (prio22 : Nat) : State :=
  st [(F.SOLV_PAD_W0.nparts 23, 1), (F.SOLV_PAD_W0.prio 23, 2), (F.SOLV_PAD_W4.hi_x 23 0, 100), (F.SOLV_PAD_W8.hi_y 23 0, 100),
    (F.SOLV_PAD_WC.hi_z 23 0, 100), (F.SOLV_PAD_W0.nparts 22, 1), (F.SOLV_PAD_W0.prio 22, prio22), (F.SOLV_PAD_W0.ptype 22, 1),
    (F.SOLV_PAD_W4.hi_x 22 0, 100), (F.SOLV_PAD_W8.hi_y 22 0, 50), (F.SOLV_PAD_WC.hi_z 22 0, 50)]

/-- The boundary lies inside, a millimetre on does not; the higher priority wins, and the lower index among equals. -/
theorem wit_PaddockAssignment :
    (let p := padded 1
     partUsable p 23 0 = true ∧ isEllipsoid p 23 0 = false ∧ partUsable p 22 0 = true ∧ isEllipsoid p 22 0 = true
       ∧ partHas p 23 0 [100, 0, 0] = true ∧ partHas p 23 0 [101, 0, 0] = false
       ∧ partHas p 22 0 [100, 0, 0] = true ∧ partHas p 22 0 [101, 0, 0] = false ∧ partHas p 22 0 [100, 1, 0] = false
       ∧ (usedParts p).any (fun e => e.1 == 22 && partHas p 22 e.2 [100, 0, 0]) = true
       ∧ assignPad p [100, 0, 0] = 23 ∧ assignPad p [-100, 0, 0] = 22 ∧ assignPad p [101, 0, 0] = 0xFF)
    ∧ assignPad (padded 2) [100, 0, 0] = 22 := by decide +kernel

theorem wit_SolverFixes_store :
    domOn (st []) 2 = true ∧ (st [(F.SOLV_MADDR.addr, 73724)]).get F.SOLV_MADDR.addr / 4 * 4 < 73728
    ∧ 73728 ≤ (st [(F.SOLV_MADDR.addr, 73728)]).get F.SOLV_MADDR.addr / 4 * 4
    ∧ (st []).get F.YARD_PSTAT.locked = 0 ∧ (st [(F.YARD_PSTAT.locked, 1)]).get F.YARD_PSTAT.locked = 1 := by decide +kernel

/-! Verdicts and sessions. -/

/-- A transaction in which slot 7 is the one tracked slot, for a request. -/
def judging (q : Slot) (r : SessReq) (fs : List (Fld × Nat) := []) : State :=
  { st ([(F.SOLV_FIX_W0.fstat 7, 3), (F.UWB_REC_W0.rstat 7, 1), (F.SOLV_FIX_W0.conf 7, 255), (F.SESS_STAT.gen_ready, 1), (F.SESS_DOOR.doors 0, 1),
      (F.VERD_REACH.reach 0, 1000), (F.SESS_STAT.txn_open, 1), (F.VERD_CTRL.en, 1), (F.KEYS_LC.state, 1)] ++ fs) with
    txn := { open_ := true, sess := true, woke := true, wakeEnd := true, ackEnd := true, tEnd := true, order := [7]
             slots := (List.replicate 8 {}).set 7 q }
    sess := { cur := some r }, keys := roots, lf := { cLoaded := true } }

/-- A slot whose response and path are in, at the limits of the window. -/
def arrived : Slot :=
  { tracked := true, idx := 3, ackOver := true, repOver := true, rsp := some 2, rstat := 1, err := some 63898, tof := some (-32), uwbOver := true
    winOver := true, ready := true }

/-- A host trigger of a kind. -/
def trigger (kind : Nat) : SessReq := { source := 16, kind := kind, mask := 0xFFFF }

/-- The latch's last stage of slot 7 is done. -/
def latching : State :=
  { judging { tracked := true, idx := 3 } (trigger 0) with ciph := { ops := [{ who := .verd, left := 0, kind := 7, derId := 7 }] } }

theorem wit_VerdictDecides :
    (let p := latching
     (activeRoot p).isSome = true ∧ (opOf p .verd).map (fun o => (o.derId, o.kind, o.ending)) = some (7, 7, none)
       ∧ (p.slotT 7).preFail = false ∧ p.txn.slots.length = 8 ∧ p.uwb.sts.length = 8)
    ∧ (opOf (st []) .verd = none ∧ nextPre (st []) = none) ∧ publishReady (st []) 7 = false
    ∧ (let p := judging arrived (trigger 0)
       publishReady p 7 = true ∧ (p.slotT 7).rsp = some 2 ∧ p.lf.next = none ∧ p.sess.trigs = []
         ∧ (slotVerdict p 7 p.txn.tsLost).code = 1)
    ∧ publishReady (judging { arrived with err := some (-63899) } (trigger 0)) 7 = true
    ∧ publishReady (judging { arrived with repBad := true } (trigger 0)) 7 = true
    ∧ publishReady (judging { arrived with contentBad := true } (trigger 0)) 7 = true
    ∧ (let p := judging { arrived with err := none, tof := some 1001 } (trigger 0)
       publishReady p 7 = true ∧ reachOf p 7 + p.get F.VERD_WIN.guard = 1000) := by decide +kernel

theorem wit_VerdictStops :
    (let p := judging arrived (trigger 0)
     domOn p 2 = true ∧ p.sess.trigs = [] ∧ p.txn.open_ = true ∧ p.txn.hp = false ∧ p.lf.next = none ∧ p.get F.RST_BLOCK.verd = 0
       ∧ pendSlots p = [7] ∧ (p.slotT 7).late = false ∧ publishReady p 7 = true)
    ∧ (let p := judging arrived (trigger 0) [(F.SOLV_FIX_W0.fstat 7, 2)]
       codeFormed p 7 = true ∧ p.get (F.SOLV_FIX_W0.fstat 7) < 3 ∧ p.txn.slots.length = 8)
    ∧ pendSlots { st [] with txn := { open_ := true } } = [] := by decide +kernel

theorem wit_SessionStarts :
    (let p := st [(F.SESS_CTRL.en, 1), (F.LF_CTRL.syn_en, 1), (F.LF_SWEEP_DEF.npat 0, 32)]
     domOn p 2 = true ∧ p.get F.SYS_GATE_STAT.plan_apply = 0 ∧ p.get F.SESS_CTRL.en = 1 ∧ p.get F.SESS_STAT.txn_open = 0
       ∧ p.sess.rcode = none ∧ p.sess.trigs = [] ∧ lifeState p ≠ 4 ∧ p.get F.LF_CTRL.syn_en = 1
       ∧ sweepOk p (p.get F.LF_TXN.sweep_sel) = true ∧ p.txn.open_ = false ∧ p.get F.LF_STAT.owner = 0)
    ∧ (st []).get F.SESS_CTRL.en = 0 ∧ (st [(F.SESS_STAT.txn_open, 1)]).get F.SESS_STAT.txn_open ≠ 0
    ∧ (let p := judging arrived (trigger 0)
       pendSlots p = [7] ∧ publishReady p 7 = true ∧ p.txn.ackEnd = true ∧ p.txn.hp = false ∧ p.txn.sess = true
         ∧ p.sess.cur = some (trigger 0) ∧ p.sess.trigs = [] ∧ p.lf.next = none ∧ genOf p < 0xFFFF_FFFF_FFFF ∧ p.get F.SESS_STAT.gen_ready = 1
         ∧ after (exec (.verdictPublish 7) p) (fun t =>
           ((winner (candidates t 0xFFFF)).map fun w => p.get (F.SESS_DOOR.doors w.paddock) != 0) == some true) = true)
    ∧ (let p := judging { arrived with repBad := true } (trigger 1)
       pendSlots p = [7] ∧ publishReady p 7 = true
         ∧ after (exec (.verdictPublish 7) p) (fun t => (winner (candidates t 0xFFFF)).isNone) = true)
    ∧ (let p := { st [] with sess := { rcode := some { gen := 1, idx := 3, slot := 7, paddock := 0, seq := 1, source := 16, code := 0 } }
                             ciph := { ops := [{ who := .rcode, left := 1 }] } }
       p.sess.rcode.isSome = true ∧ p.sess.trigs = [] ∧ (opOf p .rcode).map (·.ending) = some none) := by decide +kernel

theorem wit_SessionEnds :
    (let p := { st [(F.SESS_STAT.entry_open, 1), (F.SESS_STAT.start_open, 1), (F.SESS_SLK.cmd, 1)] with sess := { aRun := 1 } }
     domOn p 2 = true ∧ p.get F.SYS_GATE_STAT.plan_apply = 0 ∧ p.get F.SESS_STAT.entry_open = 1 ∧ p.get F.SESS_STAT.start_open = 1
       ∧ p.get F.SESS_SLK.cmd = 1 ∧ 1 ≤ p.sess.aRun)
    ∧ (st []).get F.SESS_STAT.entry_open = 0 ∧ (st []).get F.SESS_STAT.start_open = 0 ∧ (st []).sess.aRun = 0 ∧ (st []).sess.bRun < 4
    ∧ (st []).get F.SESS_SLK.b_rb = 0
    ∧ (st [(F.SESS_SLK.b_rb, 1)]).get F.SESS_SLK.b_rb = 1 ∧ (st [(F.SESS_SLK.b_rb, 1)]).get F.SESS_SLK.cmd = 0 := by decide +kernel

/-! Poll ladder, power, reset. -/

/-- Polling on, at a rung, with the synthesiser's owner. -/
def ladder (rung owner : Nat) (fs : List (Fld × Nat) := []) : State :=
  st ([(F.POLL_CTRL.en, 1), (F.POLL_CFG.groups, 15), (F.POLL_STAT.rung, rung), (F.LF_STAT.owner, owner)] ++ fs)

/-- Everything but PD_AON and PD_STOR off. -/
def dark (fs : List (Fld × Nat)) : State :=
  { st ([(F.PWR_DOM_STAT.run, 0x201), (F.POLL_CTRL.en, 1), (F.POLL_CFG.groups, 15)] ++ fs) with
    doms := { phase := .on } :: List.replicate 9 {} }

theorem wit_PollSchedule :
    (ladder 7 0).doms.length = 10 ∧ (ladder 7 0).get F.POLL_STAT.rung = 7 ∧ (ladder 6 0).get F.POLL_STAT.rung = 6
    ∧ (let p := ladder 0 0
       p.get F.POLL_CTRL.en = 1 ∧ p.get F.POLL_CFG.groups ≠ 0 ∧ p.get F.POLL_STAT.state ≠ 3 ∧ p.get F.LF_STAT.owner = 0
         ∧ p.poll.burst = .idle ∧ p.lf.gap = false ∧ domOn p 2 = true)
    ∧ (st []).get F.POLL_CTRL.en = 0 ∧ (ladder 0 1).get F.LF_STAT.owner = 1 ∧ (ladder 0 0 [(F.POLL_CFG.groups, 0)]).get F.POLL_CTRL.en = 1
    ∧ (ladder 0 0 [(F.POLL_CFG.groups, 0)]).get F.POLL_CFG.groups = 0
    ∧ (let p := { ladder 0 0 with poll := { burst := .delayed }, lf := { gap := true, pollWait := true } }
       p.poll.burst = .delayed ∧ p.lf.gap = true)
    ∧ (let p := { ladder 0 1 with lf := { gap := true, stage := .sweep } }
       p.get F.LF_STAT.owner = 1 ∧ p.lf.stage ≠ .wait)
    ∧ (let p := dark [(F.POLL_STAT.state, 1)]
       domOn p 2 = false ∧ (p.doms.getD 1 {}).phase = .off ∧ p.get F.LF_STAT.owner = 0)
    ∧ (let p := { ladder 0 0 with lf := { gap := true, pollWait := true } }
       p.lf.gap = true ∧ p.lf.pollWait = true ∧ p.get F.LF_STAT.owner = 0 ∧ p.sess.trigs = [])
    ∧ ({ ladder 0 2 with lf := { gap := true, pollWait := true } } : State).get F.LF_STAT.owner ≠ 0 := by decide +kernel

/-- A burst in a phase, the synthesiser its own. -/
def burst (b : BurstPhase) (p : State) : State :=
  { p.sets [(F.LF_STAT.owner, 2), (F.PWR_REQ.state 1, 2)] with poll := { burst := b } }

/-- A burst from STANDBY, its domains up. -/
def darkBurst (b : BurstPhase) : State :=
  let s := burst b (dark [(F.POLL_STAT.state, 2), (F.PWR_DOM_STAT.run, 0x273)])
  { s with doms := List.replicate 2 { phase := .on } ++ List.replicate 2 {} ++ List.replicate 6 { phase := .on } }

theorem wit_PollBursts :
    (let p := burst .due (ladder 0 2)
     p.poll.burst = .due ∧ burstReady p = true ∧ domOn p 2 = true ∧ p.lf.txnWait = false)
    ∧ (let p := darkBurst .due
       p.poll.burst = .due ∧ burstReady p = true ∧ domOn p 2 = false ∧ p.get F.LF_STAT.owner = 2 ∧ p.poll.wakeDue = false)
    ∧ (ladder 0 2).get (F.PWR_REQ.state 1) ≠ 2
    ∧ (let p := burst .wakeP (ladder 0 2)
       p.poll.burst = .wakeP ∧ p.get F.LF_STAT.owner = 2 ∧ domOn p 6 = true ∧ p.uhf.cut0 = false ∧ p.uhf.cut1 = false)
    ∧ (let p := burst .listen (ladder 0 2)
       p.poll.burst = .listen ∧ p.get F.LF_STAT.owner = 2 ∧ p.lf.txnWait = false)
    ∧ domOn (darkBurst .listen) 2 = false ∧ (darkBurst .due).lf.txnWait = false
    ∧ bit ((ladder 0 2).get F.POLL_CFG.groups) (((ladder 0 2).get F.POLL_STAT.group + 1 + 0) % 4) = true
    ∧ (burst .listen (dark [])).poll.burst = .listen := by decide +kernel

/-- Input 7 alone enabled on both sides, with run lengths and a POLL state. -/
def inputs (state run : Nat) (fs : List (Fld × Nat) := []) : State :=
  { st ([(F.POLL_HS_CFG.hs_en, 128), (F.POLL_DS_CFG.ds_en, 128), (F.POLL_STAT.state, state), (F.SESS_STAT.txn_open, 1), (F.SESS_CTRL.en, 1),
      (F.SESS_DS.trig 7, 3)] ++ fs) with
    poll := { hsRun := List.replicate 8 run, dsRun := List.replicate 8 run } }

theorem wit_WakeInputs :
    (inputs 0 0).poll.hsRun.length = 8 ∧ (inputs 0 0).poll.dsRun.length = 8
    ∧ (let p := inputs 0 1
       p.bitAt F.POLL_HS_CFG.hs_en 7 = true ∧ p.bitAt F.POLL_LVL.hs_touch 7 = false ∧ p.get (F.POLL_HS.base 7) + 4 * 32 ≤ 128
         ∧ 2 ≤ p.poll.hsRun.getD 7 0 + 1 ∧ p.get F.POLL_HS_CFG.thr = 0 ∧ p.get F.POLL_HS_CFG.acc = 0 ∧ p.get F.POLL_HS_CFG.hs_en = 2 ^ 7
         ∧ p.get F.POLL_STAT.state = 0 ∧ p.get F.SESS_STAT.txn_open = 1 ∧ p.get F.SESS_CTRL.en = 1 ∧ p.get (F.SESS_HS.kind 7) ≠ 3
         ∧ p.sess.trigs = [])
    ∧ (inputs 1 1).get F.POLL_STAT.state = 1
    ∧ (inputs 0 0 [(F.POLL_LVL.hs_touch, 128)]).bitAt F.POLL_LVL.hs_touch 7 = true
    ∧ (let p := inputs 0 9
       p.bitAt F.POLL_DS_CFG.ds_en 7 = true ∧ bit 0x80 7 ≠ p.bitAt F.POLL_LVL.ds_lvl 7 ∧ 10 ≤ p.poll.dsRun.getD 7 0 + 1
         ∧ p.get F.POLL_DS_CFG.deb = 0 ∧ p.get F.POLL_DS_CFG.ds_en = 2 ^ 7 ∧ p.get F.SESS_STAT.entry_open = 0
         ∧ p.get F.SESS_STAT.start_open = 0 ∧ p.get (F.SESS_DS.trig 7) = 3 ∧ p.get (F.SESS_DS.kind 7) ≠ 3) := by decide +kernel

theorem wit_WakesAndSleep :
    (st []).get F.POLL_STAT.state = 0 ∧ (dark [(F.POLL_STAT.state, 1)]).get F.POLL_STAT.state = 1
    ∧ (darkBurst .due).get F.POLL_STAT.state = 2 ∧ domOn (dark []) 8 = false ∧ domOn (st []) 8 = true
    ∧ (let p := ladder 0 0
       p.get F.SESS_STAT.entry_open = 0 ∧ p.get F.SESS_STAT.start_open = 0 ∧ p.get F.SESS_STAT.txn_open = 0 ∧ p.txn.open_ = false
         ∧ p.sess.trigs = [] ∧ p.get F.POLL_CTRL.en ≠ 0)
    ∧ (let p := { ladder 0 0 with poll := { sleepReq := true } }
       p.poll.sleepReq = true ∧ storeOver p wtSleep = true ∧ p.loft.store = none ∧ p.loft.commit = none ∧ p.lf.stage = .idle
         ∧ p.txn.open_ = false)
    ∧ storeOver ({ st [] with loft := { waitNow := [wtSleep], store := some {} } } : State) wtSleep = false := by decide +kernel

/-- Requests that wait, at their amounts. -/
def asking (q : List (Nat × Bool)) (owner : Nat) (fs : List (Fld × Nat)) : State :=
  { st ([(F.LF_STAT.owner, owner), (F.PWR_PART.derate_en, 1)] ++ fs) with man := { queue := q } }

theorem wit_PowerGrants :
    (let p := asking [(0, true)] 1 []
     (0, true) ∈ p.man.queue ∧ p.get F.LF_STAT.owner = 1 ∧ p.lf.txnWait = false ∧ p.lf.next = none ∧ p.sess.trigs = [])
    ∧ (let p := asking [(1, true)] 2 []
       (1, true) ∈ p.man.queue ∧ p.get F.LF_STAT.owner = 2 ∧ p.lf.txnWait = false ∧ domOn p 2 = true)
    ∧ (let p := asking [(3, true)] 1 []
       (3, true) ∈ p.man.queue ∧ p.uwb.exch = none ∧ p.sess.trigs = [] ∧ p.txn.slots.length = 8)
    ∧ (asking [] 1 []).man.queue = []
    ∧ (let p := asking [(0, true)] 1 [(F.PWR_REQ.state 0, 1), (F.PWR_REQ.req 0, 400)]
       p.get (F.PWR_REQ.state 0) = 1 ∧ p.get (F.PWR_REQ.req 0) = 400)
    ∧ (let p := asking [(2, false), (1, true)] 2 [(F.PWR_REQ.state 1, 1), (F.PWR_REQ.state 2, 1), (F.PWR_REQ.req 1, 200)]
       p.get (F.PWR_REQ.state 0) = 0 ∧ p.get (F.PWR_REQ.state 1) = 1 ∧ p.get (F.PWR_REQ.state 2) = 1 ∧ p.get (F.PWR_REQ.req 1) = 200)
    ∧ (let p := asking [] 0 []
       domOn p 1 = true ∧ p.get F.LF_STAT.owner = 0 ∧ p.man.queue = [] ∧ p.get (F.PWR_REQ.state 2) ≠ 2)
    ∧ ({ st [] with man := { above := true } } : State).man.above = true := by decide +kernel

/-- A domain in a phase, a plan running, the sequence over. -/
def domain (d : Nat) (p : DomState) (fs : List (Fld × Nat) := []) : State :=
  let s := st ([(F.RST_STAT.step, 11)] ++ fs)
  { s with doms := s.doms.set d p, yard := { applied := true } }

theorem wit_DomainSwitching :
    (let p := domain 7 {} []
     p.doms.length = 10 ∧ p.get F.RST_STAT.step = 11 ∧ domOn p 2 = true ∧ p.bitAt F.RST_STAT.held 7 = false ∧ domPolicy p 7 = 0
       ∧ (p.doms.getD 7 {}).phase = .off)
    ∧ (domain 7 { phase := .switchOff }).doms.getD 7 {} = { phase := .switchOff }
    ∧ (let p := domain 7 { phase := .on } [(F.PWR_DOM_CFG.uwb, 1)]
       domPolicy p 7 = 1 ∧ p.txn.open_ = false ∧ p.sess.trigs = [] ∧ p.get F.LF_STAT.owner = 0 ∧ p.poll.burst = .idle
         ∧ p.uwb.calRun = false ∧ p.uwb.tscalRun = false ∧ p.yard.applied = true ∧ domOn p 7 = true)
    ∧ domPolicy (domain 4 { phase := .switchOn } [(F.PWR_DOM_CFG.lfa, 2)]) 4 = 2
    ∧ (let p := domain 7 { phase := .switchOff, held := true }
       (p.doms.getD 7 {}).phase = .switchOff ∧ domQuiet p 7 = true ∧ p.txn.open_ = false)
    ∧ domPolicy (domain 7 {} [(F.PWR_DOM_CFG.uwb, 3)]) 7 = 3 := by decide +kernel

theorem wit_HeldSwitches :
    (let p := domain 7 { phase := .switchOff }
     p.doms.length = 10 ∧ p.txn.open_ = false ∧ p.get F.RST_STAT.step = 11 ∧ domOn p 2 = true ∧ p.bitAt F.RST_STAT.held 7 = false
       ∧ domPolicy p 7 = 0 ∧ domQuiet p 7 = true ∧ (p.doms.getD 7 {}).held = false)
    ∧ (let p := domain 9 { phase := .switchOff, held := true }
       domQuiet p 9 = true ∧ (p.doms.getD 9 {}).held = true)
    ∧ (let p := domain 4 { phase := .waitClock } [(F.PWR_DOM_CFG.lfa, 2)]
       (p.doms.getD 4 {}).phase = .waitClock ∧ p.yard.applied = true ∧ domPolicy p 4 = 2)
    ∧ (let p := domain 7 { phase := .switchOn, held := true }
       railUp p 7 = true ∧ ownClock p 7 = some 7 ∧ p.bitAt F.CLK_STAT.good 7 = true ∧ p.get F.UWB_STAT.ts_ready = 0 ∧ p.loft.pf = false)
    ∧ (domain 7 { phase := .switchOn, held := true } [(F.CLK_STAT.good, 0)]).bitAt F.CLK_STAT.good 7 = false := by decide +kernel

theorem wit_DomainClocks :
    (let p := domain 7 { phase := .switchOn }
     railUp p 7 = true ∧ p.get F.UWB_STAT.ts_ready = 0 ∧ p.man.badWin.length = 12
       ∧ ownClock p 7 = some 7 ∧ p.bitAt F.CLK_STAT.good 7 = true)
    ∧ (domain 7 { phase := .switchOn } [(F.CLK_STAT.good, 0)]).bitAt F.CLK_STAT.good 7 = false
    ∧ (let p := domain 7 { phase := .waitClock, held := true } [(F.PWR_DOM_STAT.pg, 0x3FF)]
       (p.doms.getD 7 {}).phase = .waitClock ∧ clkRuns p 7 = true ∧ p.bitAt F.CLK_STAT.good 2 = true ∧ p.bitAt F.RST_STAT.held 7 = false
         ∧ ((List.range 7).all fun e => (p.doms.getD e {}).phase != .waitClock) = true)
    ∧ ((st [(F.RST_STAT.step, 13)]).get F.RST_STAT.step = 13 ∧ clkRuns (st [(F.RST_STAT.step, 13)]) 2 = true)
    ∧ ({ st [] with man := { badWin := List.replicate 12 1 } } : State).man.badWin.getD 10 0 = 1
    ∧ (clkReleased (st []) 10 = true ∧ clkReleased (st [(F.PWR_DOM_STAT.run, 0)]) 3 = false) := by decide +kernel

/-- The reset controller at a step. -/
def resetting (r : RstState) (step : Nat) (fs : List (Fld × Nat) := []) : State :=
  { dark ([(F.RST_STAT.step, step)] ++ fs) with rst := r }

theorem wit_ResetSources :
    (let p := { st [(F.RST_WDOG.period, 1)] with yard := { applied := true } }
     domOn p 2 = true ∧ p.yard.applied = true ∧ p.get F.RST_WDOG.period ≠ 0 ∧ p.get F.RST_STAT.aon_wait = 0)
    ∧ (let p := resetting { strapDone := true } 11
       p.rst.nrstLow = false ∧ p.rst.strapDone = true ∧ p.rst.trimSkip = false ∧ p.get F.RST_STAT.step ≠ 1)
    ∧ (resetting {} 1 [(F.RST_STAT.trim_tries, 2)]).get F.RST_STAT.trim_tries = 2
    ∧ (let p := loft {} [(F.LOFT_CFG.pf_en, 1)]
       p.loft.pf = false ∧ p.get F.LOFT_CFG.pf_en = 1 ∧ p.get F.LOFT_STAT.state ≠ 1) := by decide +kernel

theorem wit_BringUp :
    (let p := resetting { nrstLow := true, strapDone := true } 0
     p.doms.length = 10 ∧ p.rst.nrstLow = true ∧ p.rst.strapDone = true ∧ p.rst.trimSkip = false)
    ∧ (resetting {} 0).rst.strapDone = false
    ∧ (let p := resetting { strapDone := true } 1 [(F.RST_STAT.trim_tries, 1)]
       p.get F.RST_STAT.step = 1 ∧ p.rst.nrstLow = false ∧ p.get F.RST_STAT.trim_tries < 2 ∧ (p.doms.getD 9 {}).phase = .off)
    ∧ 2 ≤ (resetting {} 1 [(F.RST_STAT.trim_tries, 3)]).get F.RST_STAT.trim_tries
    ∧ (let p := resetting { gap := true } 2 [(F.HLTH_TMP_LATCH.latch, 128)]
       p.rst.gap = true ∧ p.rst.pos = 0 ∧ p.get F.HLTH_TMP_LATCH.latch ≠ 0)
    ∧ (let p := resetting { gap := true, pos := 7 } 10
       p.rst.gap = true ∧ p.rst.pos < 8 ∧ p.rst.pos ≠ 0 ∧ domOn p 1 = false)
    ∧ domOn (st []) 1 = true
    ∧ (let p := resetting {} 12 [(F.HLTH_TMP_LATCH.latch, 128)]
       p.get F.RST_STAT.step = 12 ∧ ((List.range 8).any fun i => p.bitAt F.HLTH_TMP_LATCH.latch i && p.bitAt F.HLTH_TMP_LIVE.live i) = false
         ∧ domOn p 3 = false)
    ∧ (st [(F.CLK_STAT.good, 0xFFE)]).bitAt F.CLK_STAT.good 0 = false := by decide +kernel

theorem wit_BlockResets :
    (let p := st [(F.GROOM_STAT.stall 7, 3)]
     p.sess.trigs = [] ∧ p.eng.length = 8 ∧ bit (p.word F.RST_BLOCK.lf.addr).toNat 26 = false ∧ domOn p 2 = true ∧ stallOf p 7 ≠ 15
       ∧ p.tally.length = 16)
    ∧ mayReset (st []) 0 = false
    ∧ bit ((st [(F.RST_BLOCK.lf, 1)]).word F.RST_BLOCK.lf.addr).toNat 0 = true := by decide +kernel

/-! Health and tamper. -/

/-- A plan runs with the classes and modes of HLTH_TMP_CFG given. -/
def tampered (fs : List (Fld × Nat)) (h : HlthState := {}) : State := { st fs with yard := { applied := true }, hlth := h }

theorem wit_TamperActions :
    (let p := tampered []
     p.get F.HLTH_STAT.farr_step = 0 ∧ domOn p 3 = true ∧ p.rst.bor18 = false ∧ Claims.OnlyLogged p 5 ∧ p.get F.POLL_STAT.state = 0)
    ∧ (domOn (dark [(F.POLL_STAT.state, 1)]) 2 = false ∧ domOn (dark []) 3 = false)
    ∧ (st [(F.POLL_STAT.state, 1)]).get F.POLL_STAT.state = 1
    ∧ (let p := tampered [(F.HLTH_TMP_CFG.class_, 0x100)]
       Claims.classOf p 4 = 1 ∧ p.txn.open_ = false ∧ p.sess.trigs = [] ∧ p.yard.installing = false ∧ p.get F.YARD_PSTAT.state ≠ 4
         ∧ p.get F.YARD_PSTAT.state ≠ 5)
    ∧ Claims.classOf (tampered [(F.HLTH_TMP_CFG.class_, 0xC00)]) 5 = 2 := by decide +kernel

theorem wit_TamperInputs :
    (let p := tampered [(F.HLTH_TMP_CFG.mode, 0x40)] { tmpRun := [0, 0, 0, 1] }
     p.get F.HLTH_STAT.farr_step = 0 ∧ p.hlth.tmpRun.length = 4 ∧ p.hlth.lfsr.length = 2 ∧ p.get F.HLTH_TMP_CFG.mode / 4 ^ 3 % 4 = 1
       ∧ bit 0 3 = false ∧ 1 ≤ p.hlth.tmpRun.getD 3 0 ∧ p.bitAt F.HLTH_TMP_LIVE.live 3 = false ∧ Claims.OnlyLogged p 3)
    ∧ (let p := tampered [(F.HLTH_TMP_CFG.mode, 0x30)] { lfsr := [0, 1], tmpRun := [0, 0, 0, 1] }
       p.get F.HLTH_TMP_CFG.mode / 4 ^ 2 % 4 = 3 ∧ p.get F.HLTH_TMP_CFG.mode % 4 ≠ 3 ∧ p.get F.HLTH_TMP_CFG.mode / 4 ^ 3 % 4 = 0 ∧ bit 0 3 ≠ bit (p.hlth.lfsr.getD 1 0) 0
         ∧ 1 ≤ p.hlth.tmpRun.getD 3 0)
    ∧ ((-55 : Int) ≤ (0xFFC9#16).toInt ∧ (0xFFC8#16).toInt < -55 ∧ (150#16).toInt ≤ 150 ∧ 150 < (151#16).toInt)
    ∧ (let p := tampered [] { cold := 1, hot := 1 }
       1 ≤ p.hlth.cold ∧ 1 ≤ p.hlth.hot ∧ Claims.OnlyLogged p 6 ∧ Claims.OnlyLogged p 7) := by decide +kernel

theorem wit_HealthPasses :
    (let p := tampered [(F.HLTH_STAT.farr_pend, 1)]
     p.get F.HLTH_STAT.farr_pend = 1 ∧ p.get F.HLTH_STAT.farr_step = 0 ∧ p.get F.SESS_STAT.txn_open = 0 ∧ p.txn.open_ = false
       ∧ p.get F.LF_STAT.owner = 0 ∧ p.sess.rcode = none ∧ p.yard.applied = true ∧ domOn p 2 = true ∧ p.get F.KEYS_STAT.blocked = 0
       ∧ p.get F.SYS_GATE_STAT.plan_apply = 0 ∧ p.get F.HLTH_NEXT_LO.due_lo + 2 ^ 32 * p.get F.HLTH_NEXT_HI.due_hi ≤ p.aonTs % 2 ^ 48)
    ∧ domOn (dark []) 2 = false
    ∧ (let p := tampered [(F.HLTH_STAT.farr_step, 4), (F.LOFT_STAT.state, 2)] { busy := true }
       p.get F.HLTH_STAT.farr_step = 4 ∧ p.hlth.busy = true ∧ storeOver p wtFarr = true ∧ p.get F.LOFT_STAT.state ≠ 1)
    ∧ storeOver ({ tampered [(F.HLTH_STAT.farr_step, 4)] { busy := true } with loft := { waitNow := [wtFarr], store := some {} } } : State) wtFarr
      = false
    ∧ (let p := tampered [(F.HLTH_STAT.farr_step, 5), (F.KEYS_STAT.blocked, 1)]
       p.get F.HLTH_STAT.farr_step = 5 ∧ p.get F.KEYS_STAT.blocked = 1)
    ∧ (tampered [(F.HLTH_STAT.farr_step, 5)] { busy := true }).hlth.busy = true := by decide +kernel

/-! Host link, test port, the whole block. -/

/-- A request without a tag, its CRC as the request's bytes give it. -/
def req (op cnt addr : Nat) (data : List Word) : HostReq :=
  let r : HostReq := { tagBit := false, fix := false, cnt := BitVec.ofNat 4 cnt, addr := BitVec.ofNat 24 addr, data := data, tag := 0, crc := 0 }
  { r with crc := BitVec.ofNat 16 (reqCrc op r) }

/-- The link up in SPI or CAN FD form. -/
def linked (form : Nat) (h : HostState := {}) (fs : List (Fld × Nat) := []) : State :=
  { st ([(F.HOST_STAT.ready, 1), (F.HOST_STAT.form, form)] ++ fs) with host := h }

/-- The worked example of R391: the CRC of the request 40 00 00 00. -/
theorem test_spi_crc : (req 1 0 0 []).crc = 0xEA5C#16 ∧ crc16 [0x00, 0x01, 0x74, 0x84, 0x0A, 0x01] = 0x34B5 := by decide +kernel

theorem wit_HostRequests :
    Claims.LinkUp (linked 0) ∧ Claims.Whole (linked 0) 1 (req 1 0 0 []) ∧ (linked 0).host.checking = none
    ∧ ¬ Claims.LinkUp (st []) ∧ (linked 0).get F.HOST_STAT.form = 0 ∧ (linked 1).get F.HOST_STAT.form = 1
    ∧ (({ req 1 0 0 [] with crc := 0 } : HostReq).crc.toNat ≠ reqCrc 1 { req 1 0 0 [] with crc := 0 })
    ∧ 0xFF_FFFC < 0xFF_FFFC + 4 * (req 1 1 0xFF_FFFC []).cnt.toNat
    ∧ Claims.Whole (linked 1) 2 (req 2 1 0x00_0008 [5, 6]) ∧ Claims.LinkUp (linked 1)
    ∧ Claims.LinkUp (hostReadWord (linked 0) false 0).1 ∧ (hostReadWord (linked 0) false 0).2.1 = 0
    ∧ (hostReadWord (linked 0) false 2).2.1 = 5 ∧ Claims.Stops (hostReadWord (linked 0) false 2).2.1
    ∧ Claims.LinkUp (hostWord (linked 0) false 0x00_0008 5).1 ∧ (hostWord (linked 0) false 0x00_0008 5).2 = 0
    ∧ (linked 0 {} [(F.HOST_STAT.bound, 1)]).get F.HOST_STAT.bound = 1 := by decide +kernel

/-- A request whose tag is being checked. -/
def busyLink (form : Nat) (q : List (Nat × HostReq × Nat)) : State :=
  linked form { checking := some { op := 0, req := req 0 0 0 [], bind := false, seq := 0 }, queue := q }

theorem wit_HostRequests_waiting :
    Claims.LinkUp (busyLink 0 []) ∧ (busyLink 0 []).host.checking ≠ none ∧ (busyLink 1 []).host.queue = []
    ∧ (busyLink 1 [(0, req 0 0 0 [], 0)]).host.queue ≠ [] ∧ Claims.Whole (busyLink 1 []) 0 (req 0 0 0 []) := by decide +kernel

/-- K_HOST stands in slot 5 for HAUTH, a check of `c` is in progress. -/
def authing (c : HostCheck) (fs : List (Fld × Nat) := []) : State :=
  let s := linked 0 { checking := some c } ([(F.KEYS_LC.state, 2), (F.HOST_STAT.nonce_ok, 1)] ++ fs)
  { s with keys := roots, ciph := { ops := [{ who := .hauth, left := 1 }] } }

theorem wit_HostBinding :
    (let p := { linked 0 {} [(F.HOST_STAT.nonce_ok, 1), (F.KEYS_LC.state, 2)] with keys := roots }
     Claims.LinkUp p ∧ p.get F.HOST_STAT.bound = 0 ∧ p.get F.HOST_STAT.nonce_ok = 1 ∧ (hostKey p).isSome = true ∧ p.host.checking = none)
    ∧ (hostKey (linked 0) = none ∧ domOn (dark []) 3 = false)
    ∧ (let p := authing { op := 0, req := req 0 0 0 [], bind := false, seq := 0 } [(F.HOST_SEQ.seq, 0xFFFF_FFFE)]
       p.host.checking.isSome = true ∧ (hostKey p).isSome = true ∧ domOn p 3 = true ∧ p.host.queue = []
         ∧ (opOf p .hauth).map (·.ending) = some none ∧ p.get F.HOST_SEQ.seq + 1 = 0xFFFF_FFFF
         ∧ p.get F.SYS_GATE_STAT.plan_apply = 0)
    ∧ (linked 0 {} [(F.HOST_STAT.bound, 1)]).get F.HOST_STAT.bound = 1
    ∧ (let b := bindReq 0x4249_4E44#32 0 0
       Claims.Whole (linked 0) 2 { b with crc := BitVec.ofNat 16 (reqCrc 2 b) })
    ∧ (let p := linked 0 {} [(F.RNG_CTRL.en, 1), (F.RNG_HPORT_W0.valid, 1)]
       domOn p 3 = true ∧ p.get F.HOST_STAT.bound = 0 ∧ p.get F.HOST_STAT.nonce_ok = 0 ∧ p.get F.RNG_CTRL.en = 1
         ∧ p.get F.RNG_HPORT_W0.valid = 1) := by decide +kernel

/-- A request under the tag that its key gives it. -/
def sealed (op seq : Nat) (bind : Bool) (r : HostReq) : HostReq :=
  let p := authing { op := op, req := r, bind := bind, seq := seq }
  { r with tag := hostTag ((hostKey p).getD 0) (reqMessage p seq op r) }

/-- Whether the tag of a request in the check is right. -/
def valid (op seq : Nat) (bind : Bool) (r : HostReq) : Bool :=
  let p := authing { op := op, req := r, bind := bind, seq := seq }
  match hostKey p with
  | some k => hostTag k (reqMessage p seq op r) == r.tag
  | none => false

/-- Tags that are right: of a STATUS under the last number but two, of a bind request, of the unbinding; and one that is not. -/
theorem wit_HostBinding_tags :
    valid 0 0xFFFF_FFFD false (sealed 0 0xFFFF_FFFD false (req 0 0 0 [])) = true
    ∧ valid 2 0 true (sealed 2 0 true (bindReq 0x4249_4E44#32 0 0)) = true
    ∧ valid 2 1 false (sealed 2 1 false (bindReq 7#32 0 0)) = true ∧ valid 0 1 false (req 0 0 0 []) = false := by decide +kernel

theorem wit_HostForms :
    Claims.LinkUp (linked 0) ∧ (linked 0 { frame := true, resetPend := true, answer := some { link := 0, status := 0, done := 1, words := [], tag := none } }).host.frame
      = true
    ∧ (let p := linked 1 {} [(F.HOST_CFG.ntf_en, 1), (F.HOST_IRQEN.en, 0x7F), (F.HOST_IRQSTAT.rdy, 1)]
       p.get F.HOST_STAT.plan_cfg = 0 ∧ p.get F.HOST_CANERR.state ≠ 2 ∧ p.get F.HOST_CFG.ntf_en = 1
         ∧ irqStat p &&& p.get F.HOST_IRQEN.en &&& (127 - p.host.ntfSeen % 128) ≠ 0)
    ∧ (let p := linked 1
       Claims.LinkUp p ∧ p.get F.HOST_STAT.form = 1 ∧ p.get F.HOST_CANERR.state ≠ 2 ∧ (0x6A0#29).toNat = 0x6A0 ∧ p.get F.HOST_CFG.ext_id = 0
         ∧ p.host.checking = none ∧ Claims.LinkUp (hostReadWord p false 0xFF_FFFC).1)
    ∧ (let p := linked 1 {} [(F.HOST_STAT.plan_cfg, 1), (F.HOST_CFG.ext_id, 1), (F.HOST_CANID.id 0, 0x1234_5678)]
       p.get F.HOST_STAT.plan_cfg = 1 ∧ p.get F.HOST_CFG.ext_id = 1 ∧ p.get (F.HOST_CANID.id 0) = (0x1234_5678#29).toNat)
    ∧ (linked 1 {} [(F.HOST_CANERR.state, 2)]).get F.HOST_CANERR.state = 2
    ∧ (linked 0 { resetPend := true }).host.resetPend = true := by decide +kernel

theorem wit_TestPort :
    (st []).get F.RST_STRAP.dbg = 0 ∧ (st [(F.RST_STRAP.dbg, 1)]).get F.RST_STRAP.dbg = 1
    ∧ (st []).yard.applied = false ∧ ({ st [] with yard := { applied := true } } : State).yard.applied = true
    ∧ (let p := { st [] with tap := { ir := 0, cells := 7 <<< 75 } }
       p.tap.ir = 0 ∧ p.tap.cells.getLsbD 77 = true ∧ ballDrive p 25 = .low)
    ∧ (let p := { st [(F.SESS_STAT.start_open, 1), (F.SESS_SLK.cmd, 1)] with yard := { applied := true }, tap := { fused := 0 } }
       ballDrive p 25 = .high) := by decide +kernel

theorem wit_IdleTick :
    (let p := { ladder 6 1 with poll := { dwellEnd := 0, due := 2 } }
     p.pending = [] ∧ p.msAcc + 1000 < 32768 ∧ p.get F.POLL_CTRL.en = 1 ∧ p.get F.RST_STAT.aon_wait = 0 ∧ p.poll.dwellEnd = p.aonTs
       ∧ p.poll.due ≠ p.aonTs ∧ p.get F.POLL_STAT.rung < 7)
    ∧ (let p := { ladder 6 1 with poll := { dwellEnd := 2, due := 0 }, msAcc := 31767 }
       p.msAcc + 1000 < 32768 ∧ p.poll.due = p.aonTs ∧ p.poll.dwellEnd ≠ p.aonTs ∧ p.get F.POLL_CFG.groups ≠ 0
         ∧ p.get F.LF_STAT.owner ≠ 0)
    ∧ (st []).get F.POLL_CTRL.en = 0
    ∧ (let p := { st [(F.UWB_STAT.state, 4)] with uwb := { exch := some { slot := 7, poll := 5 } } }
       p.get F.UWB_STAT.state = 4 ∧ p.uwb.exch ≠ none ∧ domOn p 7 = true ∧ p.bitAt F.CLK_STAT.good 8 = true) := by decide +kernel

/-! Each check of WellFormed refuses an ill-formed command. -/

/-- No samples. -/
def noRssi : RssiIn := { avg := 0, bits := [] }

theorem test_illformed :
    ([.registerWrite (.host true) 0x00_0002#24 ⟨0, 0⟩, .hostStatus (req 0 0 0 [1]), .hostRead (req 1 0 0 [1]), .hostWrite (req 2 0 0 []),
      .hostOpReserved (req 3 0 0 [1]), .canRequestFrame ⟨true, false, false⟩ 0x6A0#29 (List.replicate 65 0),
      .canRequestFrame ⟨true, false, false⟩ 0x800#29 [], .wakeEnd 0 [], .patternGap [], .tEnd 0 0 [],
      .tHp 0 ⟨[], 0⟩, .hpReplyEnd (List.replicate 127 (0, 0)), .frameTruncated (.ack 0) noRssi noRssi (List.replicate 129 0) 0 0,
      .uhfFrameEnd (.ack 0) noRssi noRssi (List.replicate 129 0) 0 0 0, .uwbCalDone [], .tscalDone 0 ⟨0, []⟩, .rr1ListenEnd [] 0,
      .rr2ListenEnd heardPort heardPort (heardPort, heardPort),
      .burstListenStart 0 [], .hsScan [], .lcCmdRefused 3#4 true, .loftWindowWrite (.host true) 2#19 0, .recallDone (.double []),
      .recallDone (.double [0x8_0000]), .recallDone (.double [2]), .vholdBelowCutoff 1025#11, .domainSwitchOn 0, .domainSwitchOff 0,
      .domainOffProceed 0, .autoHoldExpiry 0, .farrierStepDone [], .scrub (some (0, true)), .tapReserved 4#4, .tapReserved 15#4] :
      List Instr).all (fun i => !i.wf) = true := by decide +kernel

/-! The spec's worked examples. -/

/-- R315: the words of QMUL x3, x4, x5, of LDW x2, −8(x6) and of BNE x1, x0, −3. -/
theorem test_groom_words : encR 0x10 3#4 4#4 5#4 = 0x40D1_4000#32 ∧ encI 0x24 2#4 6#4 0x3FFF8#18 = 0x909B_FFF8#32
    ∧ encB 0x31 1#4 0#4 0x3FFFD#18 = 0xC443_FFFD#32 := by decide +kernel

/-- R315: 1.5 × −2.25 is −3.375. -/
theorem test_qmul : after (exec (.qmul 0 3#4 4#4 5#4) (fixed (encR 0x10 3#4 4#4 5#4) 0x18000#32 0xFFFDC000#32)) (fun t =>
    xOf t 0 3#4 == 0xFFFC_A000#32 && (t.engine 0).sat == false && (t.engine 0).pc == 4#32) = true := by decide +kernel

/-- R315: the root of 2.0 is 1.4142. -/
theorem test_qsqrt : after (exec (.qsqrt 0 3#4 4#4 0#4) (fixed (encR 0x12 3#4 4#4 0#4) 0x20000#32 0#32)) (fun t =>
    xOf t 0 3#4 == 0x1_6A09#32) = true := by decide +kernel

/-- R249: slot 5 with tag 0x123 has handle 0x48C5. -/
theorem test_handle : handleOf (keyed 0 20) 5 = 0x48C5 := by decide +kernel

/-- R391: SYS_ID is read from the reset state without a tag: status 0 and one word, the bytes 74 84 0A 01. -/
theorem test_read_sys_id : after (exec (.hostRead (req 1 0 0 [])) (State.reset.sets [(F.PWR_DOM_STAT.run, 0x3FF), (F.HOST_STAT.ready, 1)])) (fun t =>
    t.host.answer.map (fun a => (a.status, a.done, a.words)) == some (0, 1, [0x7484_0A01#32])) = true := by decide +kernel

/-- The whole step: a command taken from the queue, its effect and the queue's rest. -/
theorem test_step : after (step { st [] with pending := [.synEnWrite true, .qflush] }) (fun t =>
    t.get F.LF_CTRL.syn_en == 1 && t.pending == [.qflush]) = true := by decide +kernel

theorem wit_CommandFrames : ∃ t, exec .tapIdcode State.reset = .next t := ⟨_, rfl⟩

end Sys2Proof.Tests
end

namespace Sys2Proof.Machine

/-! R76 at a latch, and what a sweep's first pattern latches. A latch is right about the store it reads. PATTERN_LATCH reads it
after the strobe S is captured, and the sweep's base is a free number in the state: a base past the store's 64 vectors puts a
vector's word where S leaves its timestamp. -/

/-- A latch of the store drives every aerial with its phase code plus its trim, as the latching state holds them (R76). -/
theorem latchStore_pEff (s : State) (v vdrv : Nat) {n : Nat} (hn : n < 12) :
    (latchStore s v vdrv).lf.pEff.getD n 0 = (s.get (F.LF_VEC.phase v n) + s.get (F.LF_AER_CFG.trim n)) % 1024 := by
  have latched : (latchStore s v vdrv).lf.pEff = (vecIn s v).map fun x => (x.phase + x.trim) % 1024 := rfl
  simp [latched, vecIn, aerIn, hn]

/-- The trim's rise writes LF_TRIM and LF_STAT only (R89). -/
theorem trimRise_word (s : State) {a : Nat} (hTrim : a ≠ F.LF_TRIM.t.addr) (hStat : a ≠ F.LF_STAT.trim.addr) :
    (trimRise s).word a = s.word a := by
  have hMin : a ≠ F.LF_TRIM.t_min.addr := hTrim
  unfold trimRise
  split
  · simp only [setTrim, State.put_eq, State.word_set_ne _ _ _ _ hTrim, State.word_set_ne _ _ _ _ hMin,
      State.word_set_ne _ _ _ _ hStat]
  · rfl

/-- The trim's rise leaves the synthesiser's own state alone (R89). -/
theorem trimRise_lf (s : State) : (trimRise s).lf = s.lf := by
  unfold trimRise
  split <;> rfl

/-- An event source writes no register (R316). -/
theorem raiseSource_word (s : State) (code a : Nat) : (raiseSource s code).word a = s.word a := by
  obtain ⟨g, h, -, -⟩ := raiseSource_spec s code
  exact (congrArg (State.word · a) h :)

/-- An event source leaves the synthesiser alone (R316). -/
theorem raiseSource_lf (s : State) (code : Nat) : (raiseSource s code).lf = s.lf := by
  obtain ⟨g, h, -, -⟩ := raiseSource_spec s code
  exact (congrArg State.lf h :)

/-- A strobe leaves the synthesiser alone (R84). -/
theorem strobe_lf (s : State) (n : Nat) (ts : Stmp) : (strobe s n ts).lf = s.lf := by
  unfold strobe
  rw [raiseSource_lf]
  split <;> rfl

/-- The receiver's own state is no register. -/
theorem State.modUwb_word (s : State) (f : UwbState → UwbState) (a : Nat) : (s.modUwb f).word a = s.word a := rfl

/-- With PD_UWB on, a strobe leaves the low word of its timestamp in UWB_STRB (R84). -/
theorem strobe_ts_lo (s : State) (n : Nat) (ts : Stmp) (hUwb : domOn s 7 = true) :
    (strobe s n ts).get (F.UWB_STRB_W0.ts_lo n) = (capture s 5 ts).toNat % 2 ^ 32 := by
  have hHi : (F.UWB_STRB_W0.ts_lo n).addr ≠ (F.UWB_STRB_W4.ts_hi n).addr := by
    simp only [F.UWB_STRB_W0.ts_lo, F.UWB_STRB_W4.ts_hi]; omega
  have hValid : (F.UWB_STRB_W0.ts_lo n).addr ≠ (F.UWB_STRB_W4.valid n).addr := hHi
  have hword : (strobe s n ts).word (F.UWB_STRB_W0.ts_lo n).addr
      = (s.set (F.UWB_STRB_W0.ts_lo n) (capture s 5 ts).toNat).word (F.UWB_STRB_W0.ts_lo n).addr := by
    simp only [strobe, raiseSource_word, hUwb, if_true, State.modUwb_word, State.sets_cons, State.sets_nil,
      State.word_set_ne _ _ _ _ hValid, State.word_set_ne _ _ _ _ hHi]
  rw [State.get, hword]
  exact State.get_set_same s (F.UWB_STRB_W0.ts_lo n) _ rfl

/-- The first pattern of a sweep latches the store as the capture of S leaves it (R80, R84). -/
theorem patternLatch_first_pEff (s : State) (ts : Stmp) (vdrv : BitVec 8) {n : Nat} (hn : n < 12)
    (hstage : s.lf.stage = .sweep) (howner : lfOwner s = ownTxn) (hj : s.lf.nextJ = 0) (hk : 0 < s.lf.k)
    (hnpat : 0 < s.lf.npat) (hsweepCut : s.lf.sweepCut = false) (hover : s.lf.unitOver = false) (hcut : s.lf.cut = none)
    (hnoChal : s.lf.noChal = false) :
    (patternLatch s ts vdrv).lf.pEff.getD n 0
      = ((strobe s 1 ts).get (F.LF_VEC.phase s.lf.base n) + (strobe s 1 ts).get (F.LF_AER_CFG.trim n)) % 1024 := by
  have hgoes : sweepBoundary s = none := by simp [sweepBoundary, hover, hcut, hnoChal]
  have htake : takeCut s = s := by simp [takeCut, hcut]
  have hlatch : (patternLatch s ts vdrv).lf.pEff
      = (latchStore (trimRise ((strobe s 1 ts).set F.LF_TXN_STAT.j 0)) s.lf.base vdrv.toNat).lf.pEff := by
    simp [patternLatch, hstage, howner, hj, hk, hgoes, htake, State.modLf, trimRise_lf, strobe_lf, hnpat, hsweepCut]
  have hkept : ∀ f : Fld, 0x050100 ≤ f.addr →
      (trimRise ((strobe s 1 ts).set F.LF_TXN_STAT.j 0)).get f = (strobe s 1 ts).get f := by
    intro f hf
    simp only [State.get]
    rw [trimRise_word _ (by simp only [F.LF_TRIM.t]; omega) (by simp only [F.LF_STAT.trim]; omega),
      State.word_set_ne _ _ _ _ (by simp only [F.LF_TXN_STAT.j]; omega)]
  have hvec : 0x050100 ≤ (F.LF_VEC.phase s.lf.base n).addr := by simp only [F.LF_VEC.phase]; omega
  have hcfg : 0x050100 ≤ (F.LF_AER_CFG.trim n).addr := by simp only [F.LF_AER_CFG.trim]; omega
  rw [hlatch, ← hkept _ hvec, ← hkept _ hcfg]
  exact latchStore_pEff _ _ _ hn

/-- The word of aerial 2 in vector 1988, past the store's 64, is that of the timestamp of S. -/
theorem phase_vec1988 (s : State) :
    s.get (F.LF_VEC.phase 1988 2) = s.get (F.UWB_STRB_W0.ts_lo 1) / 2 ^ 16 % 2 ^ 10 := by
  have hword : s.get (F.UWB_STRB_W0.ts_lo 1) = (s.word 0x070108).toNat :=
    (congrArg (· % 2 ^ 32) (Nat.div_one _)).trans (Nat.mod_eq_of_lt (BitVec.isLt _))
  exact (congrArg (· / 2 ^ 16 % 2 ^ 10) hword).symm

/-- A sweep about to begin at vector 1988, with every register of the store and every trim 0. -/
def sweepPastStore : State :=
  { ({} : State).sets [(F.PWR_DOM_STAT.run, 2 ^ 7), (F.LF_STAT.owner, ownTxn)] with
    lf := { stage := .sweep, base := 1988, npat := 1, k := 1 } }

/-- An instant whose low word has 1 in the bits of a phase code. -/
def stampOfPhaseOne : Stmp := 0x10000

/-- The sweep past the store drives aerial 2 with phase 1, the bits of S's timestamp. -/
theorem patternLatch_sweepPastStore_pEff (vdrv : BitVec 8) :
    (patternLatch sweepPastStore stampOfPhaseOne vdrv).lf.pEff.getD 2 0 = 1 := by
  have htrim : (strobe sweepPastStore 1 stampOfPhaseOne).get (F.LF_AER_CFG.trim 2) = 0 := by decide +kernel
  have hstamp : (capture sweepPastStore 5 stampOfPhaseOne).toNat = 0x10000 := by decide +kernel
  have hts : (strobe sweepPastStore 1 stampOfPhaseOne).get (F.UWB_STRB_W0.ts_lo 1) = 0x10000 :=
    (strobe_ts_lo sweepPastStore 1 stampOfPhaseOne (by decide +kernel)).trans (congrArg (· % 2 ^ 32) hstamp)
  have hphase : (strobe sweepPastStore 1 stampOfPhaseOne).get (F.LF_VEC.phase 1988 2) = 1 :=
    (phase_vec1988 _).trans (congrArg (· / 2 ^ 16 % 2 ^ 10) hts)
  calc (patternLatch sweepPastStore stampOfPhaseOne vdrv).lf.pEff.getD 2 0
      = ((strobe sweepPastStore 1 stampOfPhaseOne).get (F.LF_VEC.phase 1988 2)
          + (strobe sweepPastStore 1 stampOfPhaseOne).get (F.LF_AER_CFG.trim 2)) % 1024 :=
        patternLatch_first_pEff sweepPastStore _ vdrv (by decide) rfl (by decide +kernel) rfl (by decide) (by decide) rfl rfl
          rfl rfl
    _ = (1 + 0) % 1024 := by rw [hphase, htrim]
    _ = 1 := rfl

/-- Refutes O24 at the clause of a pattern: nothing bounds the sweep's base, and with base 1988 the latch reads the timestamp that S
has just left in UWB_STRB, a word that held 0 before. No start sets such a base: `sweepOk` keeps a sweep within the store's 64
vectors. -/
theorem not_effectivePhase : ¬ Obligations.EffectivePhase := by
  unfold Obligations.EffectivePhase
  intro h
  obtain ⟨-, hpattern, -⟩ := h 0 0 0 0 stampOfPhaseOne 2 sweepPastStore (by decide)
  obtain ⟨t, ht, hphase⟩ := hpattern (by decide +kernel) rfl (by decide) (by decide) rfl rfl rfl rfl
  have hasked : (sweepPastStore.get (F.LF_VEC.phase 1988 2) + sweepPastStore.get (F.LF_AER_CFG.trim 2)) % 1024 = 0 := by
    decide +kernel
  obtain rfl : patternLatch sweepPastStore stampOfPhaseOne 0 = t := Host.Outcome.next.inj ht
  have hzero : (patternLatch sweepPastStore stampOfPhaseOne 0).lf.pEff.getD 2 0 = 0 := hphase.trans hasked
  rw [patternLatch_sweepPastStore_pEff] at hzero
  exact Nat.one_ne_zero hzero

end Sys2Proof.Machine

namespace Sys2Proof.Machine

/-! R171 and R172: the two containment tests, and the paddock a point is assigned. The paddocks that contain a point stand in a list
sorted by index (`containing`); the assignment runs along it and moves on for a higher priority only, so it ends at the lowest index
of the highest priority. -/

/-- The box test (R171). -/
theorem partHas_box {s : State} {p q : Nat} (x y z : Int) (husable : partUsable s p q = true) (hbox : isEllipsoid s p q = false) :
    partHas s p q [x, y, z] = true ↔ (partLo s p q 0 ≤ x ∧ x ≤ partHi s p q 0) ∧ (partLo s p q 1 ≤ y ∧ y ≤ partHi s p q 1)
      ∧ (partLo s p q 2 ≤ z ∧ z ≤ partHi s p q 2) := by
  have haxes : List.range 3 = [0, 1, 2] := rfl
  simp only [partHas, husable, hbox, haxes, pt, List.getD_cons_zero, List.getD_cons_succ, List.all_cons, List.all_nil,
    Bool.false_eq_true, if_false, Bool.true_and, Bool.and_true, Bool.and_eq_true, decide_eq_true_eq]

/-- The ellipsoid test (R171). -/
theorem partHas_ellipsoid {s : State} {p q : Nat} (x y z : Int) (husable : partUsable s p q = true)
    (hell : isEllipsoid s p q = true) :
    partHas s p q [x, y, z] = true ↔
      ((x - partLo s p q 0) * partHi s p q 1 * partHi s p q 2) ^ 2 + ((y - partLo s p q 1) * partHi s p q 0 * partHi s p q 2) ^ 2
        + ((z - partLo s p q 2) * partHi s p q 0 * partHi s p q 1) ^ 2 ≤ (partHi s p q 0 * partHi s p q 1 * partHi s p q 2) ^ 2 := by
  simp only [partHas, husable, hell, pt, mapAxes, List.getD_cons_zero, List.getD_cons_succ, if_true, Bool.true_and,
    decide_eq_true_eq]

/-- The parts of one paddock that are used and contain points (R173). -/
def partsOf (s : State) (p : Nat) : List (Nat × Nat) :=
  if paddockUsed s p then
    (List.range (s.get (F.SOLV_PAD_W0.nparts p))).filterMap fun q => if partUsable s p q then some (p, q) else none
  else []

theorem usedParts_eq (s : State) : usedParts s = (List.range 24).flatMap (partsOf s) := rfl

theorem fst_of_mem_partsOf {s : State} {p : Nat} {e : Nat × Nat} (h : e ∈ partsOf s p) : e.1 = p := by
  unfold partsOf at h
  split at h
  · obtain ⟨q, -, hq⟩ := List.mem_filterMap.1 h
    split at hq
    · exact congrArg Prod.fst (Option.some.inj hq).symm
    · cases hq
  · cases h

theorem fst_lt_of_mem_usedParts {s : State} {e : Nat × Nat} (h : e ∈ usedParts s) : e.1 < 24 := by
  obtain ⟨p, hp, he⟩ := List.mem_flatMap.1 (usedParts_eq s ▸ h)
  exact fst_of_mem_partsOf he ▸ List.mem_range.1 hp

/-- The used parts stand in the order of their paddocks. -/
theorem usedParts_sorted (s : State) : (usedParts s).Pairwise (·.1 ≤ ·.1) := by
  rw [usedParts_eq, List.pairwise_flatMap]
  constructor
  · intro p _
    exact List.pairwise_of_forall_mem_list fun a ha b hb =>
      Nat.le_of_eq ((fst_of_mem_partsOf ha).trans (fst_of_mem_partsOf hb).symm)
  · refine List.pairwise_lt_range.imp fun {i j} hij a ha b hb => ?_
    rw [fst_of_mem_partsOf ha, fst_of_mem_partsOf hb]
    exact Nat.le_of_lt hij

/-- The paddocks of the used parts that contain a point, one entry a part. -/
def containing (s : State) (x : List Int) : List Nat :=
  ((usedParts s).filter fun e => partHas s e.1 e.2 x).map (·.1)

/-- A used paddock contains a point when one of its parts does. -/
theorem mem_containing {s : State} {x : List Int} {p : Nat} :
    p ∈ containing s x ↔ (usedParts s).any (fun e => e.1 == p && partHas s p e.2 x) = true := by
  simp only [containing, List.mem_map, List.mem_filter, List.any_eq_true, Bool.and_eq_true, beq_iff_eq]
  constructor
  · rintro ⟨e, ⟨he, hhas⟩, rfl⟩
    exact ⟨e, he, rfl, hhas⟩
  · rintro ⟨e, he, rfl, hhas⟩
    exact ⟨e, ⟨he, hhas⟩, rfl⟩

theorem containing_sorted (s : State) (x : List Int) : (containing s x).Pairwise (· ≤ ·) :=
  List.pairwise_map.2 ((usedParts_sorted s).filter _)

theorem lt_of_mem_containing {s : State} {x : List Int} {p : Nat} (h : p ∈ containing s x) : p < 24 := by
  obtain ⟨e, he, rfl⟩ := List.mem_map.1 h
  exact fst_lt_of_mem_usedParts (List.mem_filter.1 he).1

/-- A run along a sorted list that moves on for a higher value only ends at the lowest entry of the highest value. -/
theorem foldl_higher_eq (f : Nat → Nat) (p : Nat) (l : List Nat) (a : Nat) (hsorted : (a :: l).Pairwise (· ≤ ·)) (hp : p ∈ a :: l)
    (hbest : ∀ k ∈ a :: l, f k < f p ∨ (f k = f p ∧ p ≤ k)) : l.foldl (fun a b => if f a < f b then b else a) a = p := by
  induction l generalizing a with
  | nil => exact (List.mem_singleton.1 hp).symm
  | cons b l ih =>
    have ha := hbest a (by simp)
    have hb := hbest b (by simp)
    have hab : a ≤ b := List.rel_of_pairwise_cons hsorted (by simp)
    rw [List.foldl_cons]
    split
    next hhigher =>
      have hpa : p ≠ a := by rintro rfl; omega
      exact ih b hsorted.of_cons (List.mem_of_ne_of_mem hpa hp) fun k hk => hbest k (List.mem_cons_of_mem a hk)
    next hkept =>
      have hpb : p = b → p = a := by rintro rfl; omega
      have hsub : (a :: l).Sublist (a :: b :: l) := (List.sublist_cons_self b l).cons_cons a
      refine ih a (hsorted.sublist hsub) ?_ fun k hk => hbest k (hsub.subset hk)
      rw [List.mem_cons, List.mem_cons] at hp
      rcases hp with hpa | hpb' | hpl
      · exact List.mem_cons.2 (.inl hpa)
      · exact List.mem_cons.2 (.inl (hpb hpb'))
      · exact List.mem_cons_of_mem a hpl

/-- A point that no used paddock contains is given none (R172). -/
theorem assignPad_of_containing_nil {s : State} {x : List Int} (h : containing s x = []) : assignPad s x = 0xFF := by
  unfold containing at h
  simp only [assignPad, h]

theorem assignPad_of_containing_cons {s : State} {x : List Int} {p : Nat} {l : List Nat} (h : containing s x = p :: l) :
    assignPad s x = l.foldl (fun a b => if s.get (F.SOLV_PAD_W0.prio a) < s.get (F.SOLV_PAD_W0.prio b) then b else a) p := by
  unfold containing at h
  simp only [assignPad, h]

/-- The highest priority is assigned, the lowest index among equals (R172). -/
theorem assignPad_of_highest {s : State} {x : List Int} {p : Nat} (hp : p ∈ containing s x)
    (hbest : ∀ k ∈ containing s x, s.get (F.SOLV_PAD_W0.prio k) < s.get (F.SOLV_PAD_W0.prio p)
      ∨ (s.get (F.SOLV_PAD_W0.prio k) = s.get (F.SOLV_PAD_W0.prio p) ∧ p ≤ k)) :
    assignPad s x = p := by
  have hsorted := containing_sorted s x
  obtain ⟨a, l, hl⟩ := List.exists_cons_of_ne_nil (List.ne_nil_of_mem hp)
  rw [hl] at hsorted hp hbest
  exact (assignPad_of_containing_cons hl).trans
    (foldl_higher_eq (fun k => s.get (F.SOLV_PAD_W0.prio k)) p l a hsorted hp hbest)

/-- Settles O33: each test is `partHas` unfolded at a box or an ellipsoid, and the assignment is the run along the sorted list of the
paddocks that contain the point. -/
theorem paddockAssignment : Obligations.PaddockAssignment := by
  unfold Obligations.PaddockAssignment
  intro x y z p q s
  refine ⟨partHas_box x y z, partHas_ellipsoid x y z, fun hnone => ?_, fun _ hp hbest => ?_⟩
  · have hnil : containing s [x, y, z] = [] := List.eq_nil_iff_forall_not_mem.2 fun k hk =>
      hnone k (lt_of_mem_containing hk) (mem_containing.1 hk)
    exact assignPad_of_containing_nil hnil
  · exact assignPad_of_highest (mem_containing.2 hp) fun k hk => hbest k (lt_of_mem_containing hk) (mem_containing.1 hk)

end Sys2Proof.Machine

namespace Sys2Proof.Machine

/-! R405: what a power domain's switch keeps. A release starts the domain's blocks and a power-off resets them, and neither touches
the record of the domain nor the word of PWR_DOM_STAT. `PowerView` is what those two are read from; every operation that a switch runs
keeps it, so what is left to say is what the switch itself writes. -/

/-! The cells of one address. A reset of a range drops the cells of value 0, so a store that lists one would show what stands behind
it; a cell just written is none. -/

/-- The entries of a store at one address. -/
def Store.cellsAt {w : Nat} (m : Store w) (a : Nat) : Store w := m.filter fun e => decide (e.1 = a)

theorem Store.cellsAt_cons {w : Nat} (b a : Nat) (v : BitVec w) (t : Store w) :
    Store.cellsAt ((b, v) :: t) a = if b = a then (b, v) :: Store.cellsAt t a else Store.cellsAt t a := by
  by_cases h : b = a <;> simp [Store.cellsAt, h]

theorem Store.get_cellsAt {w : Nat} (m : Store w) (a : Nat) : Store.get (Store.cellsAt m a) a = Store.get m a := by
  induction m with
  | nil => rfl
  | cons e t ih =>
    rw [Store.cellsAt_cons, Store.get_cons]
    split
    next h => rw [Store.get_cons, if_pos h]
    next => exact ih

theorem Store.cellsAt_erase_ne {w : Nat} (m : Store w) {a b : Nat} (h : b ≠ a) :
    Store.cellsAt (Store.erase m b) a = Store.cellsAt m a := by
  rw [Store.erase_eq_filter, Store.cellsAt, List.filter_filter]
  refine List.filter_congr fun e _ => ?_
  by_cases he : e.1 = a
  · simp [he, Ne.symm h]
  · simp [he]

theorem Store.cellsAt_insert_ne {w : Nat} (m : Store w) {a b : Nat} (v : BitVec w) (h : b ≠ a) :
    Store.cellsAt (Store.insert m b v) a = Store.cellsAt m a := by
  induction m with
  | nil => exact (Store.cellsAt_cons b a v []).trans (if_neg h)
  | cons e t ih =>
    unfold Store.insert
    split
    · rw [Store.cellsAt_cons, if_neg h]
    · rw [Store.cellsAt_cons, Store.cellsAt_cons, ih]

theorem Store.cellsAt_put_ne {w : Nat} (m : Store w) {a b : Nat} (v : BitVec w) (h : b ≠ a) :
    Store.cellsAt (Store.put m b v) a = Store.cellsAt m a := by
  unfold Store.put
  split
  · exact Store.cellsAt_erase_ne m h
  · rw [Store.cellsAt_insert_ne _ v h, Store.cellsAt_erase_ne m h]

theorem Store.cellsAt_clear {w : Nat} (m : Store w) {lo n a : Nat} (h : a < lo ∨ lo + n ≤ a) :
    Store.cellsAt (Store.clear m lo n) a = Store.cellsAt m a := by
  rw [Store.clear, Store.cellsAt, List.filter_filter]
  refine List.filter_congr fun e _ => ?_
  by_cases he : e.1 = a
  · simp [he, h]
  · simp [he]

theorem Store.mapCells_cons {w : Nat} (b : Nat) (v : BitVec w) (t : Store w) (f : Nat → BitVec w → BitVec w) :
    Store.mapCells ((b, v) :: t) f = if f b v = 0 then Store.mapCells t f else (b, f b v) :: Store.mapCells t f := by
  simp only [Store.mapCells, List.map_cons, List.filter_cons, decide_eq_true_eq, ne_eq, ite_not]

/-- A change of cells that leaves those of one address alone. -/
theorem Store.cellsAt_mapCells {w : Nat} (m : Store w) (f : Nat → BitVec w → BitVec w) {a : Nat} (hf : ∀ v, f a v = v)
    (hz : ∀ e ∈ Store.cellsAt m a, e.2 ≠ 0) : Store.cellsAt (Store.mapCells m f) a = Store.cellsAt m a := by
  induction m with
  | nil => rfl
  | cons e t ih =>
    obtain ⟨b, v⟩ := e
    rw [Store.mapCells_cons, Store.cellsAt_cons]
    rw [Store.cellsAt_cons] at hz
    by_cases h : b = a
    · subst h
      rw [if_pos rfl, List.forall_mem_cons] at hz
      obtain ⟨hv, ht⟩ := hz
      rw [hf, if_neg hv, Store.cellsAt_cons, if_pos rfl, if_pos rfl, ih ht]
    · rw [if_neg h] at hz ⊢
      split
      · exact ih hz
      · rw [Store.cellsAt_cons, if_neg h, ih hz]

theorem Store.mem_insert {w : Nat} {m : Store w} {a : Nat} {v : BitVec w} {e : Nat × BitVec w} (h : e ∈ Store.insert m a v) :
    e = (a, v) ∨ e ∈ m := by
  induction m with
  | nil => exact .inl (List.mem_singleton.1 h)
  | cons x t ih =>
    unfold Store.insert at h
    split at h
    · exact List.mem_cons.1 h
    · rcases List.mem_cons.1 h with rfl | ht
      · exact .inr List.mem_cons_self
      · exact (ih ht).imp_right (List.mem_cons_of_mem x)

/-- The cell just written is not 0: writing 0 leaves none. -/
theorem Store.cellsAt_put_same_ne_zero {w : Nat} (m : Store w) (a : Nat) (v : BitVec w) :
    ∀ e ∈ Store.cellsAt (Store.put m a v) a, e.2 ≠ 0 := by
  intro e he
  obtain ⟨hmem, ha⟩ := List.mem_filter.1 he
  have hno : e ∉ Store.erase m a := fun h => Store.erase_ne m a e h (of_decide_eq_true ha)
  unfold Store.put at hmem
  split at hmem
  · exact absurd hmem hno
  next hv =>
    rcases Store.mem_insert hmem with rfl | h
    · exact hv
    · exact absurd h hno

/-- A reset of registers leaves the word of an address outside its range alone. -/
theorem cellsAt_resetRange (m : Store 32) {lo n a : Nat} (p : FRow → Bool) (hout : a < lo ∨ lo + n ≤ a)
    (hz : ∀ e ∈ Store.cellsAt m a, e.2 ≠ 0) : Store.cellsAt (resetRange m lo n p) a = Store.cellsAt m a := by
  have hnot : (decide (lo ≤ a) && decide (a < lo + n)) = false := by
    rw [Bool.and_eq_false_iff, decide_eq_false_iff_not, decide_eq_false_iff_not]; omega
  unfold resetRange
  refine (foldl_keeps (Store.cellsAt · a) _ (fun m i => ?_) _ _).trans
    (Store.cellsAt_mapCells m _ (fun v => if_neg (by simp [hnot])) hz)
  refine foldl_keeps (Store.cellsAt · a) _ (fun m r => ?_) _ _
  refine List.foldlRecOn _ _ (motive := fun t => Store.cellsAt t a = Store.cellsAt m a) rfl fun t ht b hb => ?_
  have hba : b ≠ a := by
    rintro rfl
    exact Bool.false_ne_true (hnot.symm.trans (List.mem_filter.1 hb).2)
  exact (Store.cellsAt_put_ne t _ hba).trans ht

/-! The view, and what the basic updates do to it. -/

/-- What the switching of a domain reads of a state: how many domains have a record, the domain's record, and the cells of
PWR_DOM_STAT. -/
structure PowerView where
  domains : Nat
  dom : DomState
  stat : Store 32

/-- The view of a state's registers and domain records. -/
def PowerView.of (d : Nat) (regs : Store 32) (doms : List DomState) : PowerView :=
  { domains := doms.length, dom := doms.getD d {}, stat := Store.cellsAt regs F.PWR_DOM_STAT.run.addr }

def powerView (d : Nat) (s : State) : PowerView := .of d s.regs s.doms

/-- No cell of PWR_DOM_STAT is listed with value 0. -/
def PowerView.NoZero (v : PowerView) : Prop := ∀ e ∈ v.stat, e.2 ≠ 0

section
variable {d : Nat} {s t : State}

/-- The view of a state written out; with `PowerView.of_state` the view goes through an update of other fields. -/
theorem powerView_mk {regs fuses fuseSerial fuseKey aonTs msAcc ctr keys ciph rng loft doms man yard feed eng tally sess poll rst host lf
    uhf uwb txn solv hlth tap verdPulse pending} :
    powerView d (State.mk regs fuses fuseSerial fuseKey aonTs msAcc ctr keys ciph rng loft doms man yard feed eng tally sess poll rst
      host lf uhf uwb txn solv hlth tap verdPulse pending) = .of d regs doms := by rw [powerView]

theorem PowerView.of_state : PowerView.of d s.regs s.doms = powerView d s := by rw [powerView]

theorem length_doms_of_powerView (h : powerView d t = powerView d s) : t.doms.length = s.doms.length :=
  congrArg PowerView.domains h

theorem dom_of_powerView (h : powerView d t = powerView d s) : t.doms.getD d {} = s.doms.getD d {} := congrArg PowerView.dom h

theorem get_of_powerView (h : powerView d t = powerView d s) {f : Fld} (hf : f.addr = F.PWR_DOM_STAT.run.addr) :
    t.get f = s.get f := by
  have hstat : Store.cellsAt t.regs F.PWR_DOM_STAT.run.addr = Store.cellsAt s.regs F.PWR_DOM_STAT.run.addr :=
    congrArg PowerView.stat h
  have hword : t.word f.addr = s.word f.addr := by
    rw [hf, State.word, State.word, ← Store.get_cellsAt t.regs, hstat, Store.get_cellsAt]
  rw [State.get, State.get, hword]

theorem domOn_of_powerView (h : powerView d t = powerView d s) : domOn t d = domOn s d := by
  rw [domOn, domOn, State.bitAt, State.bitAt, get_of_powerView h rfl]

theorem powered_of_powerView (h : powerView d t = powerView d s) : powered t d = powered s d := by
  have hpg : t.get F.PWR_DOM_STAT.pg = s.get F.PWR_DOM_STAT.pg := get_of_powerView h rfl
  rw [powered, powered, State.bitAt, State.bitAt, hpg]

theorem powerView_setWord {a : Nat} {v : Word} (h : a ≠ F.PWR_DOM_STAT.run.addr) :
    powerView d (s.setWord a v) = powerView d s := by
  simp only [powerView, PowerView.of, State.setWord, Store.cellsAt_put_ne _ _ h]

theorem powerView_set {f : Fld} {v : Nat} (h : f.addr ≠ F.PWR_DOM_STAT.run.addr) : powerView d (s.set f v) = powerView d s :=
  powerView_setWord h

theorem powerView_zero {a n : Nat} (h : F.PWR_DOM_STAT.run.addr < a) : powerView d (s.zero a n) = powerView d s := by
  simp only [powerView, PowerView.of, State.zero, Store.cellsAt_clear _ (.inl h)]

/-- A field of PWR_DOM_STAT just written leaves no cell of value 0. -/
theorem powerView_set_noZero {f : Fld} {v : Nat} (hf : f.addr = F.PWR_DOM_STAT.run.addr) : (powerView d (s.set f v)).NoZero := by
  unfold PowerView.NoZero powerView PowerView.of State.set State.setWord
  rw [hf]
  exact Store.cellsAt_put_same_ne_zero _ _ _

theorem powerView_setDom_ne {e : Nat} {p : DomState} (h : e ≠ d) : powerView d (setDom s e p) = powerView d s := by
  simp [powerView, PowerView.of, setDom, List.getD_eq_getElem?_getD, List.getElem?_set_ne h]

/-- A switch-on asked of another domain. -/
theorem powerView_domWant_ne {e : Nat} (h : e ≠ d) : powerView d (domWant s e) = powerView d s := by
  unfold domWant
  dsimp only
  split
  · exact powerView_setDom_ne h
  · exact powerView_setDom_ne h
  · rfl

theorem powerView_foldl {β : Type} {f : State → β → State} (h : ∀ s b, powerView d (f s b) = powerView d s) (l : List β) :
    powerView d (l.foldl f s) = powerView d s := foldl_keeps (powerView d) f h l s

/-! The manger and calibration (R93, R414). -/

theorem powerView_latchVec (a : List AerIn) (vcomp : Bool) (vref vdrv : Nat) :
    powerView d (latchVec s a vcomp vref vdrv) = powerView d s := by
  simp (disch := decide) only [latchVec, unitBegin, setVdrv, State.modLf, State.put_eq, powerView_mk, PowerView.of_state,
    powerView_set]

theorem powerView_calBegin : powerView d (calBegin s) = powerView d s := by
  unfold calBegin
  split
  · simp only [calLatch, State.modLf, powerView_mk, PowerView.of_state, powerView_latchVec]
  · rfl

theorem powerView_set_grant (r v : Nat) : powerView d (s.set (F.PWR_REQ.grant r) v) = powerView d s :=
  powerView_set (by simp only [F.PWR_REQ.grant, F.PWR_DOM_STAT.run]; omega)

theorem powerView_set_reqState (r v : Nat) : powerView d (s.set (F.PWR_REQ.state r) v) = powerView d s :=
  powerView_set (by simp only [F.PWR_REQ.state, F.PWR_DOM_STAT.run]; omega)

theorem powerView_manTry (r : Nat) : powerView d (manTry s r) = powerView d s := by
  have hgive : ∀ (u : State) (g : Nat) (m : ManState),
      powerView d { (u.set (F.PWR_REQ.grant r) g).set (F.PWR_REQ.state r) 2 with man := m } = powerView d u := fun u g m => by
    rw [powerView_mk, PowerView.of_state, powerView_set_reqState, powerView_set_grant]
  have hpartial : powerView d (s.bump F.PWR_MGR_CNT.partial_) = powerView d s := powerView_set (by decide)
  unfold manTry
  dsimp only
  split
  · split
    · rw [powerView_calBegin, hgive]
    · rw [hgive]
  · split
    · split
      · rw [powerView_calBegin, hgive, hpartial]
      · rw [hgive, hpartial]
    · rfl

theorem powerView_manAllocate : powerView d (manAllocate s) = powerView d s := powerView_foldl (fun _ r => powerView_manTry r) _

/-! Receivers, the timestamp counter, the bank balls, the host link. -/

theorem powerView_setRx (u1 : Bool) (v : Nat) : powerView d (setRx s u1 v) = powerView d s := by
  cases u1 <;> simp (disch := decide) [setRx, powerView_set]

theorem powerView_settleRx : powerView d (settleRx s) = powerView d s := (powerView_setRx true _).trans (powerView_setRx false _)

theorem rangingOpen_of_txn_eq (h : t.txn = s.txn) : rangingOpen t = rangingOpen s := by
  rw [rangingOpen, rangingOpen, h]

/-- With no transaction open a cleared counter cuts no ranging (R123). -/
theorem counterClear_of_closed (h : s.txn.open_ = false) : counterClear s
    = ((s.modUwb fun u => { u with stmp := 0, tscalRun := false, exch := none }).set F.UWB_STAT.ts_ready 0).set F.UWB_TSCAL.valid 0 := by
  refine if_neg fun hcuts => ?_
  have hopen : rangingOpen s = true := (rangingOpen_of_txn_eq (by rw [State.set_txn, State.set_txn, State.modUwb])).symm.trans hcuts.2
  rw [rangingOpen, h] at hopen
  exact Bool.false_ne_true hopen

theorem powerView_counterClear (h : s.txn.open_ = false) : powerView d (counterClear s) = powerView d s := by
  rw [counterClear_of_closed h]
  simp (disch := decide) only [State.modUwb, powerView_set, powerView_mk, PowerView.of_state]

theorem powerView_hostLose : powerView d (hostLose s) = powerView d s := by
  simp (disch := decide) [hostLose, hostUnbind, powerView_set, powerView_mk, PowerView.of_state]

theorem powerView_linkReady : powerView d (linkReady s) = powerView d s := by
  simp (disch := decide) only [linkReady, State.sets_cons, State.sets_nil, powerView_set, powerView_mk, PowerView.of_state,
    powerView_hostLose]

theorem powerView_aerTake (lfb : Bool) : powerView d (aerTake s lfb) = powerView d s := rfl

theorem powerView_aerFuse (lfb : Bool) : powerView d (aerFuse s lfb) = powerView d s := rfl

/-! Operations that end (R267). -/

theorem powerView_raiseLine (e l : Nat) : powerView d (raiseLine s e l) = powerView d s := rfl

theorem powerView_set_echStatus (e v : Nat) : powerView d (s.set (F.CIPH_ECH_W4.status e) v) = powerView d s :=
  powerView_set (by simp only [F.CIPH_ECH_W4.status, F.PWR_DOM_STAT.run]; omega)

theorem powerView_set_derStatus (e v : Nat) : powerView d (s.set (F.KEYS_DER_W28.status e) v) = powerView d s :=
  powerView_set (by simp only [F.KEYS_DER_W28.status, F.PWR_DOM_STAT.run]; omega)

theorem powerView_set_derResult (e v : Nat) : powerView d (s.set (F.KEYS_DER_W28.result e) v) = powerView d s :=
  powerView_set (by simp only [F.KEYS_DER_W28.result, F.PWR_DOM_STAT.run]; omega)

theorem powerView_set_pchStatus (c v : Nat) : powerView d (s.set (F.CIPH_PCH.status c) v) = powerView d s :=
  powerView_set (by simp only [F.CIPH_PCH.status, F.PWR_DOM_STAT.run]; omega)

theorem powerView_zero_echOut (e n : Nat) : powerView d (s.zero (F.CIPH_ECH_W20.out e 0).addr n) = powerView d s :=
  powerView_zero (by simp only [F.CIPH_ECH_W20.out, F.PWR_DOM_STAT.run]; omega)

theorem powerView_setEchStatus (e st : Nat) : powerView d (setEchStatus s e st) = powerView d s := by
  unfold setEchStatus
  dsimp only
  split
  · rw [powerView_raiseLine, powerView_set_echStatus]
  · rw [powerView_set_echStatus]

theorem powerView_setDerStatus (e st : Nat) : powerView d (setDerStatus s e st) = powerView d s := by
  unfold setDerStatus
  dsimp only
  split
  · rw [powerView_raiseLine, powerView_set_derStatus]
  · rw [powerView_set_derStatus]

theorem powerView_dropOp (u : KeyUser) : powerView d (dropOp s u) = powerView d s := rfl

theorem powerView_noteEnded_setPchStatus (c : Nat) (u : KeyUser) (st : Nat) :
    powerView d (noteEnded (setPchStatus s c st) u st) = powerView d s := powerView_set_pchStatus c _

theorem powerView_endOp (u : KeyUser) (st : Nat) : powerView d (endOp s u st) = powerView d s := by
  have hdrop : ∀ v : KeyUser, powerView d (dropOp s v) = powerView d s := powerView_dropOp
  match u with
  | .ech e => exact (powerView_setEchStatus e st).trans ((powerView_zero_echOut e 4).trans (hdrop _))
  | .der e => exact (powerView_setDerStatus e st).trans ((powerView_set_derResult e 0).trans (hdrop _))
  | .verd =>
    unfold endOp
    dsimp only
    split
    · exact hdrop .verd
    · exact hdrop .verd
  | .hauth => exact (powerView_noteEnded_setPchStatus 0 _ st).trans (hdrop _)
  | .rcode => exact (powerView_noteEnded_setPchStatus 1 _ st).trans (hdrop _)
  | .seal k => exact (powerView_noteEnded_setPchStatus 2 _ st).trans (hdrop _)
  | .exp =>
    simp (disch := decide) only [endOp, powerView_mk, PowerView.of_state, powerView_set]
    rw [powerView_foldl, hdrop]
    intro u h
    rw [powerView_mk, PowerView.of_state]

theorem powerView_endAllOps (st : Nat) : powerView d (endAllOps s st) = powerView d s :=
  powerView_foldl (fun _ (o : CoreOp) => powerView_endOp o.who st) _

theorem powerView_userStatus (u : KeyUser) (st : Nat) : powerView d (userStatus s u st) = powerView d s := by
  match u with
  | .ech e => exact powerView_set_echStatus e st
  | .der e => exact powerView_set_derStatus e st
  | .verd => rfl
  | .hauth => exact powerView_set_pchStatus 0 st
  | .rcode => exact powerView_set_pchStatus 1 st
  | .seal k => exact powerView_set_pchStatus 2 st
  | .exp => exact powerView_set (by decide)

/-! What a domain's blocks lose with their supply (R404). -/

/-- The ranges that power-offs reset leave PWR_DOM_STAT out. -/
theorem domRanges_apart (e : Nat) : ∀ r ∈ domRanges e, F.PWR_DOM_STAT.run.addr < r.1 ∨ r.1 + r.2 ≤ F.PWR_DOM_STAT.run.addr := by
  unfold domRanges
  split <;> decide

theorem powerView_resetRanges (e : Nat) (p : FRow → Bool) (hz : (powerView d s).NoZero) :
    powerView d (resetRanges s (domRanges e) p) = powerView d s := by
  have hstat : Store.cellsAt (resetRanges s (domRanges e) p).regs F.PWR_DOM_STAT.run.addr
      = Store.cellsAt s.regs F.PWR_DOM_STAT.run.addr := by
    refine List.foldlRecOn _ _ (motive := fun m => Store.cellsAt m F.PWR_DOM_STAT.run.addr
      = Store.cellsAt s.regs F.PWR_DOM_STAT.run.addr) rfl fun m hm r hr => ?_
    exact (cellsAt_resetRange m p (domRanges_apart e r hr) (hm ▸ hz)).trans hm
  exact congrArg (PowerView.mk s.doms.length (s.doms.getD d {})) hstat

theorem powerView_tackLose (hz : (powerView d s).NoZero) : powerView d (tackLose s) = powerView d s := by
  have hends : powerView d (wipeSlots (endAllOps s stCut)) = powerView d s := powerView_endAllOps stCut
  have hwords : ∀ u : State, powerView d ((List.range 6).foldl (fun t n => t.set (F.KEYS_WOUT.w n) 0) u) = powerView d u :=
    fun u => powerView_foldl (fun _ n => powerView_set (by simp only [F.KEYS_WOUT.w, F.PWR_DOM_STAT.run]; omega)) _
  unfold tackLose
  dsimp only
  rw [hwords, powerView_foldl (fun _ u => powerView_userStatus u stCut), powerView_mk, PowerView.of_state,
    powerView_resetRanges 3 offScope (hends ▸ hz), hends]

theorem powerView_rngLose (keep : RngUser → Bool) : powerView d (rngLose s keep) = powerView d s := by
  simp (disch := decide) only [rngLose, State.sets_cons, State.sets_nil, powerView_mk, PowerView.of_state, powerView_set,
    powerView_zero]

theorem powerView_storPowerOff : powerView d (storPowerOff s) = powerView d s := by
  simp (disch := decide) only [storPowerOff, powerView_mk, PowerView.of_state, powerView_set, powerView_zero]
  refine powerView_foldl (fun t q => ?_) _
  split
  · exact powerView_endOp (.seal q) stCut
  · rfl

theorem powerView_domLose (e : Nat) (htxn : s.txn.open_ = false) (hz : (powerView d s).NoZero) :
    powerView d (domLose s e) = powerView d s := by
  have hreset : powerView d (resetRanges s (domRanges e) offScope) = powerView d s := powerView_resetRanges e offScope hz
  by_cases h3 : e = 3
  · subst h3
    exact (powerView_rngLose _).trans (powerView_tackLose hz)
  unfold domLose
  dsimp only
  rw [if_neg h3]
  split
  · rw [powerView_mk, PowerView.of_state, hreset]
  · simp (disch := decide) only [powerView_set, powerView_mk, PowerView.of_state, hreset]
  · exact absurd rfl h3
  · rw [powerView_aerFuse, hreset]
  · rw [powerView_aerFuse, hreset]
  · rw [powerView_settleRx, powerView_mk, PowerView.of_state, hreset]
  · rw [powerView_mk, PowerView.of_state, powerView_counterClear (by exact htxn), hreset]
  · rw [powerView_mk, PowerView.of_state, powerView_hostLose, hreset]
  · rw [powerView_storPowerOff, hreset]
  · exact hreset

theorem powerView_clocksStop : powerView d (clocksStop s) = powerView d s := by
  refine powerView_foldl (fun t c => ?_) _
  split
  · rfl
  · exact powerView_set (by decide)

end

/-! A bit of a field: what writing it leaves, and that it reads back. -/

theorem State.putBit_doms (s : State) (f : Fld) (i : Nat) (b : Bool) : (s.putBit f i b).doms = s.doms := State.set_doms _ _ _

theorem State.putBit_txn (s : State) (f : Fld) (i : Nat) (b : Bool) : (s.putBit f i b).txn = s.txn := State.set_txn _ _ _

theorem bit_eq_testBit (n i : Nat) : bit n i = n.testBit i := by
  rw [bit, Nat.testBit_eq_decide_div_mod_eq]
  rfl

theorem bit_setBit_same (n i : Nat) : bit (setBit n i) i = true := by
  unfold setBit
  split
  · assumption
  next h =>
    rw [bit_eq_testBit] at h ⊢
    rw [Nat.add_comm, Nat.testBit_two_pow_add_eq, Bool.not_eq_true']
    exact Bool.eq_false_iff.2 h

theorem bit_clrBit_same (n i : Nat) : bit (clrBit n i) i = false := by
  unfold clrBit
  split
  next h =>
    rw [bit_eq_testBit] at h ⊢
    have hsplit : 2 ^ i + (n - 2 ^ i) = n := Nat.add_sub_cancel' (Nat.ge_two_pow_of_testBit h)
    rw [← hsplit, Nat.testBit_two_pow_add_eq, Bool.not_eq_true'] at h
    exact h
  next h => exact Bool.eq_false_iff.2 h

theorem State.bitAt_putBit_same (s : State) {f : Fld} {i : Nat} (b : Bool) (hfits : f.fits = true) (hi : i < f.len) :
    (s.putBit f i b).bitAt f i = b := by
  rw [State.bitAt, State.putBit, State.get_set_same _ _ _ hfits, bit_eq_testBit, Nat.testBit_mod_two_pow, decide_eq_true hi,
    Bool.true_and, ← bit_eq_testBit]
  cases b
  · exact bit_clrBit_same _ _
  · exact bit_setBit_same _ _

/-! The records of the domains (R405). -/

section
variable {d : Nat} {s : State}

theorem setDom_dom_same (p : DomState) (hd : d < s.doms.length) : (setDom s d p).doms.getD d {} = p := by
  simp [setDom, hd]

theorem setDom_length (p : DomState) : (setDom s d p).doms.length = s.doms.length := List.length_set ..

theorem domWant_of_switchOff (h : (s.doms.getD d {}).phase = .switchOff) :
    domWant s d = setDom s d { phase := .switchOff, held := true } := by
  simp only [domWant, h]

theorem domUnwant_of_on (h : (s.doms.getD d {}).phase = .on) : domUnwant s d = setDom s d { phase := .switchOff } := by
  simp only [domUnwant, h]

/-- A switch-off asked of a domain that is being switched on waits. -/
theorem domUnwant_of_rising (h : (s.doms.getD d {}).phase = .switchOn ∨ (s.doms.getD d {}).phase = .waitClock) :
    domUnwant s d = setDom s d { s.doms.getD d {} with held := true } := by
  rcases h with h | h <;> simp only [domUnwant, h]

/-! The release of a domain. -/

theorem powerView_seqNext : powerView d (seqNext s) = powerView d s := by
  unfold seqNext
  split
  · rw [powerView_mk, PowerView.of_state, powerView_set (by decide)]
  · rw [powerView_mk, PowerView.of_state]

/-- PD_SBY asks for banks only. -/
theorem powerView_burstBanks : powerView 1 (burstBanks s) = powerView 1 s := by
  unfold burstBanks
  split
  · dsimp only
    split <;> split <;> simp only [powerView_domWant_ne (show 4 ≠ 1 by decide), powerView_domWant_ne (show 5 ≠ 1 by decide)]
  · rfl

theorem powerView_domStart (htxn : s.txn.open_ = false) : powerView d (domStart s d) = powerView d s := by
  unfold domStart
  split
  · exact powerView_burstBanks
  · rw [powerView_set (by decide), powerView_mk, PowerView.of_state]
  · rw [powerView_calBegin]
    split
    · rw [powerView_aerTake]
    · rfl
  · rw [powerView_calBegin]
    split
    · rw [powerView_aerTake]
    · rfl
  · rw [powerView_manAllocate, powerView_settleRx]
  · rw [powerView_manAllocate, powerView_counterClear htxn]
  · exact powerView_linkReady
  · rfl

/-- A domain whose reset is released. -/
def resetReleased (s : State) (d : Nat) : State := (setDom s d { phase := .on }).putBit F.PWR_DOM_STAT.run d true

/-- What a release leaves before a switch-off that waited: blocks started, the sequence gone on. -/
def blocksStarted (s : State) (d : Nat) : State :=
  let t := domStart (resetReleased s d) d
  if seqDomain t = some d then seqNext t else t

theorem powerView_blocksStarted (htxn : s.txn.open_ = false) : powerView d (blocksStarted s d) = powerView d (resetReleased s d) := by
  have hopen : (resetReleased s d).txn.open_ = false := by
    rw [resetReleased, State.putBit_txn]
    exact htxn
  have hstart : powerView d (domStart (resetReleased s d) d) = powerView d (resetReleased s d) := powerView_domStart hopen
  unfold blocksStarted
  dsimp only
  split
  · rw [powerView_seqNext, hstart]
  · exact hstart

/-- A release whose switch-off waited ends with the domain on and its switch-off begun (R405). -/
theorem domRelease_of_held (hd : d < s.doms.length) (hd10 : d < 10) (htxn : s.txn.open_ = false)
    (hheld : (s.doms.getD d {}).held = true) :
    domOn (domRelease s d) d = true ∧ (domRelease s d).doms.getD d {} = { phase := .switchOff } := by
  have hview : powerView d (blocksStarted s d) = powerView d (resetReleased s d) := powerView_blocksStarted htxn
  have hdom : (blocksStarted s d).doms.getD d {} = { phase := .on } := by
    rw [dom_of_powerView hview, resetReleased, State.putBit_doms, setDom_dom_same _ hd]
  have hlen : d < (blocksStarted s d).doms.length := by
    rw [length_doms_of_powerView hview, resetReleased, State.putBit_doms, setDom_length]
    exact hd
  have hon : domOn (resetReleased s d) d = true := by
    rw [domOn, resetReleased, State.bitAt_putBit_same _ true (by decide) hd10, Bool.or_true]
  have heq : domRelease s d = setDom (blocksStarted s d) d { phase := .switchOff } :=
    (if_pos hheld).trans (domUnwant_of_on (congrArg DomState.phase hdom))
  rw [heq]
  exact ⟨(domOn_of_powerView hview).trans hon, setDom_dom_same _ hlen⟩

/-! POWER_GOOD (R403). -/

/-- A domain has power-good and its generators start. -/
def generatorsStart (s : State) (d : Nat) : State :=
  (setDom s d { s.doms.getD d {} with phase := .waitClock }).putBit F.PWR_DOM_STAT.pg d true

theorem generatorsStart_get {f : Fld} (h : F.PWR_DOM_STAT.pg.apart f = true) : (generatorsStart s d).get f = s.get f :=
  State.get_set_apart _ _ _ _ (by decide) h

theorem generatorsStart_domOn : domOn (generatorsStart s d) d = domOn s d := by
  rw [domOn, domOn, State.bitAt, State.bitAt, generatorsStart_get (by decide)]

theorem generatorsStart_dom (hd : d < s.doms.length) :
    (generatorsStart s d).doms.getD d {} = { s.doms.getD d {} with phase := .waitClock } := by
  rw [generatorsStart, State.putBit_doms, setDom_dom_same _ hd]

theorem generatorsStart_length : (generatorsStart s d).doms.length = s.doms.length := by
  rw [generatorsStart, State.putBit_doms, setDom_length]

theorem generatorsStart_txn : (generatorsStart s d).txn = s.txn := by
  rw [generatorsStart, State.putBit_txn]
  rfl

theorem generatorsStart_ownClock (e : Nat) : ownClock (generatorsStart s d) e = ownClock s e := by
  have hform : (generatorsStart s d).flag F.HOST_STAT.form = s.flag F.HOST_STAT.form := by
    rw [State.flag, State.flag, generatorsStart_get (by decide)]
  simp only [ownClock, hform]

theorem generatorsStart_good (k : Nat) : (generatorsStart s d).bitAt F.CLK_STAT.good k = s.bitAt F.CLK_STAT.good k := by
  rw [State.bitAt, State.bitAt, generatorsStart_get (by decide)]

end

section
variable {d : Fin 10} {s : State} (hphase : (s.doms.getD d {}).phase = .switchOn) (hrail : railUp s d = true)
  (hpf : ¬ (d.val = 9 ∧ s.loft.pf = true))
include hphase hrail hpf

/-- With its own clock good the domain is released. -/
theorem powerGood_of_good (hgood : ∀ k, ownClock s d = some k → s.bitAt F.CLK_STAT.good k = true) :
    powerGood s d = domRelease (generatorsStart s d) d := by
  unfold powerGood
  dsimp only
  rw [if_pos ⟨hphase, hrail, hpf⟩]
  split
  next k hk => exact if_pos ((generatorsStart_good k).trans (hgood k ((generatorsStart_ownClock d).symm.trans hk)))
  next => rfl

/-- Without its own clock the domain waits. -/
theorem powerGood_of_not_good {k : Nat} (hk : ownClock s d = some k) (hgood : s.bitAt F.CLK_STAT.good k = false) :
    powerGood s d = generatorsStart s d := by
  have hown : ownClock (generatorsStart s d) d = some k := (generatorsStart_ownClock d).trans hk
  unfold powerGood
  dsimp only
  rw [if_pos ⟨hphase, hrail, hpf⟩]
  split
  next c hc =>
    obtain rfl : c = k := Option.some.inj (hc.symm.trans hown)
    exact if_neg (Bool.eq_false_iff.1 ((generatorsStart_good c).trans hgood))
  next hnone => exact absurd (hnone.symm.trans hown) (Option.some_ne_none k).symm

end

/-! DOMAIN_OFF_PROCEED (R404, R405). -/

/-- A domain whose supply goes off. -/
def supplyOff (s : State) (d : Nat) : State := (s.putBit F.PWR_DOM_STAT.run d false).putBit F.PWR_DOM_STAT.pg d false

/-- What a power-off leaves before the domain's record: blocks lost, clocks stopped, grants given anew. -/
def blocksLost (s : State) (d : Nat) : State :=
  let t := clocksStop (domLose (supplyOff s d) d)
  if domOn t 2 then manAllocate t else t

theorem powerView_blocksLost {s : State} {d : Nat} (htxn : s.txn.open_ = false) :
    powerView d (blocksLost s d) = powerView d (supplyOff s d) := by
  have hopen : (supplyOff s d).txn.open_ = false := by
    rw [supplyOff, State.putBit_txn, State.putBit_txn]
    exact htxn
  have hlost : powerView d (clocksStop (domLose (supplyOff s d) d)) = powerView d (supplyOff s d) :=
    powerView_clocksStop.trans (powerView_domLose d hopen (powerView_set_noZero rfl))
  unfold blocksLost
  dsimp only
  split
  · rw [powerView_manAllocate, hlost]
  · exact hlost

theorem supplyOff_doms {s : State} {d : Nat} : (supplyOff s d).doms = s.doms := by
  rw [supplyOff, State.putBit_doms, State.putBit_doms]

theorem supplyOff_run {s : State} {d : Nat} (hd0 : d ≠ 0) (hd : d < 10) : domOn (supplyOff s d) d = false := by
  have hrun : (supplyOff s d).get F.PWR_DOM_STAT.run = (s.putBit F.PWR_DOM_STAT.run d false).get F.PWR_DOM_STAT.run :=
    State.get_set_apart _ _ _ _ (by decide) (by decide)
  rw [domOn, State.bitAt, hrun, ← State.bitAt, State.bitAt_putBit_same _ false (by decide) hd, Bool.or_false]
  exact beq_false_of_ne hd0

theorem supplyOff_pg {s : State} {d : Nat} (hd : d < 10) : powered (supplyOff s d) d = false :=
  State.bitAt_putBit_same _ false (by decide) hd

/-- A switch-off that has begun completes once the domain is quiet, and the switch-on that was held begins. -/
theorem domainOffProceed_completes {d : Fin 10} {s : State} (hlen : s.doms.length = 10) (hd0 : d.val ≠ 0)
    (htxn : s.txn.open_ = false) (hphase : (s.doms.getD d {}).phase = .switchOff) (hquiet : domQuiet s d = true) :
    domOn (domainOffProceed s d) d = false ∧ powered (domainOffProceed s d) d = false
      ∧ (domainOffProceed s d).doms.getD d {} = { phase := if (s.doms.getD d {}).held then .switchOn else .off } := by
  have hview : powerView d (blocksLost s d) = powerView d (supplyOff s d) := powerView_blocksLost htxn
  have hdom : (blocksLost s d).doms.getD d {} = s.doms.getD d {} := by rw [dom_of_powerView hview, supplyOff_doms]
  have hlt : d.val < (blocksLost s d).doms.length := by
    rw [length_doms_of_powerView hview, supplyOff_doms, hlen]
    exact d.isLt
  have heq : domainOffProceed s d
      = setDom (blocksLost s d) d { phase := if ((blocksLost s d).doms.getD d {}).held then .switchOn else .off } :=
    if_pos ⟨hphase, hquiet⟩
  rw [heq, hdom]
  exact ⟨(domOn_of_powerView hview).trans (supplyOff_run hd0 d.isLt), (powered_of_powerView hview).trans (supplyOff_pg d.isLt),
    setDom_dom_same _ hlt⟩

/-! The requests (R402, R405). -/

/-- DOMAIN_SWITCH_ON of a domain that is switching off is held. -/
theorem domainSwitchOn_of_switchOff {d : Fin 10} {s : State} (hd0 : d.val ≠ 0) (hphase : (s.doms.getD d {}).phase = .switchOff)
    (hstep : s.get F.RST_STAT.step = 11) (hcore : domOn s 2 = true) (hheld : s.bitAt F.RST_STAT.held d = false)
    (hpolicy : ¬ (s.yard.applied = true ∧ domPolicy s d = 2)) :
    domainSwitchOn s d = setDom s d { phase := .switchOff, held := true } :=
  (if_pos ⟨hd0, hstep, hcore, by rw [hheld]; exact Bool.false_ne_true, hpolicy⟩).trans (domWant_of_switchOff hphase)

/-- DOMAIN_SWITCH_OFF under policy OFF of a domain that is being switched on is held. -/
theorem domainSwitchOff_of_rising {d : Fin 10} {s : State}
    (hphase : (s.doms.getD d {}).phase = .switchOn ∨ (s.doms.getD d {}).phase = .waitClock) (hlo : 4 ≤ d.val) (hhi : d.val ≤ 7)
    (happlied : s.yard.applied = true) (hpolicy : domPolicy s d = 2) :
    domainSwitchOff s d = setDom s d { s.doms.getD d {} with held := true } := by
  have hallowed : offAllowed s d = true := by simp [offAllowed, hlo, hhi, happlied, hpolicy]
  have hnotOn : (s.doms.getD d {}).phase ≠ .on := by rcases hphase with h | h <;> rw [h] <;> decide
  rw [domainSwitchOff, if_pos hallowed, offRequest, if_neg hnotOn, domUnwant_of_rising hphase]

/-- Settles O42: the requests write the domain's record and nothing else, a power-off and a release keep what a switch reads
(`PowerView`), so each ends with what it writes itself. -/
theorem heldSwitches : Obligations.HeldSwitches := by
  unfold Obligations.HeldSwitches
  intro d s hlen hd htxn
  have hd0 : d.val ≠ 0 := fun h => hd (Fin.ext h)
  have hlt : d.val < s.doms.length := Nat.lt_of_lt_of_eq d.isLt hlen.symm
  refine ⟨?_, ?_, ?_, ?_, ?_, ?_⟩
  · rintro hphase ⟨hstep, hcore, hheld, hpolicy⟩
    refine ⟨_, congrArg Host.Outcome.next (domainSwitchOn_of_switchOff hd0 hphase hstep hcore hheld hpolicy), rfl, ?_⟩
    exact setDom_dom_same _ hlt
  · intro hphase hquiet hheld
    obtain ⟨hrun, hpg, hdom⟩ := domainOffProceed_completes hlen hd0 htxn hphase hquiet
    rw [hheld] at hdom
    exact ⟨_, rfl, ⟨hrun, hpg⟩, hdom⟩
  · intro hphase hquiet hheld
    obtain ⟨hrun, hpg, hdom⟩ := domainOffProceed_completes hlen hd0 htxn hphase hquiet
    rw [hheld] at hdom
    exact ⟨_, rfl, ⟨hrun, hpg⟩, hdom⟩
  · intro hphase hlo hhi happlied hpolicy
    refine ⟨_, congrArg Host.Outcome.next (domainSwitchOff_of_rising hphase hlo hhi happlied hpolicy), rfl, ?_⟩
    exact setDom_dom_same _ hlt
  · intro hphase hheld hrail hpf hgood _
    refine ⟨_, congrArg Host.Outcome.next (powerGood_of_good hphase hrail hpf hgood), ?_⟩
    refine domRelease_of_held (by rw [generatorsStart_length]; exact hlt) d.isLt (by rw [generatorsStart_txn]; exact htxn) ?_
    rw [generatorsStart_dom hlt]
    exact hheld
  · intro hphase hheld hrail hpf k hk hgood
    refine ⟨_, congrArg Host.Outcome.next (powerGood_of_not_good hphase hrail hpf hk hgood), generatorsStart_domOn, ?_⟩
    rw [generatorsStart_dom hlt, ← hheld]

end Sys2Proof.Machine
